-- ==== Sys2Proof/Word.lean ====
section
/-! DEFINITION. The one machine word of this block: a byte of a frame or of the serial memory.
Everything else the manual counts (distances, speeds, times, ids) is a plain number with a range. -/

namespace Sys2Proof

/-- One byte, as frames (R43) and the configuration image (R193) carry it. -/
abbrev Byte := BitVec 8

end Sys2Proof
end

