-- ==== Sys2Proof/Syntax.lean ====
section
/-! DEFINITION. The commands of the HC-316: one constructor of `Instr` for each row of
spec/opcode_table.json, with the operands the manual gives that event. The first operand `dt` of every
command is the part's own time in µs that has passed since the command before it (DESIGN CHOICE, log entry 1). -/

namespace Sys2Proof

/-- The motion states of Table 5-2. -/
inductive Motion where
  | parked | lost | held | running | stopping | braked | configFault
  deriving DecidableEq, Repr

/-- The vehicle restraint states of Table 6-3. -/
inductive Restraint where
  | released | checking | secure | alarm | fault
  deriving DecidableEq, Repr

/-- The show clock states of Table 8-2. -/
inductive ClockState where
  | free | acquire | locked | holdover
  deriving DecidableEq, Repr

/-- The result a CUEST carries (Table 2-9). -/
inductive CueResult where
  | done | busy | refused | fault
  deriving DecidableEq, Repr

/-- The grant kinds of Table 2-5. -/
inductive GrantKind where
  | unlock | lock | dispatch | park | wake
  deriving DecidableEq, Repr

/-- The two scene slots of R123. -/
inductive SlotId where
  | one | two
  deriving DecidableEq, Repr

/-- The source station and the route signature of a frame's header (Table 2-4). -/
structure Header where
  src : Nat
  sig : Nat
  deriving DecidableEq, Repr

/-- The body of a POS frame (Table 2-6). -/
structure PosBody where
  ordinate : Option Nat
  lane : Nat
  entry : Nat
  speed : Nat
  motion : Motion
  restraint : Restraint
  level : Nat
  held : List Nat
  claiming : Option Nat
  clock : ClockState
  deriving DecidableEq, Repr

/-- The body of a CUE frame (Table 2-8). -/
structure CueBody where
  scene : Nat
  cue : Nat
  speed : Nat
  time : Nat
  deriving DecidableEq, Repr

/-- The body of a CUEST frame (Table 2-9). -/
structure CuestBody where
  scene : Nat
  cue : Nat
  result : CueResult
  start : Option Nat
  deriving DecidableEq, Repr

/-- The bodies of the eleven frame kinds (Table 2-5). -/
inductive Body where
  | pos (b : PosBody)
  | stop (level code : Nat)
  | resume
  | claim (scene : Nat)
  | free (scene : Nat)
  | cue (b : CueBody)
  | cuest (b : CuestBody)
  | sync (time scene : Nat)
  | grant (target : Nat) (kind : GrantKind)
  | fix (target entry distance : Nat)
  | clear (target : Nat)
  deriving DecidableEq, Repr

/-- A frame as its bytes read: header fields and body (R43). -/
structure Frame where
  src : Nat
  sig : Nat
  body : Body
  deriving DecidableEq, Repr

/-- The two coil amplitudes on one wire channel (R98). -/
structure Coil where
  left : Nat
  right : Nat
  deriving DecidableEq, Repr

/-- The coil amplitudes on each of the four wire channels; the DSC samples the selected one (R97). -/
structure Coils where
  ch0 : Coil
  ch1 : Coil
  ch2 : Coil
  ch3 : Coil
  deriving DecidableEq, Repr

/-- The raw contacts of one seat, `true` for engaged (R106). -/
structure SeatInput where
  lk : Bool
  bd : Bool
  deriving DecidableEq, Repr

/-- The commands of the block: one constructor for each row of spec/opcode_table.json. -/
inductive Instr where
  | powerOn (dt : Nat)
  | resetInput (dt : Nat)
  | loadEnd (dt : Nat) (memory : List Byte)
  | candidateDiscarded (dt : Nat) (bytes : List Byte)
  | posFrame (dt : Nat) (h : Header) (b : PosBody)
  | stopFrame (dt : Nat) (h : Header) (level code : Nat)
  | resumeFrame (dt : Nat) (h : Header)
  | claimFrame (dt : Nat) (h : Header) (scene : Nat)
  | freeFrame (dt : Nat) (h : Header) (scene : Nat)
  | cueFrame (dt : Nat) (h : Header) (b : CueBody)
  | cuestFrame (dt : Nat) (h : Header) (b : CuestBody)
  | syncFrame (dt : Nat) (h : Header) (time scene : Nat)
  | grantUnlock (dt : Nat) (h : Header) (target : Nat)
  | grantLock (dt : Nat) (h : Header) (target : Nat)
  | grantDispatch (dt : Nat) (h : Header) (target : Nat)
  | grantPark (dt : Nat) (h : Header) (target : Nat)
  | grantWake (dt : Nat) (h : Header) (target : Nat)
  | fixFrame (dt : Nat) (h : Header) (target entry distance : Nat)
  | clearFrame (dt : Nat) (h : Header) (target : Nat)
  | carrierBusy (dt : Nat)
  | frameTransmit (dt : Nat)
  | posPeriodTimerExpiry (dt : Nat)
  | netSilenceTimerExpiry (dt : Nat)
  | staleTime (dt : Nat) (station : Nat)
  | dropTime (dt : Nat) (station : Nat)
  | odometerPulse (dt : Nat)
  | markerRead (dt : Nat) (id : Nat)
  | dwellTimerExpiry (dt : Nat)
  | controlPeriodExpiry (dt : Nat) (coils : Coils)
  | sampleTimerExpiry (dt : Nat) (raw : List SeatInput)
  | confirmTimerExpiry (dt : Nat) (seat : Nat)
  | contradictionTimerExpiry (dt : Nat) (seat : Nat)
  | claimWindowExpiry (dt : Nat) (slot : SlotId)
  | pendingTimerExpiry (dt : Nat)
  | cueTimeout (dt : Nat) (ref : Nat)
  | lateWindowExpiry (dt : Nat) (ref : Nat)
  | referenceSilent (dt : Nat)
  | samplePeriod (dt : Nat)
  | transferCompletion (dt : Nat) (samples : List Int)
  | status (dt : Nat)
  | readRoute (dt : Nat)
  | readPeers (dt : Nat)
  | readSeats (dt : Nat)
  | readScenes (dt : Nat)
  | readVoices (dt : Nat)
  | readClock (dt : Nat)
  | readIncidents (dt : Nat)
  | clearIncidents (dt : Nat)
  | serviceStopOn (dt : Nat)
  | serviceStopOff (dt : Nat)
  | park (dt : Nat)
  | restart (dt : Nat)
  | testClip (dt : Nat) (clip : Nat)
  | unknownCommand (dt : Nat) (line : String)
  | serviceReplySent (dt : Nat)
  | powerLoss (dt : Nat)
  deriving DecidableEq, Repr

end Sys2Proof
end

