-- ==== Sys2Proof/Decode.lean ====
section
/-! DEFINITION. Decoding by the bits of spec/opcode_table.json. No row of the table gives bits: the part's
commands are events, not words. -/

namespace Sys2Proof

/-- The command that a word of `nbits` bits spells by the table: none, since no row has bits. -/
def decodeTableWord (_nbits _w : Nat) : Option Instr := none

end Sys2Proof
end

