-- ==== Sys2Proof/Config.lean ====
section
/-! DEFINITION. What is fixed for the machine between one start and the next: the contents of the
configuration image (R192, Tables 1-1, 7-3, 11-2), and the model's free values, opaque constants that no
proof can evaluate. -/

namespace Sys2Proof

/-- FREE VALUE (DESIGN CHOICE, log entry 2). The n-th order that the manual leaves open ("the order in which they act is
not fixed", R33, R113, R179, R186, R188): the model reads it modulo the number of orders. -/
opaque Config.freeOrder : Nat → Nat

/-- FREE VALUE (DESIGN CHOICE, log entry 3). The byte that the serial memory gives at an address beyond the bytes that
the LOAD_END command carries. -/
opaque Config.unreadByte : Nat → Byte

/-- The hold condition of a route entry (Table 1-1). -/
inductive Hold where
  | none
  | dispatch
  | scene (s : Nat)
  | dwell (t : Nat)
  deriving DecidableEq, Repr

/-- The DSC's reaction when the guide is lost (Table 1-1). -/
inductive LossMode where
  | hold | center
  deriving DecidableEq, Repr

/-- The cabin outputs a request reaches (Table 1-1). -/
inductive Mask where
  | front | rear | both
  deriving DecidableEq, Repr

/-- The sound action of a route entry (Table 1-1). -/
inductive SoundAction where
  | play (clip voice gain loops fade : Nat) (mask : Mask)
  | stop (voice : Nat)
  | flush (voice : Nat)
  deriving DecidableEq, Repr

/-- The scene action of a route entry (Table 1-1). -/
inductive SceneAction where
  | claim (s : Nat)
  | free (s : Nat)
  deriving DecidableEq, Repr

/-- One entry of the route table (Table 1-1). `channel` is `none` for NONE; bit `n` of `skip` is class `n`;
bit 0 of `effects` is the first effect output (R193). -/
structure RouteEntry where
  start : Nat
  length : Nat
  lane : Nat
  cap : Nat
  feedforward : Int
  channel : Option Nat
  gain : Nat
  lossMode : LossMode
  skip : BitVec 8
  hold : Hold
  platform : Option Nat
  marker : Nat
  window : Nat
  suppress : Bool
  effects : BitVec 8
  sound : Option SoundAction
  scene : Option SceneAction
  chain : Option Nat
  deriving DecidableEq, Repr

/-- The trigger of a cue word (Table 7-3). -/
inductive Trigger where
  | atDistance (d : Nat)
  | afterTime (t : Nat)
  | onDone
  deriving DecidableEq, Repr

/-- The sound linked to a cue (Table 7-3). -/
structure SoundLink where
  clip : Nat
  voice : Nat
  gain : Nat
  deriving DecidableEq, Repr

/-- One cue word (Table 7-3). -/
structure CueWord where
  scene : Nat
  cue : Nat
  trigger : Trigger
  chain : Bool
  suppressLate : Bool
  link : Option SoundLink
  deriving DecidableEq, Repr

/-- One entry of the clip directory (R162). -/
structure Clip where
  address : Nat
  length : Nat
  loopStart : Nat
  baseGain : Nat
  deriving DecidableEq, Repr

/-- One fade template: v0 to v15 and the duration in ms (R169). -/
structure FadeTemplate where
  values : List Nat
  duration : Nat
  deriving DecidableEq, Repr

/-- The clock mode of the option block (R152). -/
inductive ClockMode where
  | holdover | center
  deriving DecidableEq, Repr

/-- The option block (Table 11-2), in the order of that table. -/
structure Options where
  station : Nat
  vehicleClass : Nat
  signature : Nat
  routeLength : Nat
  vehicleLength : Nat
  margin : Nat
  serviceDecel : Nat
  accelLimit : Nat
  reaction : Nat
  vmax : Nat
  lookAhead : Nat
  horizon : Nat
  posPeriod : Nat
  staleTime : Nat
  dropTime : Nat
  netSilence : Nat
  claimWindow : Nat
  cueTimeout : Nat
  lateWindow : Nat
  seatCount : Nat
  debounce : Nat
  confirmTime : Nat
  contraTime : Nat
  odometer : Nat
  guideSpan : Nat
  guideFloor : Nat
  guideLoss : Nat
  steerMax : Nat
  steerRate : Nat
  syncLatency : Nat
  lockWindow : Nat
  stepThreshold : Nat
  clockMode : ClockMode
  soundLate : Nat
  duckLevel : Nat
  restraintClip : Nat
  stopClip : Nat
  deriving DecidableEq, Repr

/-- The whole configuration that a load hands to the blocks (R192, R194). -/
structure Configuration where
  opt : Options
  route : List RouteEntry
  words : List CueWord
  clips : List Clip
  fades : List FadeTemplate
  sceneMap : List Nat
  deriving DecidableEq, Repr

/-- An option block of zeros: what the field holds while no image has been loaded. No rule reads it then
(DESIGN CHOICE, log entry 4). -/
def Options.blank : Options :=
  ⟨0, 0, 0, 0, 0, 0, 0, 0, 0, 0, 0, 0, 0, 0, 0, 0, 0, 0, 0, 0, 0, 0, 0, 0, 0, 0, 0, 0, 0, 0, 0, 0,
    .holdover, 0, 0, 0, 0⟩

/-- No configuration: the value before the first load ends in READY (DESIGN CHOICE, log entry 4). -/
def Configuration.blank : Configuration := ⟨Options.blank, [], [], [], [], []⟩

/-- The entry read at an index outside the route table: the smallest record that Table 1-1 allows. No
state that a load can lead to reads it (DESIGN CHOICE, log entry 4). -/
def RouteEntry.smallest : RouteEntry :=
  ⟨0, 100, 0, 50, 0, none, 0, .hold, 0, .none, none, 0, 0, false, 0, none, none, none⟩

end Sys2Proof
end

