-- ==== Sys2Proof/Machine/Operands.lean ====
section
/-! DEFINITION. The forms in which commands reach the block from outside: frames as bytes with their CRC,
their ranges and their senders (R29 to R32, R43, R44, Table 2-1), and the lines of the service link (R200). -/

namespace Sys2Proof.Machine

/-! ### Stations and ranges -/

/-- Stations 1–47 are vehicles. -/
def isVehicle (n : Nat) : Bool := 1 ≤ n && n ≤ 47

/-- Stations 48–63 are fixed stations. -/
def isFixed (n : Nat) : Bool := 48 ≤ n && n ≤ 63

/-- A station number (Table 2-4). -/
def isStation (n : Nat) : Bool := 1 ≤ n && n ≤ 63

/-- A scene id. -/
def isScene (n : Nat) : Bool := 1 ≤ n && n ≤ 63

/-- A frame kind's field that holds a scene or 0 for none. -/
def optScene (n : Nat) : Option Nat := if n = 0 then none else some n

/-- Unsigned values below `2 ^ bits`. -/
def fits (bits n : Nat) : Bool := n < 2 ^ bits

/-- The ranges of Table 2-6 that do not depend on the configuration. -/
def posInRange (b : PosBody) : Bool :=
  (match b.ordinate with | none => true | some o => fits 24 o)
    && b.lane ≤ 3 && b.entry ≤ 255 && fits 16 b.speed
    && b.motion ≠ .parked && b.motion ≠ .configFault && b.level ≤ 2
    && b.held.length ≤ 2 && b.held.all isScene && decide b.held.Nodup
    && (match b.claiming with | none => true | some c => isScene c)

/-- The ranges of Tables 2-5 to 2-9 that do not depend on the configuration (R31, R32, R44). -/
def bodyInRange : Body → Bool
  | .pos b => posInRange b
  | .stop level code => 1 ≤ level && level ≤ 2 && code ≤ 15
  | .resume => true
  | .claim s => isScene s
  | .free s => isScene s
  | .cue b => isScene b.scene && b.cue ≤ 255 && fits 16 b.speed && fits 32 b.time
  | .cuest b =>
    isScene b.scene && b.cue ≤ 255 && (match b.start with | none => true | some t => fits 32 t)
  | .sync time scene => fits 32 time && scene ≤ 63
  | .grant target _ => isStation target
  | .fix target entry distance => isStation target && entry ≤ 255 && fits 16 distance
  | .clear target => isStation target

/-- The header ranges of R29 (3) and the body ranges of R44. -/
def frameInRange (f : Frame) : Bool :=
  isStation f.src && 1 ≤ f.sig && fits 16 f.sig && bodyInRange f.body

/-- Which stations may send a kind (Table 2-1, R30). -/
def senderMay (src : Nat) : Body → Bool
  | .pos _ => isVehicle src
  | .stop _ _ => isStation src
  | .resume => isFixed src
  | .claim _ => isVehicle src
  | .free _ => isVehicle src
  | .cue _ => isVehicle src
  | .cuest _ => isFixed src
  | .sync _ _ => isFixed src
  | .grant _ _ => isFixed src
  | .fix _ _ _ => isFixed src
  | .clear _ => isFixed src

/-! ### Bytes -/

/-- A number in `w` bytes, most significant byte first (R43, R193). -/
def beBytes : Nat → Nat → List Byte
  | 0, _ => []
  | w + 1, n => BitVec.ofNat 8 (n / 256 ^ w) :: beBytes w n

/-- The number that bytes hold, most significant byte first (R43, R193). -/
def beNat (bs : List Byte) : Nat := bs.foldl (fun acc b => acc * 256 + b.toNat) 0

/-- One bit of the CRC-16 with the polynomial x^16 + x^12 + x^5 + 1 (R43). -/
def crc16Bit (c : BitVec 16) : BitVec 16 := if c.msb then (c <<< (1 : Nat)) ^^^ 0x1021#16 else c <<< (1 : Nat)

/-- `n` bits of the CRC-16. -/
def crc16Bits : Nat → BitVec 16 → BitVec 16
  | 0, c => c
  | n + 1, c => crc16Bits n (crc16Bit c)

/-- One byte of the CRC-16, most significant bit first (R43). -/
def crc16Byte (c : BitVec 16) (b : Byte) : BitVec 16 :=
  crc16Bits 8 (c ^^^ (BitVec.setWidth 16 b <<< (8 : Nat)))

/-- The CRC-16 of R43: starting value 65,535, no final inversion. -/
def crc16 (bs : List Byte) : BitVec 16 := bs.foldl crc16Byte 0xFFFF#16

/-! ### Named values of frame fields -/

/-- Motion state codes of Table 2-6; PARKED and CONFIG-FAULT are never on the net. -/
def motionCode : Motion → Nat
  | .lost => 0
  | .held => 1
  | .running => 2
  | .stopping => 3
  | .braked => 4
  | .parked => 5
  | .configFault => 6

/-- The motion state that a code of Table 2-6 names. -/
def motionOf : Nat → Option Motion
  | 0 => some .lost
  | 1 => some .held
  | 2 => some .running
  | 3 => some .stopping
  | 4 => some .braked
  | _ => none

/-- Restraint state codes of Table 2-6. -/
def restraintCode : Restraint → Nat
  | .released => 0
  | .checking => 1
  | .secure => 2
  | .alarm => 3
  | .fault => 4

/-- The restraint state that a code of Table 2-6 names. -/
def restraintOf : Nat → Option Restraint
  | 0 => some .released
  | 1 => some .checking
  | 2 => some .secure
  | 3 => some .alarm
  | 4 => some .fault
  | _ => none

/-- Show clock state codes of Table 2-6. -/
def clockCode : ClockState → Nat
  | .free => 0
  | .acquire => 1
  | .locked => 2
  | .holdover => 3

/-- The show clock state that a code of Table 2-6 names. -/
def clockOf : Nat → Option ClockState
  | 0 => some .free
  | 1 => some .acquire
  | 2 => some .locked
  | 3 => some .holdover
  | _ => none

/-- Result codes of Table 2-9. -/
def resultCode : CueResult → Nat
  | .done => 0
  | .busy => 1
  | .refused => 2
  | .fault => 3

/-- The result that a code of Table 2-9 names. -/
def resultOf : Nat → Option CueResult
  | 0 => some .done
  | 1 => some .busy
  | 2 => some .refused
  | 3 => some .fault
  | _ => none

/-- Grant kind codes of Table 2-5. -/
def grantCode : GrantKind → Nat
  | .unlock => 0
  | .lock => 1
  | .dispatch => 2
  | .park => 3
  | .wake => 4

/-- The grant kind that a code of Table 2-5 names. -/
def grantOf : Nat → Option GrantKind
  | 0 => some .unlock
  | 1 => some .lock
  | 2 => some .dispatch
  | 3 => some .park
  | 4 => some .wake
  | _ => none

/-- The kind code of a body (Table 2-5). -/
def kindCode : Body → Nat
  | .pos _ => 1
  | .stop _ _ => 2
  | .resume => 3
  | .claim _ => 4
  | .free _ => 5
  | .cue _ => 6
  | .cuest _ => 7
  | .sync _ _ => 8
  | .grant _ _ => 9
  | .fix _ _ _ => 10
  | .clear _ => 11

/-- The body length of a kind code, or none for a code outside Table 2-5. -/
def bodyLength : Nat → Option Nat
  | 1 => some 15
  | 2 => some 2
  | 3 => some 0
  | 4 => some 1
  | 5 => some 1
  | 6 => some 8
  | 7 => some 8
  | 8 => some 5
  | 9 => some 2
  | 10 => some 4
  | 11 => some 1
  | _ => none

/-- The scene code of a list place: 0 where the list has none (Table 2-6). -/
def sceneAt (l : List Nat) (i : Nat) : Nat := l.getD i 0

/-! ### Encoding -/

/-- A presence byte and a field of `w` bytes; an absent field is sent as zero (R43). -/
def optField (w : Nat) : Option Nat → List Byte
  | none => 0#8 :: beBytes w 0
  | some v => 1#8 :: beBytes w v

/-- The body bytes of a frame (Tables 2-5 to 2-9). -/
def encodeBody : Body → List Byte
  | .pos b =>
    optField 3 b.ordinate ++ beBytes 1 b.lane ++ beBytes 1 b.entry ++ beBytes 2 b.speed
      ++ beBytes 1 (motionCode b.motion) ++ beBytes 1 (restraintCode b.restraint) ++ beBytes 1 b.level
      ++ beBytes 1 (sceneAt b.held 0) ++ beBytes 1 (sceneAt b.held 1)
      ++ beBytes 1 (b.claiming.getD 0) ++ beBytes 1 (clockCode b.clock)
  | .stop level code => beBytes 1 level ++ beBytes 1 code
  | .resume => []
  | .claim s => beBytes 1 s
  | .free s => beBytes 1 s
  | .cue b => beBytes 1 b.scene ++ beBytes 1 b.cue ++ beBytes 2 b.speed ++ beBytes 4 b.time
  | .cuest b =>
    beBytes 1 b.scene ++ beBytes 1 b.cue ++ beBytes 1 (resultCode b.result) ++ optField 4 b.start
  | .sync time scene => beBytes 4 time ++ beBytes 1 scene
  | .grant target kind => beBytes 1 target ++ beBytes 1 (grantCode kind)
  | .fix target entry distance => beBytes 1 target ++ beBytes 1 entry ++ beBytes 2 distance
  | .clear target => beBytes 1 target

/-- The header and body of a frame, before the CRC (Table 2-4). -/
def encodeUnchecked (f : Frame) : List Byte :=
  let body := encodeBody f.body
  beBytes 1 (kindCode f.body) ++ beBytes 1 f.src ++ beBytes 2 f.sig ++ beBytes 1 body.length ++ body

/-- A frame as it stands on the channel, the CRC high byte first (R43). -/
def encodeFrame (f : Frame) : List Byte :=
  let data := encodeUnchecked f
  data ++ beBytes 2 (crc16 data).toNat

/-! ### Decoding -/

/-- A presence byte and its field: any presence byte but 0 and 1 is out of range (R43). -/
def presence (p : Byte) (v : Nat) : Option (Option Nat) :=
  if p = 0#8 then some none else if p = 1#8 then some (some v) else none

/-- The two held-scene bytes of a POS: a second without a first, or two equal ones, is out of range (R44). -/
def heldOf (a b : Nat) : Option (List Nat) :=
  if a = 0 then (if b = 0 then some [] else none)
  else if b = 0 then some [a]
  else if a = b then none else some [a, b]

/-- The body that `bytes` spell for a kind code, or none where the length or a code fails. -/
def decodeBody : Nat → List Byte → Option Body
  | 1, [p, o2, o1, o0, lane, entry, v1, v0, m, r, a, h1, h2, c, k] => do
    let ordinate ← presence p (beNat [o2, o1, o0])
    let motion ← motionOf m.toNat
    let restraint ← restraintOf r.toNat
    let held ← heldOf h1.toNat h2.toNat
    let clock ← clockOf k.toNat
    some (.pos ⟨ordinate, lane.toNat, entry.toNat, beNat [v1, v0], motion, restraint, a.toNat, held,
      optScene c.toNat, clock⟩)
  | 2, [level, code] => some (.stop level.toNat code.toNat)
  | 3, [] => some .resume
  | 4, [s] => some (.claim s.toNat)
  | 5, [s] => some (.free s.toNat)
  | 6, [s, c, v1, v0, t3, t2, t1, t0] =>
    some (.cue ⟨s.toNat, c.toNat, beNat [v1, v0], beNat [t3, t2, t1, t0]⟩)
  | 7, [s, c, r, p, t3, t2, t1, t0] => do
    let result ← resultOf r.toNat
    let start ← presence p (beNat [t3, t2, t1, t0])
    some (.cuest ⟨s.toNat, c.toNat, result, start⟩)
  | 8, [t3, t2, t1, t0, s] => some (.sync (beNat [t3, t2, t1, t0]) s.toNat)
  | 9, [target, g] => do
    let kind ← grantOf g.toNat
    some (.grant target.toNat kind)
  | 10, [target, entry, d1, d0] => some (.fix target.toNat entry.toNat (beNat [d1, d0]))
  | 11, [target] => some (.clear target.toNat)
  | _, _ => none

/-- The form checks of R29 (length, CRC, kind code, body length) and the reading of the body. -/
def decodeFrame (bytes : List Byte) : Option Frame :=
  let data := bytes.take (bytes.length - 2)
  let tail := bytes.drop (bytes.length - 2)
  if bytes.length < 7 then none
  else if beNat tail ≠ (crc16 data).toNat then none
  else match data with
    | k :: src :: g1 :: g0 :: len :: body =>
      if bodyLength k.toNat ≠ some len.toNat then none
      else if body.length ≠ len.toNat then none
      else (decodeBody k.toNat body).map fun b => ⟨src.toNat, beNat [g1, g0], b⟩
    | _ => none

/-- A candidate that passes R29 and the configuration-independent ranges of R31 and R32. -/
def parseCandidate (bytes : List Byte) : Option Frame :=
  match decodeFrame bytes with
  | some f => if frameInRange f then some f else none
  | none => none

/-! ### Service lines -/

/-- The commands of the service link (R200 to R203). -/
inductive ServiceCommand where
  | status | readRoute | readPeers | readSeats | readScenes | readVoices | readClock | readIncidents
  | clearIncidents | stopOn | stopOff | park | restart
  | testClip (clip : Nat)
  deriving DecidableEq, Repr

/-- The value of a decimal digit. -/
def digitOf (c : Char) : Option Nat :=
  if '0'.toNat ≤ c.toNat ∧ c.toNat ≤ '9'.toNat then some (c.toNat - '0'.toNat) else none

/-- A decimal number: one digit or more, and nothing else. -/
def decimal : List Char → Option Nat
  | [] => none
  | cs => cs.foldl (fun acc c => match acc, digitOf c with
      | some n, some d => some (n * 10 + d)
      | _, _ => none) (some 0)

/-- The command that a received line names, or none for a line of any other form (R200). -/
def parseLine (line : String) : Option ServiceCommand :=
  if line = "STATUS" then some .status
  else if line = "READ-ROUTE" then some .readRoute
  else if line = "READ-PEERS" then some .readPeers
  else if line = "READ-SEATS" then some .readSeats
  else if line = "READ-SCENES" then some .readScenes
  else if line = "READ-VOICES" then some .readVoices
  else if line = "READ-CLOCK" then some .readClock
  else if line = "READ-INCIDENTS" then some .readIncidents
  else if line = "CLEAR-INCIDENTS" then some .clearIncidents
  else if line = "SERVICE-STOP ON" then some .stopOn
  else if line = "SERVICE-STOP OFF" then some .stopOff
  else if line = "PARK" then some .park
  else if line = "RESTART" then some .restart
  else if line.toList.take 10 = "TEST-CLIP ".toList then
    (decimal (line.toList.drop 10)).map .testClip
  else none

end Sys2Proof.Machine
end

