-- ==== Sys2Proof/Machine/State.lean ====
section
/-! DEFINITION. The state of the HC-316, block by block as the manual's tables give it, the reasons a step
can stop, and the state right after a power-on start. All of it is plain data. -/

namespace Sys2Proof.Machine

/-- A timer of the part's own millisecond time: stopped, or running until the given ms of that time.
Its "ms to go" is the difference to the present ms (DEDUCED, log entry 5). -/
abbrev Timer := Option Nat

/-! ### Configuration and Service (Table 11-1) -/

/-- The load states of R194. -/
inductive LoadState where
  | loading | ready | configFault
  deriving DecidableEq, Repr

/-- The fault codes of R195. -/
inductive FaultCode where
  | format | crc | range | emptyRoute | chain | reference
  deriving DecidableEq, Repr

/-- The sections of the image (R192). -/
inductive Section where
  | header | options | route | words | clips | fades | sceneMap
  deriving DecidableEq, Repr

/-- The first failing item: its section and, within a section of records, its index (R195). -/
structure FaultItem where
  where_ : Section
  index : Option Nat
  deriving DecidableEq, Repr

/-- The start causes of R197. -/
inductive StartCause where
  | power | pin | wake
  deriving DecidableEq, Repr

/-- The wake reasons of R199. -/
inductive WakeReason where
  | net | restraint | service
  deriving DecidableEq, Repr

/-- One value of a data reply (R200): a number, a name as the manual writes it, or ABSENT. -/
inductive Item where
  | num (n : Int)
  | name (s : String)
  | absent
  deriving DecidableEq, Repr

/-- The reasons of a refusal on the service link (R200). -/
inductive RefuseReason where
  | busy | state | range
  deriving DecidableEq, Repr

/-- A reply of the service link (R200). -/
inductive Reply where
  | ok
  | refused (r : RefuseReason)
  | data (items : List Item)
  deriving DecidableEq, Repr

/-- Configuration and Service. The parser is IDLE where `reply` is none, and REPLYING with that reply
otherwise; `restarting` says that the OK being sent is that of a RESTART (R203). -/
structure Cfs where
  load : LoadState
  faultCode : Option FaultCode
  faultItem : Option FaultItem
  startCause : StartCause
  wakeReason : Option WakeReason
  reply : Option Reply
  restarting : Bool
  deriving DecidableEq, Repr

/-! ### Net Interface (Table 2-3) -/

/-- What waits in the transmit queue (R27): content as requested, but a POS takes its content when sent;
`ref` is the issue reference of a CUE (R38), `urgent` says that a POS stands in class C (R36). -/
inductive Waiting where
  | stop (level code : Nat)
  | claim (scene : Nat)
  | free (scene : Nat)
  | cue (b : CueBody) (ref : Nat)
  | pos (urgent : Bool)
  deriving DecidableEq, Repr

/-- The Net Interface. `idleFrom` is the moment, in µs of the part's own time, at which the running idle
measurement started (R34), `q` the draw of that measurement, `gen` the sequence generator's value,
`sending` the bytes of the frame in transmission (R26), `carrierBusy` the carrier-present line. -/
structure Ni where
  queue : List Waiting
  sending : Option (List Byte)
  carrierBusy : Bool
  idleFrom : Option Nat
  q : Nat
  gen : Nat
  posTimer : Timer
  silence : Timer
  deriving DecidableEq, Repr

/-! ### Peer Table (Table 3-1) -/

/-- The vehicle data of a VEHICLE record. -/
structure VehicleData where
  ordinate : Option Nat
  lane : Nat
  entry : Nat
  speed : Nat
  motion : Motion
  restraint : Restraint
  level : Nat
  held : List Nat
  claiming : Option Nat
  deriving DecidableEq, Repr

/-- One peer record. Its kind follows from the station number (R46); `stale` is the freshness STALE;
times are in the part's own ms. -/
structure Peer where
  station : Nat
  foreign : Bool
  lastHeard : Nat
  stale : Bool
  pinAhead : Bool
  pin1 : Bool
  pin2 : Bool
  lastSync : Option Nat
  data : Option VehicleData
  deriving DecidableEq, Repr

/-! ### Speed Authority Unit (Table 4-1) -/

/-- What set the authority at its last change. -/
inductive LimitSource where
  | peer
  | target (n : Nat)
  | cap
  | vmax
  | profile
  | forced
  deriving DecidableEq, Repr

/-- The kinds of look-ahead targets. -/
inductive TargetKind where
  | entryStart | holdEnd
  deriving DecidableEq, Repr

/-- One target of the look-ahead list. -/
structure Target where
  kind : TargetKind
  entry : Nat
  distance : Nat
  speed : Nat
  curve : Nat
  deriving DecidableEq, Repr

/-- The nearest-ahead identity with its distance, gap and peer target speed, and the freshness of its
record at the computation (R66, R82). -/
structure Ahead where
  station : Nat
  distance : Nat
  gap : Nat
  speed : Nat
  stale : Bool
  deriving DecidableEq, Repr

/-- The Speed Authority Unit. -/
structure Sau where
  authority : Nat
  source : LimitSource
  curve : Option Nat
  ahead : Option Ahead
  targets : List Target
  deriving DecidableEq, Repr

/-! ### Drive and Steering Controller (Table 5-1) -/

/-- Whether the selected wire is followed (Table 5-1). -/
inductive GuideState where
  | onWire | offWire | unguided
  deriving DecidableEq, Repr

/-- The Drive and Steering Controller. `history` holds the pulse counts of the last four control periods,
the newest first; `brakeReleased` is the brake line; `loss` is in µs. -/
structure Dsc where
  motion : Motion
  timer : Timer
  history : List Nat
  pulses : Nat
  speed : Nat
  command : Nat
  brakeReleased : Bool
  channel : Option Nat
  gain : Nat
  lossMode : LossMode
  feedforward : Int
  guide : GuideState
  offset : Option Int
  coils : Option Coil
  loss : Nat
  steering : Int
  deriving DecidableEq, Repr

/-! ### Restraint Monitor (Tables 6-1 and 6-4) -/

/-- The seat states of Table 6-1. -/
inductive SeatState where
  | notFitted | opened | closing | locked | fault
  deriving DecidableEq, Repr

/-- One seat record; the debounced and raw values are `true` for engaged, the run times in ms. -/
structure Seat where
  state : SeatState
  lk : Bool
  bd : Bool
  rawLk : Option Bool
  rawBd : Option Bool
  runLk : Nat
  runBd : Nat
  confirm : Timer
  contra : Timer
  deriving DecidableEq, Repr

/-- The Restraint Monitor: seats 1 to 8 in order, the vehicle restraint state, the release output. -/
structure Rm where
  vehicle : Restraint
  release : Bool
  seats : List Seat
  timer : Timer
  deriving DecidableEq, Repr

/-! ### Route Sequencer (Table 1-2) -/

/-- The Route Sequencer; `distance` is in µm, bit 0 of `effects` is the first effect output. -/
structure Rsq where
  known : Bool
  entry : Nat
  distance : Nat
  released : Bool
  atEnd : Bool
  dwell : Timer
  lastMarker : Option Nat
  chainStart : Option Nat
  effects : BitVec 8
  deriving DecidableEq, Repr

/-! ### Scene and Cue Unit (Tables 7-1, 7-4, 7-5) -/

/-- The states of a scene slot. -/
inductive SlotState where
  | free | claiming | waiting | held
  deriving DecidableEq, Repr

/-- Which slot entered the state first (R123). -/
inductive SlotOrder where
  | first | second
  deriving DecidableEq, Repr

/-- A scene slot record. -/
structure Slot where
  scene : Option Nat
  state : SlotState
  window : Timer
  blocking : Option Nat
  order : Option SlotOrder
  deriving DecidableEq, Repr

/-- Why the pending word waits (Table 7-4). -/
inductive WaitReason where
  | trigger | stopped | trackerFull
  deriving DecidableEq, Repr

/-- The watched outcome of R136. -/
inductive WatchedOutcome where
  | none | pending | done | other
  deriving DecidableEq, Repr

/-- How the last chain ended. -/
inductive ChainEnd where
  | none | complete | abandoned | broken
  deriving DecidableEq, Repr

/-- The chain state; `distance` is in µm. -/
structure Chain where
  running : Bool
  pending : Option Nat
  reason : WaitReason
  distance : Nat
  timer : Timer
  watched : Option Nat
  outcome : WatchedOutcome
  lastEnd : ChainEnd
  deriving DecidableEq, Repr

/-- The states of a cue tracker record. -/
inductive CueState where
  | queued | sent | timedOut
  deriving DecidableEq, Repr

/-- One cue tracker record; times are in the part's own ms. -/
structure Track where
  ref : Nat
  scene : Nat
  cue : Nat
  state : CueState
  queuedAt : Nat
  sentAt : Option Nat
  suppressLate : Bool
  link : Option SoundLink
  timer : Timer
  deriving DecidableEq, Repr

/-- The ten outcome counters of R143. -/
structure Counters where
  done : Nat
  busy : Nat
  refused : Nat
  fault : Nat
  timedOut : Nat
  late : Nat
  dropped : Nat
  superseded : Nat
  notHeld : Nat
  abandoned : Nat
  deriving DecidableEq, Repr

/-- The Scene and Cue Unit; `nextRef` is the issue reference that the next issue takes. -/
structure Scu where
  slot1 : Slot
  slot2 : Slot
  chain : Chain
  tracker : List Track
  counters : Counters
  nextRef : Nat
  deriving DecidableEq, Repr

/-! ### Show Clock (Table 8-1) -/

/-- The Show Clock: the base reading in µs and the moment (µs of the part's own time) at which it was
taken (R146). A clock that does not run reads its base. -/
structure Sck where
  running : Bool
  base : Nat
  baseAt : Nat
  trim : Int
  state : ClockState
  reference : Option Nat
  priority : Option Nat
  lastSync : Option Nat
  awaited : Bool
  inCount : Nat
  outCount : Nat
  lastError : Option Int
  lastScene : Option Nat
  deriving DecidableEq, Repr

/-! ### Sound Playback Engine (Table 9-1) -/

/-- Who made a play request (R161). -/
inductive Origin where
  | route | cue | restraint | stop | service
  deriving DecidableEq, Repr

/-- A play request; `start` is none for IMMEDIATE and otherwise a show time. -/
structure PlayRequest where
  clip : Nat
  start : Option Nat
  gain : Nat
  loops : Nat
  fade : Nat
  mask : Mask
  origin : Origin
  deriving DecidableEq, Repr

/-- The voice states of Table 9-2. -/
inductive VoiceState where
  | idle | waiting | playing | fading
  deriving DecidableEq, Repr

/-- A running fade: direction, segment 0–15 and samples into the segment. -/
structure Fade where
  out : Bool
  segment : Nat
  into : Nat
  deriving DecidableEq, Repr

/-- The refill states of a voice. -/
inductive Refill where
  | none | requested | inTransfer
  deriving DecidableEq, Repr

/-- One voice record. -/
structure Voice where
  state : VoiceState
  current : Option PlayRequest
  queue : List PlayRequest
  position : Nat
  loops : Nat
  fade : Option Fade
  buffer : List Int
  primed : Bool
  refill : Refill
  underruns : Nat
  refusals : Nat
  deriving DecidableEq, Repr

/-- The transfer that the memory link carries: its voice, the clip it reads and the sample indices of that
clip in playback order (R175), and whether it has been disowned (R176). -/
structure Transfer where
  voice : Nat
  clip : Nat
  indices : List Nat
  disowned : Bool
  deriving DecidableEq, Repr

/-- The Sound Playback Engine: voices 0 to 3, the last-served voice, the memory link's transfer and the
samples the two cabin outputs give. -/
structure Spe where
  v0 : Voice
  v1 : Voice
  v2 : Voice
  v3 : Voice
  lastServed : Nat
  link : Option Transfer
  front : Int
  rear : Int
  deriving DecidableEq, Repr

/-! ### Stop Controller (Table 10-1) -/

/-- The local stop causes of Table 10-2. -/
inductive Cause where
  | restraint | position | overrun | guide | sceneConflict | sceneOverflow | netSilent | foreign | service
  deriving DecidableEq, Repr

/-- The cause of an incident or of the latch: a local cause, the code of a STOP frame, or PEER-LEVEL. -/
inductive StopCause where
  | local_ (c : Cause)
  | code (n : Nat)
  | peerLevel
  deriving DecidableEq, Repr

/-- The first cause of the latch with its origin station (R183). -/
structure FirstCause where
  cause : StopCause
  origin : Nat
  deriving DecidableEq, Repr

/-- An incident record (Table 10-3). -/
structure Incident where
  seq : Nat
  cause : StopCause
  level : Nat
  origin : Nat
  time : Nat
  ordinate : Option Nat
  speed : Nat
  restraint : Restraint
  gap : Option Nat
  held : List Nat
  deriving DecidableEq, Repr

/-- The Stop Controller. The asserted level is worked out from the active causes (R181). -/
structure Stc where
  causes : List Cause
  latch : Nat
  first : Option FirstCause
  incidents : List Incident
  nextSeq : Nat
  deriving DecidableEq, Repr

/-! ### The whole -/

/-- The state of the part. `powered` is the supply, `now` the part's own time in µs, `choices` counts the
open orders settled so far (the model's own field, DESIGN CHOICE, log entry 2), `cfg` is the loaded configuration,
`pending` the commands that wait, first in first out. -/
structure State where
  powered : Bool
  now : Nat
  choices : Nat
  cfg : Configuration
  cfs : Cfs
  ni : Ni
  ptb : List Peer
  sau : Sau
  dsc : Dsc
  rm : Rm
  rsq : Rsq
  scu : Scu
  sck : Sck
  spe : Spe
  stc : Stc
  pending : List Instr
  deriving DecidableEq, Repr

/-- The reasons a step stops with a fault. There is none: the manual gives every command an effect in every
state, or discards it, so the type has no constructor and no step can fault (safe). -/
inductive Fault where
  deriving DecidableEq, Repr

/-- The reasons a step is refused. -/
inductive Refusal where
  /-- Raised by `exec` alone, for a command that has no meaning yet; none is left (safe). -/
  | notModelled (mnemonic : String)
  deriving DecidableEq, Repr

/-! ### Updates -/

/-- The state with its `powered` replaced. -/
def State.setPowered (s : State) (x : Bool) : State := { s with powered := x }

/-- The state with its `now` replaced. -/
def State.setNow (s : State) (x : Nat) : State := { s with now := x }

/-- The state with its `choices` replaced. -/
def State.setChoices (s : State) (x : Nat) : State := { s with choices := x }

/-- The state with its `cfg` replaced. -/
def State.setCfg (s : State) (x : Configuration) : State := { s with cfg := x }

/-- The state with its `cfs` replaced. -/
def State.setCfs (s : State) (x : Cfs) : State := { s with cfs := x }

/-- The state with its `ni` replaced. -/
def State.setNi (s : State) (x : Ni) : State := { s with ni := x }

/-- The state with its `ptb` replaced. -/
def State.setPtb (s : State) (x : List Peer) : State := { s with ptb := x }

/-- The state with its `sau` replaced. -/
def State.setSau (s : State) (x : Sau) : State := { s with sau := x }

/-- The state with its `dsc` replaced. -/
def State.setDsc (s : State) (x : Dsc) : State := { s with dsc := x }

/-- The state with its `rm` replaced. -/
def State.setRm (s : State) (x : Rm) : State := { s with rm := x }

/-- The state with its `rsq` replaced. -/
def State.setRsq (s : State) (x : Rsq) : State := { s with rsq := x }

/-- The state with its `scu` replaced. -/
def State.setScu (s : State) (x : Scu) : State := { s with scu := x }

/-- The state with its `sck` replaced. -/
def State.setSck (s : State) (x : Sck) : State := { s with sck := x }

/-- The state with its `spe` replaced. -/
def State.setSpe (s : State) (x : Spe) : State := { s with spe := x }

/-- The state with its `stc` replaced. -/
def State.setStc (s : State) (x : Stc) : State := { s with stc := x }

/-- The state with its `pending` replaced. -/
def State.setPending (s : State) (x : List Instr) : State := { s with pending := x }


/-! ### Start values -/

/-- Table 11-1 after power-on. -/
def Cfs.start : Cfs := ⟨.loading, none, none, .power, none, none, false⟩

/-- Table 2-3 after a start, the carrier-present line idle (DESIGN CHOICE, log entry 6). -/
def Ni.start : Ni := ⟨[], none, false, none, 0, 0, none, none⟩

/-- Table 4-1 after a start. -/
def Sau.start : Sau := ⟨0, .forced, none, none, []⟩

/-- Table 5-1 after a start. -/
def Dsc.start : Dsc :=
  ⟨.lost, none, [0, 0, 0, 0], 0, 0, 0, false, none, 0, .hold, 0, .unguided, none, none, 0, 0⟩

/-- A seat record with the start values of Table 6-1 in the given state. -/
def Seat.start (st : SeatState) : Seat := ⟨st, false, false, none, none, 0, 0, none, none⟩

/-- Table 6-4 after a start: every seat NOT-FITTED until READY. -/
def Rm.start : Rm := ⟨.checking, false, List.replicate 8 (Seat.start .notFitted), none⟩

/-- Table 1-2 after a start. -/
def Rsq.start : Rsq := ⟨false, 0, 0, false, false, none, none, none, 0⟩

/-- A FREE slot (Table 7-1). -/
def Slot.free : Slot := ⟨none, .free, none, none, none⟩

/-- Table 7-4 after a start. -/
def Chain.start : Chain := ⟨false, none, .trigger, 0, none, none, .none, .none⟩

/-- The counters at a start (R143). -/
def Counters.zero : Counters := ⟨0, 0, 0, 0, 0, 0, 0, 0, 0, 0⟩

/-- The SCU after a start (R144). -/
def Scu.start : Scu := ⟨Slot.free, Slot.free, Chain.start, [], Counters.zero, 0⟩

/-- Table 8-1 after a start, the clock standing at 0. -/
def Sck.start : Sck := ⟨false, 0, 0, 0, .free, none, none, none, false, 0, 0, none, none⟩

/-- Table 9-1 after a start. -/
def Voice.start : Voice := ⟨.idle, none, [], 0, 0, none, [], false, .none, 0, 0⟩

/-- The SPE after a start (R180). -/
def Spe.start : Spe := ⟨Voice.start, Voice.start, Voice.start, Voice.start, 3, none, 0, 0⟩

/-- Table 10-1 after power-on. -/
def Stc.start : Stc := ⟨[], 0, none, [], 0⟩

/-- The part right after a power-on start, its configuration load begun (R194). -/
def State.reset : State :=
  ⟨true, 0, 0, Configuration.blank, Cfs.start, Ni.start, [], Sau.start, Dsc.start, Rm.start, Rsq.start,
    Scu.start, Sck.start, Spe.start, Stc.start, []⟩

end Sys2Proof.Machine
end

