-- ==== Sys2Proof/Machine/Flags.lean ====
section
/-! DEFINITION. The flags and levels that the manual works out from other state: stop causes and the
asserted level (Table 10-2, R181), whether a block acts on its events, pending holds, held scenes, seats. -/

namespace Sys2Proof.Machine

/-- The cause codes of Table 10-2 and Table 2-7. -/
def Cause.code : Cause → Nat
  | .restraint => 1
  | .position => 2
  | .overrun => 3
  | .guide => 4
  | .sceneConflict => 5
  | .sceneOverflow => 6
  | .netSilent => 7
  | .foreign => 8
  | .service => 9

/-- The levels of Table 10-2. -/
def Cause.level : Cause → Nat
  | .restraint => 2
  | .position => 2
  | .overrun => 2
  | .guide => 1
  | .sceneConflict => 1
  | .sceneOverflow => 1
  | .netSilent => 1
  | .foreign => 1
  | .service => 1

/-- The latched causes of Table 10-2. -/
def Cause.latched : Cause → Bool
  | .overrun => true
  | .sceneConflict => true
  | .sceneOverflow => true
  | .restraint => false
  | .position => false
  | .guide => false
  | .netSilent => false
  | .foreign => false
  | .service => false

/-- The asserted level: the highest level among the active local causes, or 0 (R181). -/
def Stc.asserted (c : Stc) : Nat := c.causes.foldr (fun x l => max x.level l) 0

/-- The blocks act on their events: READY and neither PARKED nor CONFIG-FAULT (R4, R28, R47, R83, R124,
R161, R182). -/
def State.active (s : State) : Bool :=
  s.powered && decide (s.cfs.load = .ready) && decide (s.dsc.motion ≠ .parked)
    && decide (s.dsc.motion ≠ .configFault)

/-- The part is parked. -/
def State.parked (s : State) : Bool :=
  s.powered && decide (s.cfs.load = .ready) && decide (s.dsc.motion = .parked)

/-- The kind of a peer record (R46). -/
def Peer.isVehicle (p : Peer) : Bool := 1 ≤ p.station && p.station ≤ 47

/-- A record is pinned while it carries any flag (R57). -/
def Peer.pinned (p : Peer) : Bool := p.pinAhead || p.pin1 || p.pin2

/-- The record shows a held or claiming scene (R51, R60). -/
def Peer.showsScene (p : Peer) : Bool :=
  match p.data with
  | some d => !d.held.isEmpty || d.claiming.isSome
  | none => false

/-- A FOREIGN vehicle record (R61). -/
def Peer.foreignVehicle (p : Peer) : Bool := p.isVehicle && p.foreign

/-- A slot of the SCU. -/
def Scu.slot (u : Scu) : SlotId → Slot
  | .one => u.slot1
  | .two => u.slot2

/-- The other slot. -/
def otherSlot : SlotId → SlotId
  | .one => .two
  | .two => .one

/-- The slot holds scene `x` in state HELD. -/
def Slot.holds (k : Slot) (x : Nat) : Bool := decide (k.state = .held) && decide (k.scene = some x)

/-- A slot holds scene `x` in state HELD (R18, R135). -/
def Scu.holdsScene (u : Scu) (x : Nat) : Bool := u.slot1.holds x || u.slot2.holds x

/-- The scene of a slot in the given state, as a list. -/
def Slot.sceneIn (k : Slot) (st : SlotState) : List Nat :=
  if k.state = st then k.scene.toList else []

/-- The scenes of the slots in a state, the slot of order FIRST before that of order SECOND (R123). -/
def Scu.scenesIn (u : Scu) (st : SlotState) : List Nat :=
  if u.slot1.order = some .second then u.slot2.sceneIn st ++ u.slot1.sceneIn st
  else u.slot1.sceneIn st ++ u.slot2.sceneIn st

/-- The held scenes in hold order (R123, R39). -/
def Scu.heldScenes (u : Scu) : List Nat := u.scenesIn .held

/-- The claiming scene of a POS (R39). -/
def Scu.claimingScene (u : Scu) : Option Nat := (u.scenesIn .claiming).head?

/-- A fitted seat (R105). -/
def Seat.fitted (k : Seat) : Bool := decide (k.state ≠ .notFitted)

/-- Every fitted seat is LOCKED (R112, R114, R115). -/
def Rm.allLocked (m : Rm) : Bool := m.seats.all fun k => !k.fitted || decide (k.state = .locked)

/-- Some seat is in FAULT (R112). -/
def Rm.anyFault (m : Rm) : Bool := m.seats.any fun k => decide (k.state = .fault)

/-- Voice 0 ducks voices 1 to 3 while it is PLAYING or FADING (R172). -/
def Spe.ducking (e : Spe) : Bool := decide (e.v0.state = .playing) || decide (e.v0.state = .fading)

/-- The speed set-point given to the drive: the command in RUNNING and STOPPING, 0 otherwise (R93). -/
def Dsc.setPoint (d : Dsc) : Nat :=
  if d.motion = .running ∨ d.motion = .stopping then d.command else 0

/-- The steering set-point: the command, and 0 in CONFIG-FAULT (Table 5-2). -/
def Dsc.steeringSetPoint (d : Dsc) : Int := if d.motion = .configFault then 0 else d.steering

end Sys2Proof.Machine
end

