-- ==== Sys2Proof/Machine/Ops.lean ====
section
/-! DEFINITION. Shared operations: the part's own time, the open orders, and reading the configuration. -/

namespace Sys2Proof

/-! ### The route table -/

/-- The entry at an index (R1, R2). -/
def Configuration.entry (c : Configuration) (i : Nat) : RouteEntry :=
  c.route.getD i RouteEntry.smallest

/-- The entry is skipped by the vehicle's class (R3). -/
def Configuration.skips (c : Configuration) (i : Nat) : Bool :=
  (c.entry i).skip.getLsbD c.opt.vehicleClass

/-- The indices after `i` in the circular order of R3, ending with `i` itself. -/
def Configuration.following (c : Configuration) (i : Nat) : List Nat :=
  (List.range c.route.length).map fun k => (i + 1 + k) % c.route.length

/-- The successor of R3: the first entry after `i`, in circular order, that is not skipped. -/
def Configuration.successor (c : Configuration) (i : Nat) : Nat :=
  ((c.following i).find? fun j => !c.skips j).getD i

/-! ### The other tables -/

/-- A clip that no directory entry describes. -/
def Clip.none : Clip := ⟨0, 1, 0, 0⟩

/-- The clip at an index, counted from 1 (R162). -/
def Configuration.clip (c : Configuration) (i : Nat) : Clip :=
  if i = 0 then Clip.none else c.clips.getD (i - 1) Clip.none

/-- A fade template by number (R169). -/
def Configuration.fade (c : Configuration) (n : Nat) : FadeTemplate := c.fades.getD n ⟨[], 10⟩

/-- The value of a template's segment (R169). -/
def FadeTemplate.value (t : FadeTemplate) (segment : Nat) : Nat := t.values.getD segment 128

/-- The station of the scene→station map, or 0 (R192). -/
def Configuration.station (c : Configuration) (scene : Nat) : Nat :=
  if scene = 0 then 0 else c.sceneMap.getD (scene - 1) 0

end Sys2Proof

namespace Sys2Proof.Machine

/-- The part's own millisecond time (DESIGN CHOICE, log entry 1). -/
def State.ms (s : State) : Nat := s.now / 1000

/-- `dt` µs of the part's own time pass (DESIGN CHOICE, log entry 1). -/
def State.elapse (dt : Nat) (s : State) : State := s.setNow (s.now + dt)

/-- `dt` µs pass, and at least the time until the given µs: the moment of an expiry (DESIGN CHOICE, log entry 7). -/
def State.elapseTo (dt moment : Nat) (s : State) : State := s.setNow (max (s.now + dt) moment)

/-- The moment of a timer's expiry: `dt` µs pass and the timer's ms is reached (DESIGN CHOICE, log entry 7). -/
def State.expire (dt : Nat) (t : Timer) (s : State) : State :=
  match t with
  | some d => s.elapseTo dt (d * 1000)
  | none => s.elapse dt

/-- The ms to go of a timer. -/
def State.toGo (s : State) (t : Timer) : Option Nat := t.map (· - s.ms)

/-- A counter that saturates at 65,535 (R143, Table 9-1). -/
def bump (n : Nat) : Nat := min 65535 (n + 1)

/-- The order in force for the next point at which the manual leaves an order open, one of `n`
(DESIGN CHOICE, log entry 2). -/
def State.openOrder (s : State) (n : Nat) : Nat := Config.freeOrder s.choices % n

/-- One open order has been settled (DESIGN CHOICE, log entry 2). -/
def State.settled (s : State) : State := s.setChoices (s.choices + 1)

/-- Two actions of one event in the order that the open choice gives (DESIGN CHOICE, log entry 2). -/
def State.inEitherOrder (f g : State → State) (s : State) : State :=
  if s.openOrder 2 = 0 then g (f s.settled) else f (g s.settled)

/-- Three actions of one event in the order that the open choice gives (DESIGN CHOICE, log entry 2). -/
def State.inAnyOrder (f g h : State → State) (s : State) : State :=
  match s.openOrder 6 with
  | 0 => h (g (f s.settled))
  | 1 => g (h (f s.settled))
  | 2 => h (f (g s.settled))
  | 3 => f (h (g s.settled))
  | 4 => g (f (h s.settled))
  | _ => f (g (h s.settled))

/-! ### The place on the route -/

/-- The current entry. -/
def State.entry (s : State) : RouteEntry := s.cfg.entry s.rsq.entry

/-- A hold is pending: the hold condition is not NONE and the hold-released flag is clear (section 1.4). -/
def State.holdPending (s : State) : Bool := decide (s.entry.hold ≠ .none) && !s.rsq.released

/-- The distance into the entry in mm (R5). -/
def State.distanceMm (s : State) : Nat := s.rsq.distance / 1000

/-- The own ordinate, offered while the position is KNOWN (R23). -/
def State.ordinate (s : State) : Option Nat :=
  if s.rsq.known then some ((s.entry.start + s.distanceMm) % s.cfg.opt.routeLength) else none

/-! ### The show clock's reading -/

/-- The clock's reading at a moment of the part's own time: B + Δ + Δ × trim / 20,000,000, rounded toward
minus infinity, modulo 2^32 (R146). -/
def Sck.readingAt (k : Sck) (now : Nat) : Nat :=
  if k.running then
    let d : Int := (now - k.baseAt : Nat)
    (((k.base : Int) + d + (d * k.trim) / 20000000) % 4294967296).toNat
  else k.base

/-- The show time at this moment (R147). -/
def State.showTime (s : State) : Nat := s.sck.readingAt s.now

/-- The difference `a − b` of two show times, read as a signed value (section 5.3). -/
def timeDiff (a b : Nat) : Int :=
  let d := ((a : Int) - (b : Int)) % 4294967296
  if d < 2147483648 then d else d - 4294967296

end Sys2Proof.Machine
end

