-- ==== Sys2Proof/Machine/Image.lean ====
section
/-! DEFINITION. Reading and checking the configuration image (R192, R193, R195). -/

namespace Sys2Proof.Machine

/-! ### Reading bytes -/

/-- The place in the serial memory that is read next: the bytes from there on that the load was given, and
the address. -/
structure Cursor where
  rest : List Byte
  pos : Nat
  deriving DecidableEq, Repr

/-- The next byte; beyond the bytes given it is free (DESIGN CHOICE, log entry 3). -/
def Cursor.byte (c : Cursor) : Byte := c.rest.headD (Config.unreadByte c.pos)

/-- The cursor one byte on. -/
def Cursor.next (c : Cursor) : Cursor := ⟨c.rest.drop 1, c.pos + 1⟩

/-- A number of `w` bytes, most significant byte first, on top of `acc` (R193). -/
def Cursor.numberFrom : Nat → Nat → Cursor → Nat × Cursor
  | 0, acc, c => (acc, c)
  | w + 1, acc, c => c.next.numberFrom w (acc * 256 + c.byte.toNat)

/-- A number of `w` bytes (R193). -/
def Cursor.number (w : Nat) (c : Cursor) : Nat × Cursor := c.numberFrom w 0

/-- The fields of a record by their widths (R193). -/
def Cursor.fields : List Nat → Cursor → List Nat × Cursor
  | [], c => ([], c)
  | w :: ws, c =>
    let a := c.number w
    let b := a.2.fields ws
    (a.1 :: b.1, b.2)

/-- The fewest of one to four bytes that hold every value up to `hi` (R193). -/
def widthFor (hi : Nat) : Nat :=
  if hi < 256 then 1 else if hi < 65536 then 2 else if hi < 16777216 then 3 else 4

/-! ### The option block (Table 11-2) -/

/-- A parameter of Table 11-2: its range and its default. -/
structure Param where
  lo : Nat
  hi : Nat
  default : Option Nat
  deriving DecidableEq, Repr

/-- Table 11-2 in its order; a clock mode is coded 0 HOLDOVER, 1 CENTER (R193). -/
def params : List Param :=
  [⟨1, 47, none⟩, ⟨0, 7, none⟩, ⟨1, 65535, none⟩, ⟨10000, 999999, none⟩, ⟨1000, 6000, none⟩,
    ⟨200, 5000, none⟩, ⟨100, 2000, none⟩, ⟨100, 1500, none⟩, ⟨0, 500, none⟩, ⟨100, 2000, none⟩,
    ⟨2000, 60000, none⟩, ⟨2000, 60000, none⟩]
  ++ [⟨20, 200, some 50⟩, ⟨100, 1000, some 250⟩, ⟨1000, 10000, some 3000⟩, ⟨200, 5000, some 1000⟩,
    ⟨100, 1000, some 300⟩, ⟨50, 1000, some 200⟩, ⟨0, 5000, some 1000⟩, ⟨1, 8, none⟩,
    ⟨5, 100, some 20⟩, ⟨100, 2000, some 300⟩, ⟨20, 1000, some 100⟩]
  ++ [⟨100, 20000, none⟩, ⟨20, 500, none⟩, ⟨16, 4095, none⟩, ⟨0, 5000, none⟩, ⟨100, 3500, none⟩,
    ⟨1, 200, none⟩, ⟨0, 5000, none⟩, ⟨5, 500, some 50⟩, ⟨100, 10000, some 500⟩, ⟨0, 1, none⟩,
    ⟨0, 2000, none⟩, ⟨0, 256, none⟩, ⟨1, 192, none⟩, ⟨0, 192, some 0⟩]

/-- The widths of a parameter's fields: a presence byte before one that has a default (R193). -/
def Param.widths (p : Param) : List Nat :=
  match p.default with
  | some _ => [1, widthFor p.hi]
  | none => [widthFor p.hi]

/-- A value within the parameter's range (R195). -/
def Param.accept (p : Param) (v : Nat) : Option Nat := if p.lo ≤ v ∧ v ≤ p.hi then some v else none

/-- The value that a parameter's fields give (R192, R193, R195). -/
def Param.read (p : Param) (fields : List Nat) : Option Nat :=
  match p.default, fields with
  | some d, [presence, v] => if presence = 0 then some d else if presence = 1 then p.accept v else none
  | none, [v] => p.accept v
  | _, _ => none

/-- The parameters read one after another. -/
def readParams : List Param → Cursor → Option (List Nat) × Cursor
  | [], c => (some [], c)
  | p :: ps, c =>
    let f := c.fields p.widths
    match p.read f.1 with
    | none => (none, f.2)
    | some v =>
      let r := readParams ps f.2
      (r.1.map (v :: ·), r.2)

/-- The option block from its values in the order of Table 11-2. -/
def optionsOf (v : List Nat) : Options where
  station := v.getD 0 0
  vehicleClass := v.getD 1 0
  signature := v.getD 2 0
  routeLength := v.getD 3 0
  vehicleLength := v.getD 4 0
  margin := v.getD 5 0
  serviceDecel := v.getD 6 0
  accelLimit := v.getD 7 0
  reaction := v.getD 8 0
  vmax := v.getD 9 0
  lookAhead := v.getD 10 0
  horizon := v.getD 11 0
  posPeriod := v.getD 12 0
  staleTime := v.getD 13 0
  dropTime := v.getD 14 0
  netSilence := v.getD 15 0
  claimWindow := v.getD 16 0
  cueTimeout := v.getD 17 0
  lateWindow := v.getD 18 0
  seatCount := v.getD 19 0
  debounce := v.getD 20 0
  confirmTime := v.getD 21 0
  contraTime := v.getD 22 0
  odometer := v.getD 23 0
  guideSpan := v.getD 24 0
  guideFloor := v.getD 25 0
  guideLoss := v.getD 26 0
  steerMax := v.getD 27 0
  steerRate := v.getD 28 0
  syncLatency := v.getD 29 0
  lockWindow := v.getD 30 0
  stepThreshold := v.getD 31 0
  clockMode := if v.getD 32 0 = 0 then .holdover else .center
  soundLate := v.getD 33 0
  duckLevel := v.getD 34 0
  restraintClip := v.getD 35 0
  stopClip := v.getD 36 0

/-! ### Route entries (Table 1-1) -/

/-- The widths of a route entry's fields, 37 bytes in all (R193). -/
def entryWidths : List Nat :=
  [3, 2, 1, 2, 2, 1, 1, 1, 1, 1, 2, 1, 1, 2, 2, 1, 1, 1, 1, 1, 2, 1, 1, 1, 1, 1, 1, 1]

/-- A value between two bounds. -/
def within (lo hi v : Nat) : Bool := lo ≤ v && v ≤ hi

/-- A 16-bit number in two's complement (R193). -/
def signed16 (v : Nat) : Int := if v < 32768 then v else (v : Int) - 65536

/-- A guide channel, NONE coded 4 (R193). -/
def channelOf (v : Nat) : Option (Option Nat) :=
  if v ≤ 3 then some (some v) else if v = 4 then some none else none

/-- A guide-loss mode. -/
def lossModeOf (v : Nat) : Option LossMode :=
  if v = 0 then some .hold else if v = 1 then some .center else none

/-- A hold condition (R193). -/
def holdOf (kind v : Nat) : Option Hold :=
  if kind = 0 then some .none
  else if kind = 1 then some .dispatch
  else if kind = 2 then (if isScene v then some (.scene v) else none)
  else if kind = 3 then some (.dwell v)
  else none

/-- An optional field with its range (R193, R195). -/
def optionalOf (presence v : Nat) (ok : Bool) : Option (Option Nat) :=
  if presence = 0 then some none else if presence = 1 ∧ ok then some (some v) else none

/-- A flag byte. -/
def flagOf (v : Nat) : Option Bool := if v = 0 then some false else if v = 1 then some true else none

/-- An output mask: 0 front, 1 rear, 2 both. -/
def maskOf (v : Nat) : Option Mask :=
  if v = 0 then some .front else if v = 1 then some .rear else if v = 2 then some .both else none

/-- A sound action (R193). -/
def soundOf (kind clip voice gain loops fade mask : Nat) : Option (Option SoundAction) :=
  if kind = 0 then some none
  else if kind = 1 then
    match maskOf mask with
    | some m =>
      if within 1 192 clip && within 1 3 voice && within 0 256 gain && within 0 255 loops && within 0 3 fade then
        some (some (.play clip voice gain loops fade m))
      else none
    | none => none
  else if kind = 2 then (if within 1 3 voice then some (some (.stop voice)) else none)
  else if kind = 3 then (if within 1 3 voice then some (some (.flush voice)) else none)
  else none

/-- A scene action (R193). -/
def sceneActionOf (kind scene : Nat) : Option (Option SceneAction) :=
  if kind = 0 then some none
  else if kind = 1 then (if isScene scene then some (some (.claim scene)) else none)
  else if kind = 2 then (if isScene scene then some (some (.free scene)) else none)
  else none

/-- A route entry from its fields, or none where one is out of range (Table 1-1, R193, R195). -/
def entryOf (routeLength : Nat) : List Nat → Option RouteEntry
  | [start, length, lane, cap, ff, ch, gain, loss, skip, hk, hv, pp, pv, marker, window, sup, eff,
      sk, clip, voice, sgain, loops, fade, mask, ak, av, cp, cv] => do
    let channel ← channelOf ch
    let lossMode ← lossModeOf loss
    let hold ← holdOf hk hv
    let platform ← optionalOf pp pv (isFixed pv)
    let suppress ← flagOf sup
    let sound ← soundOf sk clip voice sgain loops fade mask
    let scene ← sceneActionOf ak av
    let chain ← optionalOf cp cv (within 0 127 cv)
    if start < routeLength ∧ within 100 65535 length ∧ within 0 3 lane ∧ within 50 2000 cap
        ∧ -3500 ≤ signed16 ff ∧ signed16 ff ≤ 3500 ∧ within 0 255 gain ∧ within 0 4095 marker
        ∧ within 0 2000 window then
      some ⟨start, length, lane, cap, signed16 ff, channel, gain, lossMode, BitVec.ofNat 8 skip, hold, platform,
        marker, window, suppress, BitVec.ofNat 8 eff, sound, scene, chain⟩
    else none
  | _ => none

/-! ### The other records -/

/-- The widths of a cue word's fields, 12 bytes in all (R193). -/
def wordWidths : List Nat := [1, 1, 1, 2, 1, 1, 1, 1, 1, 2]

/-- A trigger (R193). -/
def triggerOf (kind v : Nat) : Option Trigger :=
  if kind = 0 then some (.atDistance v)
  else if kind = 1 then some (.afterTime v)
  else if kind = 2 then some .onDone
  else none

/-- A sound link (Table 7-3, R193). -/
def linkOf (presence clip voice gain : Nat) : Option (Option SoundLink) :=
  if presence = 0 then some none
  else if presence = 1 ∧ within 1 192 clip ∧ within 1 3 voice ∧ within 0 256 gain then
    some (some ⟨clip, voice, gain⟩)
  else none

/-- A cue word from its fields (Table 7-3). -/
def wordOf : List Nat → Option CueWord
  | [scene, cue, tk, tv, ch, sup, lp, clip, voice, gain] => do
    let trigger ← triggerOf tk tv
    let chain ← flagOf ch
    let suppressLate ← flagOf sup
    let link ← linkOf lp clip voice gain
    if isScene scene then some ⟨scene, cue, trigger, chain, suppressLate, link⟩ else none
  | _ => none

/-- The widths of a clip entry's fields, 12 bytes in all (R193). -/
def clipWidths : List Nat := [4, 3, 3, 2]

/-- A clip entry from its fields (R162, R192, R195). -/
def clipOf (imageLength : Nat) : List Nat → Option Clip
  | [address, length, loopStart, baseGain] =>
    if imageLength ≤ address ∧ 1 ≤ length ∧ loopStart < length ∧ baseGain ≤ 256 then
      some ⟨address, length, loopStart, baseGain⟩
    else none
  | _ => none

/-- The widths of a fade template's fields, 18 bytes in all (R193). -/
def fadeWidths : List Nat := List.replicate 16 1 ++ [2]

/-- A fade template from its fields (R169). -/
def fadeOf (f : List Nat) : Option FadeTemplate :=
  let values := f.take 16
  let duration := f.getD 16 0
  if values.all (within 0 128) && within 10 5000 duration then some ⟨values, duration⟩ else none

/-- An entry of the scene→station map (R192). -/
def mapOf : List Nat → Option Nat
  | [v] => if v = 0 ∨ isFixed v then some v else none
  | _ => none

/-- The size of a record in bytes (R193). -/
def recordSize (widths : List Nat) : Nat := widths.sum

/-- The size of the option block (R193). -/
def optionBlockSize : Nat := (params.map fun p => p.widths.sum).sum

/-- The sum of the section sizes that the counts give (R193, R195). -/
def imageSize (n words clips : Nat) : Nat :=
  9 + optionBlockSize + (2 + recordSize entryWidths * n) + (1 + recordSize wordWidths * words)
    + (1 + recordSize clipWidths * clips) + 4 * recordSize fadeWidths + 63

/-! ### The load -/

/-- What a load ends with: a configuration, or the first failing check and its item (R194 to R196). -/
abbrev Loaded (α : Type) := Except (FaultCode × FaultItem) α

/-- `n` records of one kind, the first with the index `i` (R195). -/
def readRecords {α : Type} (sec : Section) (widths : List Nat) (read : List Nat → Option α) :
    Nat → Nat → Cursor → Loaded (List α × Cursor)
  | 0, _, c => .ok ([], c)
  | n + 1, i, c =>
    let f := c.fields widths
    match read f.1 with
    | none => .error (.range, ⟨sec, some i⟩)
    | some x =>
      match readRecords sec widths read n (i + 1) f.2 with
      | .error e => .error e
      | .ok r => .ok (x :: r.1, r.2)

/-- A count at the head of a section (R193, R195). -/
def readCount (sec : Section) (lo hi : Nat) (c : Cursor) : Loaded (Nat × Cursor) :=
  let n := c.number (widthFor hi)
  if within lo hi n.1 then .ok n else .error (.range, ⟨sec, none⟩)

/-- The first element of a list that fails a check, with its index. -/
def firstFailing {α : Type} (ok : α → Bool) : Nat → List α → Option Nat
  | _, [] => none
  | i, x :: xs => if ok x then firstFailing ok (i + 1) xs else some i

/-- An error where a check names a failing index. -/
def requireAll {α : Type} (code : FaultCode) (sec : Section) (ok : α → Bool) (xs : List α) : Loaded Unit :=
  match firstFailing ok 0 xs with
  | some i => .error (code, ⟨sec, some i⟩)
  | none => .ok ()

/-- An error where a check fails. -/
def require (code : FaultCode) (item : FaultItem) (ok : Bool) : Loaded Unit :=
  if ok then .ok () else .error (code, item)

/-- Every byte of a stretch of the serial memory (R195). -/
def Cursor.bytes : Nat → Cursor → List Byte
  | 0, _ => []
  | n + 1, c => c.byte :: c.next.bytes n

/-- One bit of the CRC-32 (R195). -/
def crc32Bit (c : BitVec 32) : BitVec 32 :=
  if c.msb then (c <<< (1 : Nat)) ^^^ 0x04C11DB7#32 else c <<< (1 : Nat)

/-- `n` bits of the CRC-32. -/
def crc32Bits : Nat → BitVec 32 → BitVec 32
  | 0, c => c
  | n + 1, c => crc32Bits n (crc32Bit c)

/-- One byte of the CRC-32, most significant bit first (R195). -/
def crc32Byte (c : BitVec 32) (b : Byte) : BitVec 32 :=
  crc32Bits 8 (c ^^^ (BitVec.setWidth 32 b <<< (24 : Nat)))

/-- The CRC-32 of R195: starting value 4,294,967,295 and a final inversion. -/
def crc32 (bs : List Byte) : BitVec 32 := ~~~ (bs.foldl crc32Byte 0xFFFFFFFF#32)

/-- An entry meets its successor, or is skipped (R195, CHAIN). -/
def entryMeets (c : Configuration) (i : Nat) : Bool :=
  c.skips i ||
    decide (((c.entry i).start + (c.entry i).length) % c.opt.routeLength = (c.entry (c.successor i)).start)

/-- The checks made when the image is complete: EMPTY-ROUTE, CHAIN and REFERENCE, in that order (R195). -/
def checkWhole (c : Configuration) : Loaded Unit := do
  let places := List.range c.route.length
  require .emptyRoute ⟨.route, none⟩ (places.any fun i => !c.skips i)
  requireAll .chain .route (entryMeets c) places
  requireAll .reference .route
    (fun e => match e.chain with
      | some i => decide (i < c.words.length)
      | none => true) c.route
  requireAll .reference .route
    (fun e => match e.sound with
      | some (.play clip _ _ _ _ _) => decide (clip ≤ c.clips.length)
      | some (.stop _) => true
      | some (.flush _) => true
      | none => true) c.route
  requireAll .reference .words
    (fun w => match w.link with
      | some l => decide (l.clip ≤ c.clips.length)
      | none => true) c.words
  require .reference ⟨.options, none⟩ (decide (c.opt.restraintClip ≤ c.clips.length))
  require .reference ⟨.options, none⟩ (decide (c.opt.stopClip ≤ c.clips.length))

/-- The load: the image read from the first address in section order, each item checked as it is read
(R192 to R195). -/
def loadImage (memory : List Byte) : Loaded Configuration := do
  let c0 : Cursor := ⟨memory, 0⟩
  let h := c0.fields [1, 4, 4]
  let length := h.1.getD 1 0
  require .format ⟨.header, none⟩ (decide (h.1.getD 0 0 = 1))
  let o := readParams params h.2
  let opt ← match o.1 with
    | some v => .ok (optionsOf v)
    | none => .error (.range, ⟨.options, none⟩)
  let n ← readCount .route 1 256 o.2
  let route ← readRecords .route entryWidths (entryOf opt.routeLength) n.1 0 n.2
  let w ← readCount .words 0 128 route.2
  let words ← readRecords .words wordWidths wordOf w.1 0 w.2
  let k ← readCount .clips 0 192 words.2
  require .format ⟨.header, none⟩ (decide (length = imageSize n.1 w.1 k.1))
  let clips ← readRecords .clips clipWidths (clipOf length) k.1 1 k.2
  let fades ← readRecords .fades fadeWidths fadeOf 4 0 clips.2
  let map ← readRecords .sceneMap [1] mapOf 63 1 fades.2
  require .crc ⟨.header, none⟩ (decide (h.1.getD 2 0 = (crc32 (h.2.bytes (length - 9))).toNat))
  let c : Configuration := ⟨opt, route.1, words.1, clips.1, fades.1, map.1⟩
  checkWhole c
  return c

end Sys2Proof.Machine
end

