-- ==== Sys2Proof/Machine/Clock.lean ====
section
/-! DEFINITION. The Show Clock: base events (R146), reference candidates and switching (R148 to R152), and the
handling of a SYNC (R154 to R158). -/

namespace Sys2Proof.Machine

/-! ### Base events -/

/-- A base event: the reading at this moment becomes the new base (R146). -/
def Sck.rebase (now : Nat) (k : Sck) : Sck := { k with base := k.readingAt now, baseAt := now }

/-- The reading moves by `e`, modulo 2^32, as a base event (R146, R155, R156). -/
def Sck.move (now : Nat) (e : Int) (k : Sck) : Sck :=
  { k with base := (((k.readingAt now : Int) + e) % 4294967296).toNat, baseAt := now }

/-- The trim becomes `t`, as a base event (R146). -/
def Sck.setTrim (now : Nat) (t : Int) (k : Sck) : Sck := { k.rebase now with trim := t }

/-! ### Candidates -/

/-- The station's last SYNC time in the peer table. -/
def State.lastSyncOf (s : State) (station : Nat) : Option Nat :=
  match s.ptb.find? fun p => p.station = station with
  | some p => p.lastSync
  | none => none

/-- A fixed station is live: its last SYNC is less than 400 ms old, or it sent the SYNC being handled
(R148). -/
def State.live (handled : Option Nat) (s : State) (station : Nat) : Bool :=
  isFixed station &&
    (decide (handled = some station)
      || match s.lastSyncOf station with
         | some t => decide (s.ms < t + 400)
         | none => false)

/-- The station of a held scene where it qualifies as priority-1 candidate (R149). -/
def State.qualifies (handled : Option Nat) (s : State) (scene : Nat) : Option Nat :=
  let st := s.cfg.station scene
  if st ≠ 0 ∧ s.live handled st then some st else none

/-- The priority-1 candidate: the first held scene, in hold order, whose station qualifies (R149). -/
def State.candidate1 (handled : Option Nat) (s : State) : Option Nat :=
  (s.scu.heldScenes.filterMap (s.qualifies handled)).head?

/-- The fixed station numbers in rising order. -/
def fixedStations : List Nat := (List.range 16).map (· + 48)

/-- The priority-2 candidate: the lowest-numbered live fixed station (R149). -/
def State.candidate2 (handled : Option Nat) (s : State) : Option Nat :=
  fixedStations.find? (s.live handled)

/-- The chosen candidate with its priority (R149). -/
def State.chosen (handled : Option Nat) (s : State) : Option (Nat × Nat) :=
  match s.candidate1 handled with
  | some c => some (c, 1)
  | none => (s.candidate2 handled).map fun c => (c, 2)

/-! ### Switching -/

/-- A switch of the reference (R151): `heard` is the moment of reception where the switch is made by a SYNC
from the candidate, and the candidate's last SYNC time otherwise. -/
def Sck.switch (station priority : Nat) (heard : Option Nat) (k : Sck) : Sck :=
  { k with
    reference := some station, priority := some priority, lastSync := heard, state := .acquire,
    awaited := true, inCount := 0, outCount := 0 }

/-- The reference last SYNC that a switch takes (R151). -/
def State.heardAt (handled : Option Nat) (s : State) (station : Nat) : Option Nat :=
  if handled = some station then some s.ms else s.lastSyncOf station

/-- The selection at a slot change or at a SYNC: a priority-1 candidate that is not the reference, or any
candidate where there is no reference (R150). -/
def State.select (handled : Option Nat) (s : State) : State :=
  match s.sck.reference, s.candidate1 handled with
  | some r, some c =>
    if c ≠ r then s.setSck (s.sck.switch c 1 (s.heardAt handled c)) else s
  | some _, none => s
  | none, _ =>
    match s.chosen handled with
    | some (c, p) => s.setSck (s.sck.switch c p (s.heardAt handled c))
    | none => s

/-- The reference is lost and no candidate is found (R152). -/
def Sck.lose (mode : ClockMode) (now : Nat) (k : Sck) : Sck :=
  let k1 : Sck := { k with
    reference := none, priority := none, lastSync := none, awaited := false, inCount := 0, outCount := 0 }
  match mode with
  | .holdover => { k1 with state := .holdover }
  | .center => { k1.setTrim now 0 with state := .free }

/-- The selection at the reference's silence (R150, R152). -/
def State.selectAtSilence (s : State) : State :=
  match s.chosen none with
  | some (c, p) => s.setSck (s.sck.switch c p (s.heardAt none c))
  | none => s.setSck (s.sck.lose s.cfg.opt.clockMode s.now)

/-! ### Handling a SYNC -/

/-- The error of a SYNC (R154). -/
def syncError (time latency reading : Nat) : Int := timeDiff (time + latency) reading

/-- A step: the clock moves by the whole error (R155). -/
def Sck.step (now : Nat) (e : Int) (k : Sck) : Sck :=
  { k.move now e with awaited := false, inCount := 0, outCount := 0, state := .acquire }

/-- The trim clamped to −2,048…+2,047 (R156). -/
def clampTrim (t : Int) : Int := max (-2048) (min 2047 t)

/-- The gain divisor G of R156. -/
def Sck.divisor (k : Sck) : Int := if k.state = .locked then 32 else 8

/-- A slew and trim change (R156). -/
def Sck.slew (now : Nat) (e : Int) (k : Sck) : Sck :=
  (k.move now (e.tdiv 2)).setTrim now (clampTrim (k.trim + (e * 200).tdiv k.divisor))

/-- The counting after a slew in ACQUIRE (R157) and in LOCKED (R158). -/
def Sck.count (window : Nat) (e : Int) (k : Sck) : Sck :=
  if k.state = .locked then
    if e.natAbs ≤ window then { k with outCount := 0 }
    else if 3 ≤ k.outCount + 1 then { k with state := .acquire, inCount := 0, outCount := 0 }
    else { k with outCount := k.outCount + 1 }
  else
    if window < e.natAbs then { k with inCount := 0 }
    else if 8 ≤ k.inCount + 1 then { k with state := .locked, inCount := 8, outCount := 0 }
    else { k with inCount := k.inCount + 1 }

/-- An applied SYNC (R154 to R158). -/
def State.applySync (time scene : Nat) (s : State) : State :=
  let e := syncError time s.cfg.opt.syncLatency s.showTime
  let k : Sck := { s.sck with lastSync := some s.ms, lastScene := some scene, lastError := some e }
  s.setSck (
    if k.awaited ∨ s.cfg.opt.stepThreshold < e.natAbs then k.step s.now e
    else (k.slew s.now e).count s.cfg.opt.lockWindow e)

/-- The SCK handles an own-signature SYNC (R150, R154): the selection it calls for, then the SYNC itself
where its source is the reference. -/
def State.handleSync (src time scene : Nat) (s : State) : State :=
  let s1 :=
    match s.sck.reference with
    | none => s.select (some src)
    | some r => if src ≠ r ∧ s.candidate1 (some src) = some src then s.select (some src) else s
  if s1.sck.reference = some src then s1.applySync time scene else s1

end Sys2Proof.Machine
end

