-- ==== Sys2Proof/Machine/Net.lean ====
section
/-! DEFINITION. The Net Interface: the transmit queue (R36, R37), channel access (R34, R35), POS requests and
the content of the frames the part sends (R27, R39, R40). -/

namespace Sys2Proof.Machine

/-! ### The transmit queue -/

/-- The class of a waiting frame as its place in the order S, C, P (Table 2-1, R36). -/
def Waiting.rank : Waiting → Nat
  | .stop _ _ => 0
  | .claim _ => 1
  | .free _ => 1
  | .cue _ _ => 1
  | .pos true => 1
  | .pos false => 2

/-- The waiting frame is a POS. -/
def Waiting.isPos : Waiting → Bool
  | .pos _ => true
  | .stop _ _ => false
  | .claim _ => false
  | .free _ => false
  | .cue _ _ => false

/-- A frame joins at the end of its class (R36). -/
def insertFrame (f : Waiting) : List Waiting → List Waiting
  | [] => [f]
  | x :: xs => if x.rank ≤ f.rank then x :: insertFrame f xs else f :: x :: xs

/-- The newest frame of a class, the last one in queue order, and the queue without it (R37). -/
def dropNewest (rank : Nat) : List Waiting → Option (Waiting × List Waiting)
  | [] => none
  | x :: xs =>
    match dropNewest rank xs with
    | some (y, ys) => some (y, x :: ys)
    | none => if x.rank = rank then some (x, xs) else none

/-- A request at the queue: the queue after it, and the frame that was displaced or refused (R36, R37). -/
def joinQueue (f : Waiting) (q : List Waiting) : List Waiting × Option Waiting :=
  if q.length < 6 then (insertFrame f q, none)
  else if f.rank = 2 then (q, some f)
  else match dropNewest 2 q with
    | some (y, r) => (insertFrame f r, some y)
    | none =>
      if f.rank = 1 then (q, some f)
      else match dropNewest 1 q with
        | some (y, r) => (insertFrame f r, some y)
        | none => (q, some f)

/-- A POS request: it replaces a standing POS, and joins as a frame otherwise (R36, R37). -/
def joinPos (urgent : Bool) (q : List Waiting) : List Waiting :=
  if q.any Waiting.isPos then
    if urgent && q.contains (.pos false) then insertFrame (.pos true) (q.filter fun f => !f.isPos)
    else q
  else (joinQueue (.pos urgent) q).1

/-! ### Channel access -/

/-- The sequence generator's next value (R34). -/
def nextGen (x : Nat) : Nat := (x * 25173 + 13849) % 65536

/-- A measurement starts where none runs, the carrier is idle and the queue is not empty; it draws q
(R34, R35). -/
def Ni.measure (now : Nat) (n : Ni) : Ni :=
  if n.idleFrom.isNone && !n.carrierBusy && !n.queue.isEmpty then
    { n with idleFrom := some now, gen := nextGen n.gen, q := nextGen n.gen / 4096 }
  else n

/-- The queue is replaced, and a measurement starts where the rules call for one. -/
def Ni.withQueue (now : Nat) (q : List Waiting) (n : Ni) : Ni := Ni.measure now { n with queue := q }

/-- The gap of a frame's class in µs (R34). -/
def gapOf (station q : Nat) (f : Waiting) : Nat :=
  if f.rank = 0 then 100
  else if f.rank = 1 then 300 + station % 16 * 25
  else 800 + q * 25

/-- The carrier falls idle: a transmission of the part's own has ended, and a new measurement starts from
zero (R25, R26, R35). -/
def Ni.carrierIdle (now : Nat) (n : Ni) : Ni :=
  Ni.measure now { n with carrierBusy := false, sending := none, idleFrom := none }

/-- The carrier becomes busy: the idle time measured is discarded (R35). -/
def Ni.carrierSeized (n : Ni) : Ni := { n with carrierBusy := true, idleFrom := none }

/-! ### Requests -/

/-- A POS request, class C when urgent; it restarts the POS period timer (R40). -/
def State.requestPos (urgent : Bool) (s : State) : State :=
  s.setNi { s.ni.withQueue s.now (joinPos urgent s.ni.queue) with
    posTimer := some (s.ms + s.cfg.opt.posPeriod) }

/-- A request for a frame other than a POS: the state after it, and the frame displaced or refused (R37). -/
def State.putFrame (f : Waiting) (s : State) : State × Option Waiting :=
  let r := joinQueue f s.ni.queue
  (s.setNi (s.ni.withQueue s.now r.1), r.2)

/-! ### The content of the frames sent -/

/-- The content of a POS, taken from the owning blocks at the moment it is sent (R39). -/
def State.posBody (s : State) : PosBody :=
  { ordinate := s.ordinate
    lane := s.entry.lane
    entry := s.rsq.entry
    speed := s.dsc.speed
    motion := s.dsc.motion
    restraint := s.rm.vehicle
    level := s.stc.asserted
    held := s.scu.heldScenes
    claiming := s.scu.claimingScene
    clock := s.sck.state }

/-- The body of a waiting frame as it is sent now (R27). -/
def State.bodyOf (s : State) : Waiting → Body
  | .stop level code => .stop level code
  | .claim scene => .claim scene
  | .free scene => .free scene
  | .cue b _ => .cue b
  | .pos _ => .pos s.posBody

/-- The bytes of a waiting frame as it is sent now, with the part's own station and signature (R27, R43). -/
def State.bytesOf (s : State) (w : Waiting) : List Byte :=
  encodeFrame ⟨s.cfg.opt.station, s.cfg.opt.signature, s.bodyOf w⟩

end Sys2Proof.Machine
end

