-- ==== Sys2Proof/Machine/Cues.lean ====
section
/-! DEFINITION. Cue words, cue chains and the cue tracker (R132 to R143). -/

namespace Sys2Proof

/-- The cue word at an index (R132). -/
def Configuration.word (c : Configuration) (i : Nat) : CueWord :=
  c.words.getD i ⟨0, 0, .onDone, false, false, none⟩

/-- The index of the word that continues the chain after word `i`, or none where the chain ends with `i`
(R132; a CHAIN flag on the table's last word ends the chain too, DESIGN CHOICE, log entry 8). -/
def Configuration.nextWord (c : Configuration) (i : Nat) : Option Nat :=
  if (c.word i).chain && i < 127 && i + 1 < c.words.length then some (i + 1) else none

/-- How many words the chain holds from word `i` on, bounded by the table's 128 words (R132). -/
def Configuration.chainLength (c : Configuration) : Nat → Nat → Nat
  | 0, _ => 0
  | n + 1, i =>
    match c.nextWord i with
    | some j => c.chainLength n j + 1
    | none => 1

end Sys2Proof

namespace Sys2Proof.Machine

/-! ### Small updates of the SCU -/

/-- The chain state replaced. -/
def State.setChain (s : State) (c : Chain) : State := s.setScu { s.scu with chain := c }

/-- The counters replaced. -/
def State.setCounters (s : State) (c : Counters) : State := s.setScu { s.scu with counters := c }

/-- ABANDONED rises by `n`, saturating (R143). -/
def Counters.abandon (n : Nat) (c : Counters) : Counters :=
  { c with abandoned := min 65535 (c.abandoned + n) }

/-! ### Ending a chain -/

/-- The words of the running chain not yet issued or skipped (R133, R136, R137). -/
def State.wordsLeft (s : State) : Nat :=
  match s.scu.chain.pending with
  | some i => s.cfg.chainLength 128 i
  | none => 0

/-- The chain becomes NONE with the given end; what it watched and its pending word go with it. -/
def Chain.finish (e : ChainEnd) (c : Chain) : Chain :=
  { c with running := false, pending := none, timer := none, watched := none, outcome := .none, lastEnd := e }

/-- The running chain ends with its remaining words counted ABANDONED (R133, R136, R137). -/
def State.abandonChain (e : ChainEnd) (s : State) : State :=
  if s.scu.chain.running then
    s.setScu { s.scu with
      chain := s.scu.chain.finish e
      counters := s.scu.counters.abandon s.wordsLeft }
  else s

/-! ### The tracker -/

/-- The watched outcome becomes `o` where the record `ref` is the watched issue (R136). -/
def Chain.watch (ref : Nat) (o : WatchedOutcome) (c : Chain) : Chain :=
  if c.watched = some ref then { c with outcome := o } else c

/-- The record `ref` leaves the tracker, and the chain that watches it learns the outcome (R136). -/
def Scu.freeRecord (ref : Nat) (o : WatchedOutcome) (u : Scu) : Scu :=
  { u with tracker := u.tracker.filter (fun t => t.ref ≠ ref), chain := u.chain.watch ref o }

/-- The tracker record of a scene and cue number. -/
def Scu.recordOf (u : Scu) (scene cue : Nat) : Option Track :=
  u.tracker.find? fun t => t.scene = scene ∧ t.cue = cue

/-- The tracker record of an issue reference. -/
def Scu.recordRef (u : Scu) (ref : Nat) : Option Track := u.tracker.find? fun t => t.ref = ref

/-- A DROPPED report: a QUEUED record is freed and counted (R139). -/
def Scu.dropReport (ref : Nat) (u : Scu) : Scu :=
  match u.recordRef ref with
  | some t =>
    if t.state = .queued then
      { u.freeRecord ref .other with counters := { u.counters with dropped := bump u.counters.dropped } }
    else u
  | none => u

/-- A SENT report: a QUEUED record becomes SENT and its cue timeout starts (R139). -/
def Scu.sentReport (ref ms timeout : Nat) (u : Scu) : Scu :=
  { u with tracker := u.tracker.map fun t =>
      if t.ref = ref ∧ t.state = .queued then
        { t with state := .sent, sentAt := some ms, timer := some (ms + timeout) }
      else t }

/-- The reference of a CUE that was displaced or refused (R38). -/
def cueRef : Option Waiting → Option Nat
  | some (.cue _ ref) => some ref
  | some (.stop _ _) => none
  | some (.claim _) => none
  | some (.free _) => none
  | some (.pos _) => none
  | none => none

/-- The record that a new issue of the pair supersedes is freed and counted (R138, step 1). -/
def Scu.supersede (w : CueWord) (u : Scu) : Scu :=
  match u.recordOf w.scene w.cue with
  | some t =>
    { u.freeRecord t.ref .other with
      counters := { u.counters with superseded := bump u.counters.superseded } }
  | none => u

/-- The new QUEUED record of a word (R138, step 2). -/
def Scu.appendRecord (w : CueWord) (ms : Nat) (u : Scu) : Scu :=
  { u with
    tracker := u.tracker ++ [⟨u.nextRef, w.scene, w.cue, .queued, ms, none, w.suppressLate, w.link, none⟩]
    nextRef := (u.nextRef + 1) % 65536
    chain := { u.chain with watched := some u.nextRef, outcome := .pending } }

/-- A cue word is issued (R138). A CUE refused by a full queue is reported DROPPED within the issue (R139). -/
def State.issue (w : CueWord) (s : State) : State :=
  let ref := s.scu.nextRef
  let s1 := s.setScu ((s.scu.supersede w).appendRecord w s.ms)
  let p := s1.putFrame (.cue ⟨w.scene, w.cue, s.dsc.speed, s.showTime⟩ ref)
  match cueRef p.2 with
  | some r => p.1.setScu (p.1.scu.dropReport r)
  | none => p.1

/-! ### Chains -/

/-- The word at `i` becomes pending, with its pending timer for AFTER-TIME (R134). -/
def State.becomePending (i : Nat) (s : State) : State :=
  s.setChain { s.scu.chain with
    pending := some i
    reason := .trigger
    timer := match (s.cfg.word i).trigger with
      | .afterTime t => if t = 0 then none else some (s.ms + t)
      | .atDistance _ => none
      | .onDone => none }

/-- After word `i` was issued or skipped its successor becomes pending, or the chain is complete (R133). -/
def State.nextPending (i : Nat) (s : State) : State :=
  match s.cfg.nextWord i with
  | some j => s.becomePending j
  | none => s.setChain (s.scu.chain.finish .complete)

/-- The trigger of the pending word is met (R134). -/
def State.triggerMet (w : CueWord) (s : State) : Bool :=
  match w.trigger with
  | .atDistance d => decide (d ≤ s.scu.chain.distance / 1000)
  | .afterTime _ => s.scu.chain.timer.isNone
  | .onDone => decide (s.scu.chain.outcome = .done) || decide (s.scu.chain.outcome = .none)

/-- The pending word breaks the chain: ON-DONE with the watched outcome OTHER (R136). -/
def State.chainBroken (w : CueWord) (s : State) : Bool :=
  decide (w.trigger = .onDone) && decide (s.scu.chain.outcome = .other)

/-- The word is skipped as NOT-HELD (R135, R136). -/
def Scu.skipWord (u : Scu) : Scu :=
  { u with
    counters := { u.counters with notHeld := bump u.counters.notHeld }
    chain := { u.chain with watched := none, outcome := .other } }

/-- The pending word is tested, and acted on under R135 where its trigger is met; the words after it
follow as far as their triggers are met (R134). `met` says that the trigger has been met already (a word
that waits is not tested again). The first argument bounds the words of one chain. -/
def State.runChain : Nat → Bool → State → State
  | 0, _, s => s
  | n + 1, met, s =>
    match s.scu.chain.pending with
    | none => s
    | some i =>
      let w := s.cfg.word i
      if !met && s.chainBroken w then s.abandonChain .broken
      else if !met && !s.triggerMet w then s
      else if 0 < s.stc.latch then s.setChain { s.scu.chain with reason := .stopped }
      else if !s.scu.holdsScene w.scene then
        ((s.setScu s.scu.skipWord).nextPending i).runChain n false
      else if 8 ≤ s.scu.tracker.length ∧ (s.scu.recordOf w.scene w.cue).isNone then
        s.setChain { s.scu.chain with reason := .trackerFull }
      else ((s.issue w).nextPending i).runChain n false

/-- An event that can meet the pending word's trigger: a word that waits for it is tested (R134). -/
def State.testChain (s : State) : State :=
  if s.scu.chain.running && decide (s.scu.chain.reason = .trigger) then s.runChain 129 false else s

/-- A word that waits for the given reason is acted on again from step 1 of R135. -/
def State.retryChain (r : WaitReason) (s : State) : State :=
  if s.scu.chain.running && decide (s.scu.chain.reason = r) then s.runChain 129 true else s

/-- After a tracker record was freed: a word waiting with TRACKER-FULL is acted on again, and a word that
watches the record is tested (R134, R135, R139). -/
def State.recordFreed (s : State) : State :=
  if s.scu.chain.reason = .trackerFull then s.retryChain .trackerFull else s.testChain

/-- A chain start handed by the RSQ (R133). -/
def State.startChain (i : Nat) (s : State) : State :=
  let s1 := s.abandonChain .abandoned
  let s2 := s1.setChain { s1.scu.chain with
    running := true, distance := s1.rsq.distance, watched := none, outcome := .none }
  (s2.becomePending i).testChain

/-- A pulse that the RSQ counts: the chain distance rises, saturating, and AT-DISTANCE is tested (R134). -/
def State.chainPulse (s : State) : State :=
  if s.scu.chain.running then
    (s.setChain { s.scu.chain with
      distance := min 4294967295 (s.scu.chain.distance + s.cfg.opt.odometer) }).testChain
  else s

/-- The SCU at the report of a frame that a request displaced or that was refused: a CUE is DROPPED (R38, R139). -/
def State.reportDropped (f : Option Waiting) (s : State) : State :=
  match cueRef f with
  | some r => (s.setScu (s.scu.dropReport r)).recordFreed
  | none => s

/-- A frame request of a block, with the report of a CUE that it displaced (R37 to R39). -/
def State.requestFrame (f : Waiting) (s : State) : State :=
  (s.putFrame f).1.reportDropped (s.putFrame f).2

end Sys2Proof.Machine
end

