-- ==== Sys2Proof/Machine/Drive.lean ====
section
/-! DEFINITION. The motion state and what hangs on its changes (R85 to R96), the release output (R120), the
start of the dwell timer (R19), the pulses and the measured speed (R84), guide sensing and steering (R97 to
R103). -/

namespace Sys2Proof.Machine

/-! ### Outputs that follow the motion state -/

/-- The release output is active while the four conditions of R120 hold. -/
def State.releaseHolds (s : State) : Bool :=
  s.active && decide (s.rm.vehicle = .released)
    && (decide (s.dsc.motion = .held) || decide (s.dsc.motion = .braked))
    && decide (s.dsc.speed = 0) && s.entry.platform.isSome

/-- The RM re-evaluates the release output (R120). -/
def State.evalRelease (s : State) : State := s.setRm { s.rm with release := s.releaseHolds }

/-- A DWELL hold that is pending starts its timer where it has not started in this visit; DWELL 0 is
released at that moment (R19). -/
def State.startDwell (s : State) : State :=
  match s.entry.hold with
  | .dwell t =>
    if s.rsq.known && !s.rsq.released && s.rsq.dwell.isNone then
      if t = 0 then s.setRsq { s.rsq with released := true }
      else s.setRsq { s.rsq with dwell := some (s.ms + t) }
    else s
  | .none => s
  | .dispatch => s
  | .scene _ => s

/-- The DSC's values on entering a motion state: the brake line is released in RUNNING and STOPPING alone,
and outside them the speed command is 0 (Table 5-2, R93, R96). -/
def Dsc.enter (m : Motion) (d : Dsc) : Dsc :=
  if m = .running ∨ m = .stopping then { d with motion := m, brakeReleased := true }
  else { d with motion := m, brakeReleased := false, command := 0 }

/-- A change of the motion state: brake line and set-point follow, the NI is informed, the release output is
re-evaluated (R86, R120). -/
def State.setMotion (m : Motion) (s : State) : State :=
  ((s.setDsc (s.dsc.enter m)).requestPos true).evalRelease

/-- HELD is entered, and BRAKED at once where the latch stands at 2 (R89); the RSQ is informed of a HELD that
lasts (R19, R86). -/
def State.enterHeld (s : State) : State :=
  if s.stc.latch = 2 then (s.setMotion .held).setMotion .braked else (s.setMotion .held).startDwell

/-! ### The handing of a lowered authority -/

/-- A lowered authority is handed to the DSC: the command is lowered to it (R95). -/
def State.handAuthority (a : Nat) (src : LimitSource) (s : State) : State :=
  (s.setSau { s.sau with authority := a, source := src }).setDsc { s.dsc with command := min s.dsc.command a }

/-- The SAU forces the authority to 0 (R75). -/
def State.forceAuthority (s : State) : State := s.handAuthority 0 .forced

/-- An entered entry's cap lowers an authority above it (R76). -/
def State.capLowering (cap : Nat) (s : State) : State :=
  if cap < s.sau.authority then s.handAuthority cap .cap else s

/-! ### The latch and the motion state -/

/-- The DSC at a rise of the latch to `level` (R88, R89). -/
def State.driveRise (level : Nat) (s : State) : State :=
  match s.dsc.motion with
  | .held =>
    if level = 2 then s.setMotion .braked
    else if s.dsc.speed = 0 then (s.setMotion .stopping).enterHeld
    else s.setMotion .stopping
  | .running => if level = 2 then s.setMotion .braked else s.setMotion .stopping
  | .stopping => if level = 2 then s.setMotion .braked else s
  | .parked => s
  | .lost => s
  | .braked => s
  | .configFault => s

/-- The DSC at a fall of the latch to `level` (R90). -/
def State.driveFall (level : Nat) (s : State) : State :=
  match s.dsc.motion with
  | .stopping => if level = 0 then s.setMotion .running else s
  | .braked => if level = 0 ∧ s.dsc.speed = 0 then s.enterHeld else s
  | .held => s
  | .running => s
  | .parked => s
  | .lost => s
  | .configFault => s

/-- The SAU at a rise of the latch (R75, R78). -/
def State.authorityRise (was level : Nat) (s : State) : State :=
  if level = 2 then s.forceAuthority
  else if was = 0 ∧ s.dsc.command < s.sau.authority then s.handAuthority s.dsc.command .profile
  else s

/-! ### Pulses and measured speed -/

/-- The measured speed of four closed pulse counts (R84). -/
def measuredSpeed (odometer : Nat) (history : List Nat) : Nat := min 65535 (history.sum * odometer / 40)

/-- The pulse count of the period is closed and the measured speed set (R84). -/
def Dsc.closePeriod (odometer : Nat) (d : Dsc) : Dsc :=
  let h := (d.pulses :: d.history).take 4
  { d with history := h, pulses := 0, speed := measuredSpeed odometer h }

/-- The period transition of R87. -/
def State.periodTransition (s : State) : State :=
  match s.dsc.motion with
  | .held => if 0 < s.sau.authority ∧ s.stc.latch = 0 then s.setMotion .running else s
  | .running => if s.sau.authority = 0 ∧ s.dsc.speed = 0 then s.enterHeld else s
  | .stopping => if s.dsc.speed = 0 then s.enterHeld else s
  | .braked => if s.stc.latch = 0 ∧ s.dsc.speed = 0 then s.enterHeld else s
  | .parked => s
  | .lost => s
  | .configFault => s

/-- The ramp step of R94 in mm/s per period. -/
def rampStep (accel : Nat) : Nat := accel * 10 / 1000

/-- The speed command of the period (R94). -/
def Dsc.ramp (authority step : Nat) (d : Dsc) : Dsc :=
  if d.motion = .running ∨ d.motion = .stopping then
    { d with command := if authority < d.command then authority else min authority (d.command + step) }
  else { d with command := 0 }

/-! ### Guide sensing and steering -/

/-- The coil amplitudes on a channel (R98). -/
def Coils.on (c : Coils) (channel : Nat) : Coil :=
  if channel = 0 then c.ch0 else if channel = 1 then c.ch1 else if channel = 2 then c.ch2 else c.ch3

/-- The guide offset in mm, truncated toward zero (R98). -/
def guideOffset (span : Nat) (c : Coil) : Int :=
  ((span : Int) * ((c.left : Int) - (c.right : Int))).tdiv ((c.left : Int) + (c.right : Int))

/-- The sample of an expiry: guide state, amplitudes and offset (R98). With channel NONE no sample is taken, and the
amplitudes stay those last sampled (R104). -/
def Dsc.sense (opt : Options) (coils : Coils) (d : Dsc) : Dsc :=
  match d.channel with
  | none => { d with guide := .unguided, offset := none }
  | some ch =>
    let c := Coils.on coils ch
    if c.left + c.right < opt.guideFloor then { d with guide := .offWire, offset := none, coils := some c }
    else { d with guide := .onWire, offset := some (guideOffset opt.guideSpan c), coils := some c }

/-- A value clamped to −`m`…+`m`. -/
def clampTo (m : Nat) (x : Int) : Int := max (-(m : Int)) (min (m : Int) x)

/-- The command moved toward a target by at most `rate` (R99). -/
def moveToward (rate : Nat) (previous target : Int) : Int :=
  if (rate : Int) < target - previous then previous + rate
  else if (rate : Int) < previous - target then previous - rate
  else target

/-- The steering target of the guide state, or none where the command is held (R99 to R101). -/
def Dsc.steeringTarget (d : Dsc) : Option Int :=
  match d.guide with
  | .onWire => some (d.feedforward + ((d.gain : Int) * d.offset.getD 0).tdiv 16)
  | .unguided => some d.feedforward
  | .offWire =>
    match d.lossMode with
    | .hold => none
    | .center => some d.feedforward

/-- The steering command of the expiry (R99 to R101). -/
def Dsc.steer (opt : Options) (d : Dsc) : Dsc :=
  match d.steeringTarget with
  | none => d
  | some t => { d with steering := moveToward opt.steerRate d.steering (clampTo opt.steerMax t) }

/-- The feedforward in force: the current entry's while the position is KNOWN, the one last read otherwise
(R97). DESIGN CHOICE (log entry 45): where an entry is entered and its position lost before an expiry has read that
entry's feedforward, the one last read stays. -/
def State.readFeedforward (s : State) : State :=
  if s.rsq.known then s.setDsc { s.dsc with feedforward := s.entry.feedforward } else s

/-- The loss counter at a counted pulse: it rises while OFF-WIRE until it passes the guide-loss distance
(R102). -/
def Dsc.countLoss (opt : Options) (d : Dsc) : Dsc :=
  if d.guide = .offWire ∧ d.loss ≤ opt.guideLoss * 1000 then { d with loss := d.loss + opt.odometer } else d

/-- A pulse carries the counter above the guide-loss distance (R102). -/
def Dsc.lossReached (opt : Options) (d : Dsc) : Bool :=
  decide (d.guide = .offWire) && decide (d.loss ≤ opt.guideLoss * 1000)
    && decide (opt.guideLoss * 1000 < d.loss + opt.odometer)

end Sys2Proof.Machine
end

