-- ==== Sys2Proof/Machine/Sound.lean ====
section
/-! DEFINITION. The Sound Playback Engine: voices and their queues (R163), starts (R164 to R167), playing and
fades (R168 to R170), STOP and FLUSH (R171), mixing (R173), the memory link (R174 to R177) and the reactions
to the ride (R178, R179). -/

namespace Sys2Proof.Machine

/-! ### Starting a request -/

/-- How a request's start is judged: begin at an offset (samples already past), a clip position and loops
remaining; wait; or drop (R164, R165). -/
inductive Judged where
  | begin_ (offset position loops : Nat)
  | wait
  | drop
  deriving DecidableEq, Repr

/-- A late join, `late` µs after the start (R165). -/
def joinLate (c : Clip) (late loops : Nat) : Judged :=
  let offset := late * 32000 / 1000000
  if offset < c.length then .begin_ offset offset loops
  else if loops = 0 then .drop
  else
    let excess := offset - c.length
    let region := c.length - c.loopStart
    let wraps := excess / region + 1
    let position := c.loopStart + excess % region
    if loops = 255 then .begin_ offset position 255
    else if loops < wraps then .drop
    else .begin_ offset position (loops - wraps)

/-- The judgment of a start against the show clock's reading (R164). -/
def judgeStart (cfg : Configuration) (reading : Nat) (r : PlayRequest) : Judged :=
  match r.start with
  | none => .begin_ 0 0 r.loops
  | some t =>
    let d := timeDiff t reading
    if 0 < d then .wait
    else if cfg.opt.soundLate * 1000 < (-d).toNat then .drop
    else joinLate (cfg.clip r.clip) (-d).toNat r.loops

/-- The voice goes IDLE: no request, buffer and queue empty, no fade; its counts stay (R168, DESIGN CHOICE, log entry 9). -/
def Voice.goIdle (v : Voice) : Voice :=
  { Voice.start with underruns := v.underruns, refusals := v.refusals }

/-- The voice takes the first request of the list that its start does not drop, the rest staying in its
queue, and goes IDLE when none is left (R164 to R166). It asks for its first refill. -/
def Voice.take (cfg : Configuration) (reading : Nat) : List PlayRequest → Voice → Voice
  | [], v => v.goIdle
  | r :: rest, v =>
    match judgeStart cfg reading r with
    | .drop => Voice.take cfg reading rest v
    | .wait =>
      { v.goIdle with
        state := .waiting, current := some r, queue := rest, loops := r.loops, refill := .requested }
    | .begin_ _ position loops =>
      { v.goIdle with
        state := .playing, current := some r, queue := rest, position := position, loops := loops,
        fade := some ⟨false, 0, 0⟩, refill := .requested }

/-! ### Voices of the engine -/

/-- A voice by number. -/
def Spe.voice (e : Spe) (i : Nat) : Voice :=
  if i = 0 then e.v0 else if i = 1 then e.v1 else if i = 2 then e.v2 else e.v3

/-- A voice replaced. -/
def Spe.setVoice (e : Spe) (i : Nat) (v : Voice) : Spe :=
  if i = 0 then { e with v0 := v }
  else if i = 1 then { e with v1 := v }
  else if i = 2 then { e with v2 := v }
  else { e with v3 := v }

/-- A transfer in progress for the voice is disowned (R176). -/
def Spe.disown (i : Nat) (e : Spe) : Spe :=
  match e.link with
  | some t => if t.voice = i then { e with link := some { t with disowned := true } } else e
  | none => e

/-- The voice takes a request from the list, or goes IDLE; a transfer for it is disowned (R164, R168). -/
def Spe.takeFrom (cfg : Configuration) (reading i : Nat) (rs : List PlayRequest) (e : Spe) : Spe :=
  (e.disown i).setVoice i ((e.voice i).take cfg reading rs)

/-! ### The memory link -/

/-- The sample index `k` places after the clip position in playback order (R174). -/
def playIndex (c : Clip) (position k : Nat) : Nat :=
  if position + k < c.length then position + k
  else c.loopStart + (position + k - c.length) % (c.length - c.loopStart)

/-- The clip of the voice's current request. -/
def Voice.clip (cfg : Configuration) (v : Voice) : Clip :=
  match v.current with
  | some r => cfg.clip r.clip
  | none => Clip.none

/-- How many samples the next transfer of the voice carries: 128, or fewer where playback order ends within
them; 0 where nothing is left to fetch (R174, R175). -/
def Voice.toFetch (cfg : Configuration) (v : Voice) : Nat :=
  let c := v.clip cfg
  if v.current.isNone then 0
  else if v.loops = 255 then 128
  else min 128 ((c.length - v.position) + v.loops * (c.length - c.loopStart) - v.buffer.length)

/-- A voice with its refill none and 128 samples or fewer asks while there are samples to fetch (R174). -/
def Voice.ask (cfg : Configuration) (v : Voice) : Voice :=
  if v.refill = .none ∧ v.buffer.length ≤ 128 ∧ 0 < v.toFetch cfg then { v with refill := .requested } else v

/-- The first waiting voice after the last-served one, in circular order (R175). -/
def Spe.nextWaiting (e : Spe) : Option Nat :=
  ([1, 2, 3, 4].map fun k => (e.lastServed + k) % 4).find? fun i => decide ((e.voice i).refill = .requested)

/-- A free link serves the next waiting voice (R175). -/
def Spe.serve (cfg : Configuration) (e : Spe) : Spe :=
  if e.link.isSome then e
  else match e.nextWaiting with
    | none => e
    | some i =>
      let v := e.voice i
      let clip := match v.current with
        | some r => r.clip
        | none => 0
      let indices := (List.range (v.toFetch cfg)).map fun k =>
        playIndex (v.clip cfg) v.position (v.buffer.length + k)
      { e.setVoice i { v with refill := .inTransfer } with
        lastServed := i, link := some ⟨i, clip, indices, false⟩ }

/-- The transfer completes: its samples join the voice's buffer, or are discarded when it was disowned, and
the link serves the next waiting voice (R175, R176). -/
def Spe.complete (cfg : Configuration) (samples : List Int) (e : Spe) : Spe :=
  match e.link with
  | none => e
  | some t =>
    let freed : Spe := { e with link := none }
    if t.disowned then freed.serve cfg
    else
      let v := e.voice t.voice
      let w : Voice := { v with
        buffer := v.buffer ++ samples.take t.indices.length, primed := true, refill := .none }
      (freed.setVoice t.voice (w.ask cfg)).serve cfg

/-! ### Requests and commands -/

/-- A play request reaches a voice (R163). -/
def Spe.play (cfg : Configuration) (reading i : Nat) (r : PlayRequest) (e : Spe) : Spe :=
  let v := e.voice i
  if v.state = .idle then (e.takeFrom cfg reading i (r :: v.queue)).serve cfg
  else if v.queue.length < 4 then e.setVoice i { v with queue := v.queue ++ [r] }
  else if i = 0 then e.setVoice i { v with queue := v.queue.dropLast ++ [r] }
  else if r.origin = .cue then e.setVoice i { v with refusals := bump v.refusals }
  else e

/-- A fade-out is begun in a PLAYING voice (R170). -/
def Voice.fadeOut (v : Voice) : Voice :=
  if v.state = .playing then
    { v with state := .fading, fade := some ⟨true, (v.fade.map Fade.segment).getD 15, 0⟩ }
  else v

/-- STOP of a voice: the queue is emptied, and the current request fades out or, when WAITING, ends
(R171, and step 1 of R178). -/
def Spe.stopVoice (cfg : Configuration) (i : Nat) (e : Spe) : Spe :=
  let v := e.voice i
  if v.state = .waiting then ((e.disown i).setVoice i v.goIdle).serve cfg
  else e.setVoice i { v with queue := [] }.fadeOut

/-- FLUSH of a voice: the queue is emptied (R171). -/
def Spe.flushVoice (i : Nat) (e : Spe) : Spe := e.setVoice i { e.voice i with queue := [] }

/-- The request for the stop clip (R178). -/
def stopRequest (clip : Nat) : PlayRequest := ⟨clip, none, 256, 0, 0, .both, .stop⟩

/-- The request for the restraint announcement (R116). -/
def announcement (clip : Nat) : PlayRequest := ⟨clip, none, 256, 255, 0, .both, .restraint⟩

/-- The reaction to a rise of the stop latch (R178). -/
def Spe.rideStop (cfg : Configuration) (reading : Nat) (e : Spe) : Spe :=
  let quiet := ((e.stopVoice cfg 1).stopVoice cfg 2).stopVoice cfg 3
  if cfg.opt.stopClip = 0 then quiet else quiet.play cfg reading 0 (stopRequest cfg.opt.stopClip)

/-- The announcement end (R179). -/
def Spe.announcementEnd (e : Spe) : Spe :=
  let v : Voice := { e.v0 with queue := e.v0.queue.filter fun r => r.origin ≠ .restraint }
  match e.v0.current with
  | some r => if r.origin = .restraint then { e with v0 := v.fadeOut } else { e with v0 := v }
  | none => { e with v0 := v }

/-! ### The sample period -/

/-- A WAITING voice compares its start with the clock (R167). -/
def Spe.judgeWaiting (cfg : Configuration) (reading i : Nat) (e : Spe) : Spe :=
  let v := e.voice i
  match v.state, v.current with
  | .waiting, some r =>
    match judgeStart cfg reading r with
    | .wait => e
    | .drop => e.takeFrom cfg reading i v.queue
    | .begin_ offset position loops =>
      let w : Voice := { v with
        state := .playing, position := position, loops := loops, fade := some ⟨false, 0, 0⟩ }
      if offset = 0 then e.setVoice i (if v.primed then w else w.ask cfg)
      else (e.disown i).setVoice i { w with buffer := [], primed := false, refill := .requested }
  | _, _ => e

/-- The voice outputs a sample at this period: primed, PLAYING or FADING, with a sample in its buffer. -/
def Voice.sample (v : Voice) : Option Int :=
  if v.primed ∧ (v.state = .playing ∨ v.state = .fading) then v.buffer.head? else none

/-- The fade value of a voice, 0–128 (R169). -/
def Voice.fadeValue (cfg : Configuration) (v : Voice) : Nat :=
  match v.fade, v.current with
  | some f, some r => (cfg.fade r.fade).value f.segment
  | _, _ => 128

/-- The voice's contribution s × g × f × d to the mix, with the duck level `d` (R173). -/
def Voice.contribution (cfg : Configuration) (d : Nat) (v : Voice) : Int :=
  match v.sample, v.current with
  | some x, some r =>
    x * ((r.gain * (cfg.clip r.clip).baseGain / 256 : Nat) : Int) * (v.fadeValue cfg : Int) * (d : Int)
  | _, _ => 0

/-- The voice's current request reaches the front output. -/
def Voice.toFront (v : Voice) : Bool :=
  match v.current with
  | some r => decide (r.mask ≠ .rear)
  | none => false

/-- The voice's current request reaches the rear output. -/
def Voice.toRear (v : Voice) : Bool :=
  match v.current with
  | some r => decide (r.mask ≠ .front)
  | none => false

/-- A cabin output: the sum divided by 8,388,608, rounded toward minus infinity and clamped (R173). -/
def mixSample (sum : Int) : Int := max (-32768) (min 32767 (sum / 8388608))

/-- The duck level in force for voices 1 to 3 (R172, R173). -/
def Spe.duck (cfg : Configuration) (e : Spe) : Nat := if e.ducking then cfg.opt.duckLevel else 256

/-- The sum of the contributions of the voices that reach an output (R173). -/
def Spe.mix (cfg : Configuration) (reaches : Voice → Bool) (e : Spe) : Int :=
  (if reaches e.v0 then e.v0.contribution cfg 256 else 0)
    + (if reaches e.v1 then e.v1.contribution cfg (e.duck cfg) else 0)
    + (if reaches e.v2 then e.v2.contribution cfg (e.duck cfg) else 0)
    + (if reaches e.v3 then e.v3.contribution cfg (e.duck cfg) else 0)

/-- What a fade is after one more sample of a template of `segment` samples a segment: the fade, or none
where a fade-in is over, and whether a fade-out has ended (R169, R170). -/
def Fade.next (segmentLength : Nat) (f : Fade) : Option Fade × Bool :=
  if f.into + 1 < segmentLength then (some { f with into := f.into + 1 }, false)
  else if f.out then
    if f.segment = 0 then (none, true) else (some ⟨true, f.segment - 1, 0⟩, false)
  else if f.segment = 15 then (none, false) else (some ⟨false, f.segment + 1, 0⟩, false)

/-- One sample of a voice that outputs it: position, fade, loops, or none where the request ends
(R168, R169). -/
def Voice.advance (cfg : Configuration) (v : Voice) : Option Voice :=
  let c := v.clip cfg
  let segment := match v.current with
    | some r => 2 * (cfg.fade r.fade).duration
    | none => 20
  let f := match v.fade with
    | some f => f.next segment
    | none => (none, false)
  let w : Voice := { v with buffer := v.buffer.drop 1, position := v.position + 1, fade := f.1 }
  if f.2 then none
  else if v.position + 1 < c.length then some w
  else if v.loops = 0 then none
  else some { w with position := c.loopStart, loops := if v.loops = 255 then 255 else v.loops - 1 }

/-- One sample period of one voice: output and advance, end of the request, or underrun (R168, R177). -/
def Spe.stepVoice (cfg : Configuration) (reading i : Nat) (e : Spe) : Spe :=
  let v := e.voice i
  if v.primed ∧ (v.state = .playing ∨ v.state = .fading) then
    match v.buffer with
    | [] => e.setVoice i ({ v with underruns := bump v.underruns }.ask cfg)
    | _ :: _ =>
      match v.advance cfg with
      | some w => e.setVoice i (w.ask cfg)
      | none => e.takeFrom cfg reading i v.queue
  else e.setVoice i (v.ask cfg)

/-- A sample period: waiting starts are judged, the outputs mixed, each voice advanced, and the link serves
(R167, R168, R173 to R177). -/
def Spe.samplePeriod (cfg : Configuration) (reading : Nat) (e : Spe) : Spe :=
  let j := (((e.judgeWaiting cfg reading 0).judgeWaiting cfg reading 1).judgeWaiting cfg reading 2).judgeWaiting
    cfg reading 3
  let moved := (((j.stepVoice cfg reading 0).stepVoice cfg reading 1).stepVoice cfg reading 2).stepVoice
    cfg reading 3
  { moved.serve cfg with
    front := mixSample (j.mix cfg Voice.toFront)
    rear := mixSample (j.mix cfg Voice.toRear) }

/-! ### The engine in the state -/

/-- A play request is handed to a voice (R163). -/
def State.play (i : Nat) (r : PlayRequest) (s : State) : State :=
  s.setSpe (s.spe.play s.cfg s.showTime i r)

/-- The RM hands an announcement end (R116, R179). -/
def State.announcementEnd (s : State) : State := s.setSpe s.spe.announcementEnd

end Sys2Proof.Machine
end

