-- ==== Sys2Proof/Machine/Stops.lean ====
section
/-! DEFINITION. The Stop Controller: local causes and the asserted level (R181, R182), the stop latch and the
notices of its rise and fall (R183, R184), incident records (R188, R189). -/

namespace Sys2Proof.Machine

/-! ### Incident records -/

/-- The incident record of this moment (R189). -/
def State.incidentNow (cause : StopCause) (level origin : Nat) (s : State) : Incident :=
  { seq := s.stc.nextSeq
    cause := cause
    level := level
    origin := origin
    time := s.showTime
    ordinate := s.ordinate
    speed := s.dsc.speed
    restraint := s.rm.vehicle
    gap := s.sau.ahead.map Ahead.gap
    held := s.scu.heldScenes }

/-- A record joins the ring of 16, overwriting the oldest of a full list (R188). -/
def Stc.append (i : Incident) (c : Stc) : Stc :=
  { c with
    incidents := (if c.incidents.length < 16 then c.incidents else c.incidents.drop 1) ++ [i]
    nextSeq := (c.nextSeq + 1) % 65536 }

/-- An incident record is written (R188). -/
def State.writeIncident (cause : StopCause) (level origin : Nat) (s : State) : State :=
  s.setStc (s.stc.append (s.incidentNow cause level origin))

/-! ### The latch -/

/-- The notices of a rise of the latch (R184). The five blocks act on state of their own, and the outcome is
the same in every order (DEDUCED, log entry 10). -/
def State.notifyRise (was level : Nat) (s : State) : State :=
  let s1 := s.authorityRise was level
  let s2 := s1.driveRise level
  let s3 := s2.abandonChain .abandoned
  s3.setSpe (s3.spe.rideStop s3.cfg s3.showTime)

/-- A level is brought to the latch by a cause of a station (R183); the record of a received frame is the
caller's. -/
def State.raiseLatch (level : Nat) (cause : StopCause) (origin : Nat) (s : State) : State :=
  if s.stc.latch < level then
    let was := s.stc.latch
    (s.setStc { s.stc with
      latch := level
      first := if was = 0 then some ⟨cause, origin⟩ else s.stc.first }).notifyRise was level
  else s

/-- A received frame brings a level: a rise is recorded before any block acts on it (R183, R189). -/
def State.frameLevel (level : Nat) (cause : StopCause) (origin : Nat) (s : State) : State :=
  if s.stc.latch < level then (s.writeIncident cause level origin).raiseLatch level cause origin else s

/-! ### Raising and withdrawing causes -/

/-- A raising that lifts the asserted level: the STOP frame is requested, the NI informed, the latch raised
(R182, step 3). DEDUCED (log entry 47): the latch rises with the request, so the SCU acts on the report of a CUE that
the STOP displaced with its chain already ended (the sequence "a full queue" of section 2.7). -/
def State.levelRises (c : Cause) (s : State) : State :=
  let p := s.putFrame (.stop c.level c.code)
  ((p.1.requestPos true).raiseLatch c.level (.local_ c) s.cfg.opt.station).reportDropped p.2

/-- A local cause is raised (R182). -/
def State.raise (c : Cause) (s : State) : State :=
  if !s.active || s.stc.causes.contains c then s
  else
    let before := s.stc.asserted
    let s1 := (s.setStc { s.stc with causes := s.stc.causes ++ [c] }).writeIncident (.local_ c) c.level
      s.cfg.opt.station
    if before < c.level then s1.levelRises c else s1

/-- A local cause is withdrawn (R182). -/
def State.withdraw (c : Cause) (s : State) : State :=
  if !s.active || !s.stc.causes.contains c then s
  else
    let s1 := s.setStc { s.stc with causes := s.stc.causes.filter (· ≠ c) }
    if s1.stc.asserted ≠ s.stc.asserted then s1.requestPos true else s1

end Sys2Proof.Machine
end

