-- ==== Sys2Proof/Machine/Scenes.lean ====
section
/-! DEFINITION. The peer table (R45 to R62) and the scene slots (R123 to R131), which act on each other:
pins, removals and the lifting of blocks. -/

namespace Sys2Proof.Machine

/-! ### Peer records -/

/-- The record of a station. -/
def State.peer (s : State) (station : Nat) : Option Peer := s.ptb.find? fun p => p.station = station

/-- One record changed in place. -/
def State.mapPeer (station : Nat) (f : Peer → Peer) (s : State) : State :=
  s.setPtb (s.ptb.map fun p => if p.station = station then f p else p)

/-- The drop time has passed since the record's last-heard time (R56). -/
def State.overdue (s : State) (p : Peer) : Bool := decide (p.lastHeard + s.cfg.opt.dropTime ≤ s.ms)

/-- Some FOREIGN vehicle record is present (R61). -/
def State.foreignSeen (s : State) : Bool := s.ptb.any Peer.foreignVehicle

/-- The FOREIGN cause follows the table (R61): raised at the first FOREIGN vehicle record, withdrawn at the
last. -/
def State.foreignAfter (before : Bool) (s : State) : State :=
  if !before && s.foreignSeen then s.raise .foreign
  else if before && !s.foreignSeen then s.withdraw .foreign
  else s

/-! ### Pins -/

/-- The pin flags of R57. -/
inductive Pin where
  | ahead
  | slot (k : SlotId)
  deriving DecidableEq, Repr

/-- The flag as the record carries it. -/
def Peer.carries (p : Peer) : Pin → Bool
  | .ahead => p.pinAhead
  | .slot .one => p.pin1
  | .slot .two => p.pin2

/-- The flag set or cleared on a record. -/
def Peer.setPin (f : Pin) (b : Bool) (p : Peer) : Peer :=
  match f with
  | .ahead => { p with pinAhead := b }
  | .slot .one => { p with pin1 := b }
  | .slot .two => { p with pin2 := b }

/-- The flag stands on the record of the named station and on no other (R57). -/
def namePin (f : Pin) (station : Option Nat) (t : List Peer) : List Peer :=
  t.map fun p => p.setPin f (decide (station = some p.station))

/-- A record leaves the table (R60, in the order of its list): FOREIGN is re-evaluated, and the SCU is told where the record carried a
slot's pin or showed a scene. `tell` is what the SCU does when told. -/
def State.removeWith (tell : Nat → State → State) (station : Nat) (s : State) : State :=
  match s.peer station with
  | none => s
  | some p =>
    let s1 := (s.setPtb (s.ptb.filter fun r => r.station ≠ station)).foreignAfter s.foreignSeen
    if p.pin1 || p.pin2 || p.showsScene then tell station s1 else s1

/-- A pin flag moves to the named station or is cleared; a record left without pins whose drop time has
passed is removed at that step (R57, R58). -/
def State.pinWith (tell : Nat → State → State) (f : Pin) (station : Option Nat) (s : State) : State :=
  let s1 := s.setPtb (namePin f station s.ptb)
  match s.ptb.find? fun p => p.carries f with
  | none => s1
  | some old =>
    match s1.peer old.station with
    | none => s1
    | some p => if !p.pinned && s1.overdue p then s1.removeWith tell p.station else s1

/-! ### Slots -/

/-- One slot replaced. -/
def Scu.setSlot (u : Scu) (k : SlotId) (x : Slot) : Scu :=
  match k with
  | .one => { u with slot1 := x }
  | .two => { u with slot2 := x }

/-- Slots in CLAIMING and in HELD carry an order (R123). -/
def SlotState.ordered (st : SlotState) : Bool := decide (st = .claiming) || decide (st = .held)

/-- A slot takes a new state, and the orders follow (R123). -/
def Scu.moveSlot (k : SlotId) (x : Slot) (u : Scu) : Scu :=
  let old := u.slot k
  let other := u.slot (otherSlot k)
  let order : Option SlotOrder :=
    if x.state.ordered then (if other.state = x.state then some .second else some .first) else none
  let other' : Slot :=
    if old.state.ordered ∧ other.state = old.state ∧ other.order = some .second then
      { other with order := some .first }
    else other
  (u.setSlot k { x with order := order }).setSlot (otherSlot k) other'

/-- The NI and the SCK are informed of a changed slot (R124, R40, R150). -/
def State.slotNotice (s : State) : State := (s.requestPos true).select none

/-- The claim check of R125: the lowest-numbered vehicle whose record blocks scene `x`, one station left
out. -/
def State.claimCheck (leaveOut : Option Nat) (x : Nat) (s : State) : Option Nat :=
  ((s.ptb.filter fun p =>
      p.isVehicle && decide (leaveOut ≠ some p.station) &&
        match p.data with
        | some d => d.held.contains x || (decide (d.claiming = some x) && decide (p.station < s.cfg.opt.station))
        | none => false).map Peer.station).min?

/-- A slot enters CLAIMING for scene `x` with a CLAIM frame and a claim window (R126, step 4). -/
def State.enterClaiming (k : SlotId) (x : Nat) (s : State) : State :=
  ((s.setScu (s.scu.moveSlot k
      ⟨some x, .claiming, some (s.ms + s.cfg.opt.claimWindow), none, none⟩)).requestFrame (.claim x)).slotNotice

/-- The block of a WAITING slot is lifted: the slot is re-claimed with its blocking station left out
(R128). -/
def State.liftWith (tell : Nat → State → State) (k : SlotId) (s : State) : State :=
  match (s.scu.slot k).scene with
  | none => s
  | some x =>
    match s.claimCheck (s.scu.slot k).blocking x with
    | some y =>
      (s.setScu (s.scu.setSlot k { s.scu.slot k with blocking := some y })).pinWith tell (.slot k) (some y)
    | none => (s.enterClaiming k x).pinWith tell (.slot k) none

/-- A slot waits for a station. -/
def Slot.waitsOn (k : Slot) (station : Nat) : Bool :=
  decide (k.state = .waiting) && decide (k.blocking = some station)

/-- The SCU is told that a station is gone or shows no scene: the blocks of the slots that wait on it are
lifted (R128). DESIGN CHOICE (log entry 48): where both slots wait on it, slot 1 re-claims first. The first argument
bounds the removals that follow one another. -/
def State.tellGone : Nat → Nat → State → State
  | 0, _, s => s
  | n + 1, station, s =>
    let s1 := if s.scu.slot1.waitsOn station then s.liftWith (State.tellGone n) .one else s
    if s1.scu.slot2.waitsOn station then s1.liftWith (State.tellGone n) .two else s1

/-- The SCU is told (R51, R60, R128). Each removal shortens the table, which bounds them. -/
def State.tellScu (station : Nat) (s : State) : State := s.tellGone (s.ptb.length + 1) station

/-- A record is removed (R60). -/
def State.removePeer (station : Nat) (s : State) : State := s.removeWith State.tellScu station

/-- A pin flag moves (R57, R58). -/
def State.pin (f : Pin) (station : Option Nat) (s : State) : State := s.pinWith State.tellScu f station

/-- The block of a slot is lifted (R128). -/
def State.liftBlock (k : SlotId) (s : State) : State := s.liftWith State.tellScu k

/-- A slot enters WAITING on a station: its pin is set, or, where the PTB has no record of the station, the
block is lifted at once (R57, R128). -/
def State.enterWaiting (k : SlotId) (x station : Nat) (s : State) : State :=
  let s1 := (s.setScu (s.scu.moveSlot k ⟨some x, .waiting, none, some station, none⟩)).slotNotice
  if (s1.peer station).isSome then s1.pin (.slot k) (some station) else s1.liftBlock k

/-- A slot becomes FREE; a WAITING slot's pin is cleared (R57, R123). `frame` requests a FREE frame (R130). -/
def State.freeSlot (frame : Bool) (k : SlotId) (s : State) : State :=
  let old := s.scu.slot k
  let s1 := s.setScu (s.scu.moveSlot k Slot.free)
  let s2 := match frame, old.scene with
    | true, some x => s1.requestFrame (.free x)
    | _, _ => s1
  let s3 := s2.slotNotice
  if old.state = .waiting then s3.pin (.slot k) none else s3

/-! ### Claim and free actions of the route -/

/-- A CLAIM action (R126). -/
def State.claimAction (x : Nat) (s : State) : State :=
  if s.scu.slot1.scene = some x ∨ s.scu.slot2.scene = some x then s
  else if s.scu.slot1.state ≠ .free ∧ s.scu.slot2.state ≠ .free then s.raise .sceneOverflow
  else
    let k : SlotId := if s.scu.slot1.state = .free then .one else .two
    match s.claimCheck none x with
    | some b => s.enterWaiting k x b
    | none => s.enterClaiming k x

/-- A FREE action on the slot that holds the scene (R130). -/
def State.freeAction (x : Nat) (s : State) : State :=
  if s.scu.slot1.scene = some x then s.freeSlot (decide (s.scu.slot1.state = .held)) .one
  else if s.scu.slot2.scene = some x then s.freeSlot (decide (s.scu.slot2.state = .held)) .two
  else s

/-! ### Frames at the slots -/

/-- A CLAIM frame at a slot (R127 to R129). -/
def State.claimHeard (src x : Nat) (k : SlotId) (s : State) : State :=
  let t := s.scu.slot k
  if t.state = .claiming ∧ t.scene = some x ∧ src < s.cfg.opt.station then s.enterWaiting k x src else s

/-- A FREE frame at a slot (R127 to R129). -/
def State.freeHeard (src x : Nat) (k : SlotId) (s : State) : State :=
  if (s.scu.slot k).waitsOn src ∧ (s.scu.slot k).scene = some x then s.liftBlock k else s

/-- The scenes of a POS at a slot (R127 to R129). -/
def State.posHeard (src : Nat) (held : List Nat) (claiming : Option Nat) (k : SlotId) (s : State) : State :=
  let t := s.scu.slot k
  match t.scene with
  | none => s
  | some x =>
    match t.state with
    | .free => s
    | .claiming =>
      if held.contains x || (decide (claiming = some x) && decide (src < s.cfg.opt.station)) then
        s.enterWaiting k x src
      else s
    | .waiting =>
      if t.blocking = some src ∧ !held.contains x ∧ claiming ≠ some x then s.liftBlock k else s
    | .held =>
      if held.contains x && decide (src < s.cfg.opt.station) then
        (s.freeSlot false k).raise .sceneConflict
      else s

/-- The claim window of a slot expires (R127). -/
def State.windowExpired (k : SlotId) (s : State) : State :=
  match (s.scu.slot k).scene with
  | none => s
  | some x =>
    match s.claimCheck none x with
    | some b => s.enterWaiting k x b
    | none => (s.setScu (s.scu.moveSlot k ⟨some x, .held, none, none, none⟩)).slotNotice

/-! ### Hearings -/

/-- Of two records the one that is evicted first: the older last-heard time, the earlier place (R49). -/
def olderPeer (a : Option Peer) (p : Peer) : Option Peer :=
  if p.pinned then a
  else match a with
    | none => some p
    | some q => if p.lastHeard < q.lastHeard then some p else some q

/-- The record that an eviction removes (R49). -/
def evictee (t : List Peer) : Option Peer := t.foldl olderPeer none

/-- A full table makes room for a new record (R48, R49). -/
def State.makeRoom (s : State) : State :=
  if s.ptb.length < 24 then s
  else match evictee s.ptb with
    | some p => s.removePeer p.station
    | none => s

/-- A new record of a first hearing (R48). -/
def Peer.first (station ms : Nat) (foreign : Bool) : Peer :=
  ⟨station, foreign, ms, false, false, false, false, none, none⟩

/-- The record of a first hearing joins the end of the table (R45, R48). -/
def State.addPeer (station : Nat) (foreign : Bool) (s : State) : State :=
  let s1 := s.makeRoom
  if s1.ptb.length < 24 then
    (s1.setPtb (s1.ptb ++ [Peer.first station s1.ms foreign])).foreignAfter s1.foreignSeen
  else s1

/-- An own-signature hearing, before its content is stored (R48, R50). -/
def State.hearOwn (station : Nat) (s : State) : State :=
  if (s.peer station).isSome then
    (s.mapPeer station fun p => { p with lastHeard := s.ms, stale := false, foreign := false }).foreignAfter
      s.foreignSeen
  else s.addPeer station false

/-- A foreign hearing (R48, R51). DESIGN CHOICE (log entry 50): FOREIGN is raised before the SCU is told. -/
def State.hearForeign (station : Nat) (s : State) : State :=
  match s.peer station with
  | none => s.addPeer station true
  | some q =>
    let s1 := (s.mapPeer station fun p =>
      { p with lastHeard := s.ms, stale := false, foreign := true, lastSync := none, data := none }).foreignAfter
      s.foreignSeen
    if q.pin1 || q.pin2 || q.showsScene then s1.tellScu station else s1

/-- The vehicle data that a POS leaves in the record, over those it held (R52, steps 2 and 3; R53). -/
def storedData (scu : Scu) (b : PosBody) (old : Option VehicleData) : VehicleData :=
  { ordinate := match b.ordinate with
      | some o => some o
      | none => old.bind VehicleData.ordinate
    lane := b.lane
    entry := b.entry
    speed := b.speed
    motion := b.motion
    restraint := b.restraint
    level := b.level
    held := b.held.filter fun x => !scu.holdsScene x
    claiming := b.claiming }

/-- The PTB at an own-signature POS: the hearing, the SCU's handling, the storing (R52). DESIGN CHOICE (log entry 49):
where both slots act on one POS, slot 1 acts first, with all that follows from it. -/
def State.hearPos (src : Nat) (b : PosBody) (s : State) : State :=
  let s1 := s.hearOwn src
  let s2 := (s1.posHeard src b.held b.claiming .one).posHeard src b.held b.claiming .two
  s2.mapPeer src fun p => { p with data := some (storedData s2.scu b p.data) }

/-- The PTB at an own-signature SYNC (R54). -/
def State.hearSync (src : Nat) (s : State) : State :=
  (s.hearOwn src).mapPeer src fun p => { p with lastSync := some s.ms }

/-- The stale time of a record has passed (R55). Where it equals the drop time an unpinned record is removed
at that moment without having been STALE (R56). -/
def State.staleNow (station : Nat) (s : State) : State :=
  match s.peer station with
  | none => s
  | some p =>
    if !p.pinned && decide (s.cfg.opt.staleTime = s.cfg.opt.dropTime) then s.removePeer station
    else s.mapPeer station fun r => { r with stale := true }

/-- The drop time of a record has passed (R56). -/
def State.dropNow (station : Nat) (s : State) : State :=
  match s.peer station with
  | none => s
  | some p => if p.pinned then s else s.removePeer station

end Sys2Proof.Machine
end

