-- ==== Sys2Proof/Machine/Route.lean ====
section
/-! DEFINITION. The Route Sequencer: end tests, markers and advances (R5 to R13), the actions of entering
(R14, R15), hold points (R16 to R20), position faults and relocation (R21, R22). -/

namespace Sys2Proof.Machine

/-! ### Entering an entry (R14) -/

/-- Step 1 and the new place: entry, distance, effects (R13, R14, R15). -/
def State.placeAt (i d : Nat) (s : State) : State :=
  s.setRsq { s.rsq with entry := i, distance := d, effects := (s.cfg.entry i).effects }

/-- Step 2: the guide settings are handed to the DSC, which uses them from its next period (R14, R97). -/
def State.guideAction (s : State) : State :=
  s.setDsc { s.dsc with
    channel := s.entry.channel, gain := s.entry.gain, lossMode := s.entry.lossMode }

/-- Step 3: the sound action (R14). -/
def State.soundAction (s : State) : State :=
  match s.entry.sound with
  | some (.play clip voice gain loops fade mask) =>
    s.play voice ⟨clip, none, gain, loops, fade, mask, .route⟩
  | some (.stop voice) => s.setSpe (s.spe.stopVoice s.cfg voice)
  | some (.flush voice) => s.setSpe (s.spe.flushVoice voice)
  | none => s

/-- Step 4: the scene action (R14). -/
def State.sceneAction (s : State) : State :=
  match s.entry.scene with
  | some (.claim x) => s.claimAction x
  | some (.free x) => s.freeAction x
  | none => s

/-- Step 5: the cue chain start (R14). -/
def State.chainAction (s : State) : State :=
  match s.entry.chain with
  | some i => (s.startChain i).setRsq { (s.startChain i).rsq with chainStart := some i }
  | none => s

/-- Step 6 and after it: the flags are cleared and the dwell timer stopped (R14). -/
def State.clearFlags (s : State) : State :=
  s.setRsq { s.rsq with released := false, atEnd := false, dwell := none }

/-- A pending SCENE hold whose slot is HELD is released (R18). -/
def State.sceneTest (s : State) : State :=
  match s.entry.hold with
  | .scene x =>
    if s.rsq.known && !s.rsq.released && s.scu.holdsScene x then s.setRsq { s.rsq with released := true } else s
  | .none => s
  | .dispatch => s
  | .dwell _ => s

/-- The hold of the new entry is evaluated: a SCENE hold already HELD is released, a DWELL hold starts its
timer where the motion state is HELD (R14, R18, R19). -/
def State.evalHold (s : State) : State :=
  let s1 := s.sceneTest
  if s1.dsc.motion = .held then s1.startDwell else s1

/-- The RSQ enters entry `i` at distance `d` µm (R14); the new cap is in force from the moment of entering
(R76), and the release output is re-evaluated (R120). -/
def State.enterEntry (i d : Nat) (s : State) : State :=
  let s0 := s.placeAt i d
  ((((((s0.capLowering s0.entry.cap).guideAction).soundAction).sceneAction).chainAction).clearFlags).evalHold.evalRelease

/-! ### Advances and faults -/

/-- The last marker that leaving the current entry leaves (R12): its end marker where that was read in time
during the visit. -/
def State.markerLeft (inTime : Bool) (s : State) : Option Nat :=
  if s.entry.marker ≠ 0 ∧ (inTime ∨ s.rsq.atEnd) then some s.entry.marker else none

/-- An advance into the successor with a carried distance (R13). `passed` says that it passes a pending hold
(R20), `inTime` that an in-time read of this moment ends the entry (R7). -/
def State.advance (passed inTime : Bool) (carry : Nat) (s : State) : State :=
  let s1 := if passed then s.raise .overrun else s
  (s1.setRsq { s1.rsq with lastMarker := s1.markerLeft inTime }).enterEntry
    (s1.cfg.successor s1.rsq.entry) carry

/-- The position becomes LOST at the RSQ (R21). -/
def Rsq.lose (r : Rsq) : Rsq :=
  { r with
    known := false, effects := 0, atEnd := false, released := false, dwell := none, lastMarker := none }

/-- The SAU at a position fault: authority 0, list empty, no curve limit (R75). -/
def State.authorityLost (s : State) : State :=
  let s1 := s.forceAuthority
  s1.setSau { s1.sau with targets := [], curve := none }

/-- A position fault (R21, R75, R91): the position is LOST, then POSITION is raised. -/
def State.positionFault (s : State) : State :=
  (((s.setRsq s.rsq.lose).authorityLost).setMotion .lost).raise .position

/-- What the end tests say of the current entry and distance. -/
inductive EndTest where
  /-- Nothing is due. -/
  | stay
  /-- The end of an entry without a marker is reached with its hold pending (R6). -/
  | wait
  /-- A missing marker with the suppress-check flag clear (R10). -/
  | fault
  /-- An advance is due with this carry, past a pending hold or not (R6, R10, R20). -/
  | go (passed : Bool) (carry : Nat)
  deriving DecidableEq, Repr

/-- The end tests of section 1.4 and the passing test of R20. -/
def State.endTest (s : State) : EndTest :=
  let e := s.entry
  let d := s.rsq.distance
  let len := e.length * 1000
  let limit := (e.length + e.window) * 1000
  let hold := s.holdPending
  if s.rsq.atEnd then
    if hold then (if limit < d then .go true (d - len) else .stay) else .go false (d - len)
  else if e.marker = 0 then
    if d < len then .stay
    else if !hold then .go false (d - len)
    else if limit < d then .go true (d - len)
    else .wait
  else if limit ≤ d then (if e.suppress then .go hold (d - len) else .fault)
  else .stay

/-- The run of end tests and advances at a distance (R13, R20). Each advance lowers the distance by at least
100 mm, which bounds the run. -/
def State.runEnds : Nat → State → State
  | 0, s => s
  | n + 1, s =>
    match s.endTest with
    | .stay => s
    | .wait => s.setRsq { s.rsq with atEnd := true }
    | .fault => s.positionFault
    | .go passed carry => (s.advance passed false carry).runEnds n

/-- How many advances a distance can take (R13). -/
def advanceBound (distance : Nat) : Nat := distance / 100000 + 2

/-- The end tests applied to the distance as it stands, with all advances they call for (R13). -/
def State.settleEnds (s : State) : State :=
  if s.rsq.known then s.runEnds (advanceBound s.rsq.distance) else s

/-- The RSQ acts on a hold-released flag: an entry at its end is left at once (R20). -/
def State.actOnRelease (s : State) : State :=
  if s.rsq.known && s.rsq.released && s.rsq.atEnd then s.settleEnds else s

/-- The RSQ after an event in which a slot's state may have changed: it tests a pending SCENE hold where
either slot's state has changed (R18), and acts on a release (R20). -/
def State.afterSlots (before : Scu) (s : State) : State :=
  if s.active ∧ (before.slot1.state ≠ s.scu.slot1.state ∨ before.slot2.state ≠ s.scu.slot2.state) then
    s.sceneTest.actOnRelease
  else s

/-! ### Pulses and markers -/

/-- The distance rises by the odometer value of one pulse, and the end tests are applied (R5). -/
def State.routePulse (s : State) : State :=
  if s.rsq.known then
    (s.setRsq { s.rsq with distance := s.rsq.distance + s.cfg.opt.odometer }).settleEnds
  else s

/-- An advance forced by an early or a wrong read, or a position fault (R8, R9). -/
def State.disagreement (s : State) : State :=
  if s.entry.suppress then (s.advance s.holdPending false 0).settleEnds else s.positionFault

/-- An in-time read of the expected marker (R7). -/
def State.inTimeRead (s : State) : State :=
  let s1 := s.setRsq { s.rsq with distance := s.entry.length * 1000 }
  if s.holdPending then s1.setRsq { s1.rsq with atEnd := true }
  else (s1.advance false true 0).settleEnds

/-- A floor marker read (R6 to R9, R12). -/
def State.readMarker (id : Nat) (s : State) : State :=
  let e := s.entry
  if e.marker ≠ 0 ∧ id = e.marker then
    if s.rsq.atEnd then s
    else if e.length * 1000 ≤ s.rsq.distance + e.window * 1000 then s.inTimeRead
    else s.disagreement
  else if s.rsq.lastMarker = some id then s
  else if e.marker = 0 then (if e.suppress then s else s.positionFault)
  else s.disagreement

/-! ### Relocation -/

/-- The acceptance conditions of a FIX (R22). -/
def State.fixAccepted (entry distance : Nat) (s : State) : Bool :=
  s.active && !s.rsq.known && decide (entry < s.cfg.route.length) && !s.cfg.skips entry
    && decide (distance ≤ (s.cfg.entry entry).length)

/-- The DSC at an accepted FIX: LOST becomes HELD, or BRAKED at latch 2 (R91). -/
def State.driveFix (s : State) : State := if s.dsc.motion = .lost then s.enterHeld else s

/-- A FIX (R22). -/
def State.relocate (entry distance : Nat) (s : State) : State :=
  if s.fixAccepted entry distance then
    let s1 := ((s.setRsq { s.rsq with known := true, lastMarker := none }).withdraw .position).driveFix
    (s1.enterEntry entry (distance * 1000)).settleEnds
  else s

end Sys2Proof.Machine
end

