-- ==== Sys2Proof/Machine/Restraints.lean ====
section
/-! DEFINITION. The Restraint Monitor: debounce (R106), seat states (R107 to R110), the vehicle restraint state
(R111 to R116) and the platform grants (R117 to R119). -/

namespace Sys2Proof.Machine

/-! ### Debounce -/

/-- One input after a sample: its run time and its debounced value (R106). -/
def debounce (time : Nat) (raw : Bool) (last : Option Bool) (run : Nat) (debounced : Bool) : Nat × Bool :=
  let r := if last = some raw then min 100 (run + 5) else 0
  (r, if raw ≠ debounced ∧ time ≤ r then raw else debounced)

/-- A seat after a sample of its two inputs (R106). -/
def Seat.sample (time : Nat) (x : SeatInput) (k : Seat) : Seat :=
  let l := debounce time x.lk k.rawLk k.runLk k.lk
  let b := debounce time x.bd k.rawBd k.runBd k.bd
  { k with
    rawLk := some x.lk, runLk := l.1, lk := l.2
    rawBd := some x.bd, runBd := b.1, bd := b.2 }

/-- The raw inputs of the seat in place `i`; an input that the sample does not give reads disengaged. -/
def inputAt (raw : List SeatInput) (i : Nat) : SeatInput := raw.getD i ⟨false, false⟩

/-- All seats after a sample; the inputs of seats that are not fitted are not read (R105, R106). -/
def sampleSeats (time : Nat) (raw : List SeatInput) (seats : List Seat) : List Seat :=
  seats.mapIdx fun i k => if k.fitted then k.sample time (inputAt raw i) else k

/-- A debounced input of the seat has changed. -/
def Seat.changedFrom (before after : Seat) : Bool :=
  decide (before.lk ≠ after.lk) || decide (before.bd ≠ after.bd)

/-- The places of the seats whose debounced inputs a sample has changed, in seat order. -/
def changedSeats (before after : List Seat) : List Nat :=
  (List.range 8).filter fun i =>
    match before[i]?, after[i]? with
    | some b, some a => b.changedFrom a
    | _, _ => false

/-! ### The vehicle restraint state -/

/-- A change of the vehicle restraint state (R111). -/
def State.setVehicle (x : Restraint) (s : State) : State :=
  if s.rm.vehicle = x then s
  else
    let left := decide (s.rm.vehicle = .secure)
    let s1 := (s.setRm { s.rm with vehicle := x }).requestPos true
    (if left then s1.forceAuthority else s1).evalRelease

/-- ALARM is entered: the stop cause and the announcement go out in an order that is not fixed (R113, R116,
R179). -/
def State.enterAlarm (s : State) : State :=
  (s.setVehicle .alarm).inEitherOrder (State.raise .restraint)
    fun t => t.play 0 (announcement t.cfg.opt.restraintClip)

/-- The test of CHECKING (R112). -/
def State.checkingTest (s : State) : State :=
  if s.rm.vehicle ≠ .checking then s
  else if s.rm.allLocked then s.setVehicle .secure
  else if s.rm.anyFault then s.setVehicle .fault
  else s

/-- The test of ALARM for SECURE with the latch at a level (R115). -/
def State.alarmTest (level : Nat) (s : State) : State :=
  if s.rm.vehicle = .alarm ∧ s.rm.allLocked ∧ level = 0 then (s.setVehicle .secure).announcementEnd
  else s

/-- The vehicle at a change of a fitted seat's state (R112, R114, R115). -/
def State.seatTest (s : State) : State :=
  match s.rm.vehicle with
  | .checking => s.checkingTest
  | .alarm => if s.rm.allLocked then (s.withdraw .restraint).alarmTest s.stc.latch else s
  | .released => s
  | .secure => s
  | .fault => s

/-- A seat loss (R109, R112 to R114). -/
def State.seatLoss (s : State) : State :=
  match s.rm.vehicle with
  | .secure => s.enterAlarm
  | .alarm => s.raise .restraint
  | .released => s
  | .checking => s
  | .fault => s

/-! ### Seat states -/

/-- The seat in place `i`. -/
def State.seat (s : State) (i : Nat) : Seat := s.rm.seats.getD i (Seat.start .notFitted)

/-- One seat replaced. -/
def State.setSeat (i : Nat) (k : Seat) (s : State) : State := s.setRm { s.rm with seats := s.rm.seats.set i k }

/-- The seat enters OPEN with the pair it has (R107). -/
def Seat.enterOpen (now contraTime : Nat) (k : Seat) : Seat :=
  { k with
    state := .opened, confirm := none
    contra := if k.lk && !k.bd then some (now + contraTime) else none }

/-- The seat enters CLOSING (R107). -/
def Seat.enterClosing (now confirmTime : Nat) (k : Seat) : Seat :=
  { k with state := .closing, confirm := some (now + confirmTime), contra := none }

/-- The contradiction timer of a seat that stays OPEN (R107). -/
def Seat.stayOpen (now contraTime : Nat) (k : Seat) : Seat :=
  { k with contra := if k.lk && !k.bd then some (k.contra.getD (now + contraTime)) else none }

/-- A seat acts on a change of its debounced inputs (R107 to R110). -/
def State.seatChange (i : Nat) (s : State) : State :=
  let k := s.seat i
  let opt := s.cfg.opt
  match k.state with
  | .notFitted => s
  | .opened =>
    if k.lk && k.bd then (s.setSeat i (k.enterClosing s.ms opt.confirmTime)).seatTest
    else s.setSeat i (k.stayOpen s.ms opt.contraTime)
  | .closing =>
    if k.lk && k.bd then s else (s.setSeat i (k.enterOpen s.ms opt.contraTime)).seatTest
  | .locked =>
    if k.lk && k.bd then s else ((s.setSeat i (k.enterOpen s.ms opt.contraTime)).seatLoss).seatTest
  | .fault =>
    if s.rm.vehicle = .released ∧ k.lk = false ∧ k.bd = false then
      s.setSeat i { k with state := .opened, confirm := none, contra := none }
    else s

/-- The seats named act on their changes, one after the other (R106, R109). -/
def State.seatChanges : List Nat → State → State
  | [], s => s
  | i :: is, s => (s.seatChange i).seatChanges is

/-- The confirm timer of a seat has expired (R108). -/
def State.confirmed (i : Nat) (s : State) : State :=
  let k := s.seat i
  if k.state = .closing ∧ k.lk ∧ k.bd then
    (s.setSeat i { k with state := .locked, confirm := none }).seatTest
  else s.setSeat i { k with confirm := none }

/-- The contradiction timer of a seat has expired (R107). -/
def State.contradicted (i : Nat) (s : State) : State :=
  let k := s.seat i
  if k.state = .opened then (s.setSeat i { k with state := .fault, contra := none }).seatTest
  else s.setSeat i { k with contra := none }

/-- FAULT seats with both inputs disengaged are cleared on entering RELEASED (R110). -/
def Seat.clearFault (k : Seat) : Seat :=
  if k.state = .fault ∧ k.lk = false ∧ k.bd = false then
    { k with state := .opened, confirm := none, contra := none }
  else k

/-! ### Grants -/

/-- The current entry's platform is the station, which serves the vehicle there (R117, R119). -/
def State.atPlatform (src : Nat) (s : State) : Bool := decide (s.entry.platform = some src)

/-- The acceptance conditions of UNLOCK (R117). -/
def State.unlockAccepted (src : Nat) (s : State) : Bool :=
  s.atPlatform src && (decide (s.dsc.motion = .held) || decide (s.dsc.motion = .braked))
    && decide (s.dsc.speed = 0)

/-- The vehicle goes to RELEASED (R117): from ALARM the cause is withdrawn and the announcement ended, and
FAULT seats are tested. -/
def State.releaseVehicle (s : State) : State :=
  let s1 := s.setVehicle .released
  let s2 := if s.rm.vehicle = .alarm then (s1.withdraw .restraint).announcementEnd else s1
  s2.setRm { s2.rm with seats := s2.rm.seats.map Seat.clearFault }

/-- A GRANT UNLOCK (R117). -/
def State.grantUnlock (src : Nat) (s : State) : State :=
  if s.unlockAccepted src ∧ s.rm.vehicle ≠ .released then s.releaseVehicle else s

/-- A GRANT LOCK (R118). -/
def State.grantLock (s : State) : State :=
  if s.rm.vehicle = .released then (s.setVehicle .checking).checkingTest else s

/-- The acceptance conditions of DISPATCH (R119). -/
def State.dispatchAccepted (src : Nat) (s : State) : Bool :=
  s.atPlatform src && decide (s.entry.hold = .dispatch) && decide (s.dsc.motion = .held)
    && decide (s.rm.vehicle = .secure)

/-- A GRANT DISPATCH (R119, R17, R20). -/
def State.grantDispatch (src : Nat) (s : State) : State :=
  if s.dispatchAccepted src ∧ s.rsq.released = false then
    (s.setRsq { s.rsq with released := true }).actOnRelease
  else s

end Sys2Proof.Machine
end

