-- ==== Sys2Proof/Machine/Power.lean ====
section
/-! DEFINITION. Starts and the end of the load (R194 to R197 and the start rules of the blocks), parking and
wake (R198, R199 and the park and wake rules of the blocks). -/

namespace Sys2Proof.Machine

/-! ### Starts -/

/-- A start from the reset input (R194, R197): every block at its start values, the incident list kept (R191),
a transmission cut short (R26), a reply cut off (R200). -/
def State.pinStart (s : State) : State :=
  { State.reset with
    now := s.now
    choices := s.choices
    cfs := { Cfs.start with startCause := .pin }
    ni := { Ni.start with carrierBusy := s.ni.carrierBusy }
    stc := { Stc.start with incidents := s.stc.incidents, nextSeq := s.stc.nextSeq }
    pending := s.pending }

/-- A power-on start (R194, R197). -/
def State.powerOnStart (s : State) : State :=
  { State.reset with choices := s.choices, pending := s.pending }

/-- The supply is lost: nothing but the brake's spring acts until the next power-on (R194, R191). -/
def State.unpowered (s : State) : State :=
  { State.reset with
    powered := false
    now := s.now
    choices := s.choices
    ni := { Ni.start with carrierBusy := s.ni.carrierBusy }
    pending := s.pending }

/-! ### The end of the load -/

/-- The seats at READY and at a wake (Table 6-1, R105). -/
def freshSeats (count : Nat) : List Seat :=
  (List.range 8).map fun i => Seat.start (if i < count then .opened else .notFitted)

/-- The NI begins: the net-silence timer and a class C POS request (R42). -/
def State.netBegins (s : State) : State :=
  (s.setNi { s.ni with silence := some (s.ms + s.cfg.opt.netSilence) }).requestPos true

/-- A running show clock at 0 (R146, R159). -/
def Sck.begins (now : Nat) : Sck := { Sck.start with running := true, baseAt := now }

/-- The load ends with READY: the blocks take up their part of the configuration (R194; R83, R85, R121, R42,
R146). -/
def State.ready (c : Configuration) (s : State) : State :=
  ({ s with
    cfg := c
    cfs := { s.cfs with load := .ready }
    ni := { s.ni with gen := c.opt.station }
    dsc := { s.dsc with timer := some (s.ms + 10) }
    rm := { s.rm with seats := freshSeats c.opt.seatCount, timer := some (s.ms + 5) }
    sck := Sck.begins s.now }).netBegins

/-- The load ends with CONFIG-FAULT (R195, R196, R85). -/
def State.configFault (code : FaultCode) (item : FaultItem) (s : State) : State :=
  (s.setCfs { s.cfs with load := .configFault, faultCode := some code, faultItem := some item }).setDsc
    (s.dsc.enter .configFault)

/-- The end of the load (R194). -/
def State.endLoad (memory : List Byte) (s : State) : State :=
  match loadImage memory with
  | .ok c => s.ready c
  | .error e => s.configFault e.1 e.2

/-! ### Parking (R198) -/

/-- The NI parks (Table 2-3, R42); a transmission already begun is completed. -/
def Ni.park (n : Ni) : Ni := { n with queue := [], idleFrom := none, posTimer := none, silence := none }

/-- The SAU parks (R81). -/
def Sau.park : Sau := ⟨0, .forced, none, none, []⟩

/-- The DSC parks (Table 5-1, R92). -/
def Dsc.park (d : Dsc) : Dsc := { d.enter .parked with timer := none }

/-- The RM parks (Table 6-4, R122). -/
def Rm.park (m : Rm) : Rm :=
  { m with release := false, seats := m.seats.map fun k => { k with confirm := none, contra := none } }

/-- The RSQ parks (R24, R15). -/
def Rsq.park (r : Rsq) : Rsq := { r with effects := 0, dwell := none }

/-- The SCU parks (R144): the words of the running chain left are counted, everything but the counters and the
issue reference takes its park value. -/
def State.parkScu (s : State) : Scu :=
  { Scu.start with
    counters := if s.scu.chain.running then s.scu.counters.abandon s.wordsLeft else s.scu.counters
    nextRef := s.scu.nextRef }

/-- The SCK parks: the clock stops at its reading (R159). -/
def Sck.park (now : Nat) (k : Sck) : Sck := { k.rebase now with running := false }

/-- A voice at parking and at a wake (Table 9-1). -/
def Voice.park (v : Voice) : Voice := { Voice.start with underruns := v.underruns, refusals := v.refusals }

/-- The SPE parks: voices IDLE, outputs muted, a transfer in progress completed and discarded (R180). -/
def Spe.park (e : Spe) : Spe :=
  { e with
    v0 := e.v0.park, v1 := e.v1.park, v2 := e.v2.park, v3 := e.v3.park
    link := e.link.map fun t => { t with disowned := true }
    front := 0, rear := 0 }

/-- The part parks (R198). -/
def State.parkAll (s : State) : State :=
  { s with
    ni := s.ni.park
    ptb := []
    sau := Sau.park
    dsc := s.dsc.park
    rm := s.rm.park
    rsq := s.rsq.park
    scu := s.parkScu
    sck := s.sck.park s.now
    spe := s.spe.park
    stc := { s.stc with causes := [] } }

/-- The acceptance conditions of a park request (R198). -/
def State.parkAccepted (s : State) : Bool :=
  s.powered && decide (s.cfs.load = .ready)
    && (decide (s.dsc.motion = .held) || decide (s.dsc.motion = .lost))

/-! ### Wake (R199) -/

/-- The part wakes: every block takes its wake values, then the NI begins (R199, R42). DESIGN CHOICE (log entry 46): no
frame is in transmission after a wake (Table 2-3), also where one begun before parking still holds the carrier. -/
def State.wake (r : WakeReason) (s : State) : State :=
  ({ s with
    cfs := { s.cfs with startCause := .wake, wakeReason := some r }
    ni := { s.ni with queue := [], sending := none, idleFrom := none, posTimer := none }
    ptb := []
    sau := Sau.start
    dsc := { Dsc.start with steering := s.dsc.steering, timer := some (s.ms + 10) }
    rm := { Rm.start with seats := freshSeats s.cfg.opt.seatCount, timer := s.rm.timer }
    rsq := Rsq.start
    scu := { Scu.start with counters := s.scu.counters }
    sck := Sck.begins s.now
    spe := { s.spe.park with lastServed := 3 }
    stc := { Stc.start with incidents := s.stc.incidents, nextSeq := s.stc.nextSeq } }).netBegins

end Sys2Proof.Machine
end

