-- ==== Sys2Proof/Machine/Resume.lean ====
section
/-! DEFINITION. RESUME and the fall of the latch (R185, R186), and the statuses of issued cues (R140 to R142). -/

namespace Sys2Proof.Machine

/-! ### RESUME -/

/-- The latched causes are withdrawn, the NI informed where the asserted level falls (R185). -/
def State.withdrawLatched (s : State) : State :=
  let s1 := s.setStc { s.stc with causes := s.stc.causes.filter fun c => !c.latched }
  if s1.stc.asserted ≠ s.stc.asserted then s1.requestPos true else s1

/-- The first cause that a RESUME leaves (R185). -/
def Stc.firstAfter (station level : Nat) (c : Stc) : Option FirstCause :=
  if level = 0 then none
  else (c.causes.find? fun x => x.level = level).map fun x => ⟨.local_ x, station⟩

/-- The DSC at a fall, and the RSQ at the HELD it enters (R90, R19, R20). -/
def State.driveAfterFall (level : Nat) (s : State) : State := (s.driveFall level).actOnRelease

/-- The SCU at a fall: a word waiting with STOPPED is acted on when the latch reaches 0 (R135, R137). -/
def State.chainAfterFall (level : Nat) (s : State) : State :=
  if level = 0 then s.retryChain .stopped else s

/-- The notices of a fall of the latch (R186): the DSC, the SCU and the RM act on the new level, in an order that the
manual leaves open (DESIGN CHOICE, log entry 15). -/
def State.notifyFall (level : Nat) (s : State) : State :=
  s.inAnyOrder (State.driveAfterFall level) (State.chainAfterFall level) (State.alarmTest level)

/-- The latch is set to the asserted level (R185). -/
def State.setLatch (s : State) : State :=
  let level := s.stc.asserted
  s.setStc { s.stc with latch := level, first := s.stc.firstAfter s.cfg.opt.station level }

/-- An accepted RESUME (R185, R186). -/
def State.resume (s : State) : State :=
  let s1 := s.withdrawLatched.setLatch
  if s1.stc.latch < s.stc.latch then s1.notifyFall s1.stc.latch else s1

/-! ### Statuses of cues -/

/-- The counter of a result rises (R140, R143). -/
def Counters.result (r : CueResult) (c : Counters) : Counters :=
  match r with
  | .done => { c with done := bump c.done }
  | .busy => { c with busy := bump c.busy }
  | .refused => { c with refused := bump c.refused }
  | .fault => { c with fault := bump c.fault }

/-- What the end of a SENT record means to the chain that watches it (R136). -/
def outcomeOf : CueResult → WatchedOutcome
  | .done => .done
  | .busy => .other
  | .refused => .other
  | .fault => .other

/-- The play request of a DONE status (R142). -/
def linkedRequest (l : SoundLink) (start : Option Nat) : PlayRequest :=
  ⟨l.clip, start, l.gain, 0, 0, .both, .cue⟩

/-- The linked sound of a record, requested at a DONE status (R140, R142). -/
def State.playLink (b : CuestBody) (t : Track) (s : State) : State :=
  match b.result, t.link with
  | .done, some l => s.play l.voice (linkedRequest l b.start)
  | _, _ => s

/-- A CUEST frees a SENT record (R140). -/
def Scu.sentDone (b : CuestBody) (t : Track) (u : Scu) : Scu :=
  { u.freeRecord t.ref (outcomeOf b.result) with counters := u.counters.result b.result }

/-- A CUEST frees a TIMED-OUT record (R140). -/
def Scu.lateDone (t : Track) (u : Scu) : Scu :=
  { u.freeRecord t.ref .other with
    counters := if t.suppressLate then u.counters else { u.counters with late := bump u.counters.late } }

/-- The station that the scene→station map names for the scene is the source (R140). -/
def State.rightStation (src : Nat) (b : CuestBody) (s : State) : Bool :=
  decide (s.cfg.station b.scene ≠ 0) && decide (s.cfg.station b.scene = src)

/-- A CUEST at the SCU (R140). -/
def State.cueStatus (src : Nat) (b : CuestBody) (s : State) : State :=
  if s.rightStation src b then
    match s.scu.recordOf b.scene b.cue with
    | none => s
    | some t =>
      match t.state with
      | .queued => s
      | .sent => ((s.setScu (s.scu.sentDone b t)).playLink b t).recordFreed
      | .timedOut => (s.setScu (s.scu.lateDone t)).recordFreed
  else s

/-- A SENT record becomes TIMED-OUT with its late window running (R141). -/
def Scu.timeOut (ref ms late : Nat) (u : Scu) : Scu :=
  { u with
    tracker := u.tracker.map fun t =>
      if t.ref = ref then { t with state := .timedOut, timer := some (ms + late) } else t
    chain := u.chain.watch ref .other
    counters := { u.counters with timedOut := bump u.counters.timedOut } }

/-- The cue timeout of a SENT record has expired; a late window of 0 frees the record at once (R141). -/
def State.cueTimedOut (ref : Nat) (s : State) : State :=
  let s1 := s.setScu (s.scu.timeOut ref s.ms s.cfg.opt.lateWindow)
  if s.cfg.opt.lateWindow = 0 then (s1.setScu (s1.scu.freeRecord ref .other)).recordFreed else s1.testChain

end Sys2Proof.Machine
end

