-- ==== Sys2Proof/Machine/Receive.lean ====
section
/-! DEFINITION. Receive filtering and delivery (R25, R28 to R33): what a received frame does, kind by kind. -/

namespace Sys2Proof.Machine

/-! ### Delivery of own-signature frames (R33, Table 2-2)

Where one frame goes to several blocks, the order in which they act is not fixed; a block acts only while the
part is active, which a park within the same frame can end. -/

/-- The PTB's hearing of a frame that carries nothing for it to store (R48, R50). -/
def State.hear (src : Nat) (s : State) : State := if s.active then s.hearOwn src else s

/-- An own-signature POS: PTB with SCU, and STC (R33, R52, R183). The STC acts only where the level exceeds
the latch. -/
def State.deliverPos (src : Nat) (b : PosBody) (s : State) : State :=
  if s.stc.latch < b.level then s.inEitherOrder (State.hearPos src b) (State.frameLevel b.level .peerLevel src)
  else s.hearPos src b

/-- An own-signature STOP: PTB and STC (R33, R183). -/
def State.deliverStop (src level code : Nat) (s : State) : State :=
  if s.stc.latch < level then s.inEitherOrder (State.hear src) (State.frameLevel level (.code code) src)
  else s.hear src

/-- An own-signature RESUME: PTB and STC (R33, R185). -/
def State.deliverResume (src : Nat) (s : State) : State := s.inEitherOrder (State.hear src) State.resume

/-- A CLAIM at both slots (R127 to R129). -/
def State.claimAtSlots (src x : Nat) (s : State) : State := (s.claimHeard src x .one).claimHeard src x .two

/-- A FREE at both slots (R127 to R129). -/
def State.freeAtSlots (src x : Nat) (s : State) : State := (s.freeHeard src x .one).freeHeard src x .two

/-- An own-signature CLAIM: PTB and SCU (R33). -/
def State.deliverClaim (src x : Nat) (s : State) : State :=
  s.inEitherOrder (State.hear src) (State.claimAtSlots src x)

/-- An own-signature FREE: PTB and SCU (R33). -/
def State.deliverFree (src x : Nat) (s : State) : State :=
  s.inEitherOrder (State.hear src) (State.freeAtSlots src x)

/-- An own-signature CUEST: PTB and SCU (R33). -/
def State.deliverCuest (src : Nat) (b : CuestBody) (s : State) : State :=
  s.inEitherOrder (State.hear src) (State.cueStatus src b)

/-- An own-signature SYNC: PTB and SCK (R33, R54, R154). -/
def State.deliverSync (src time scene : Nat) (s : State) : State :=
  s.inEitherOrder (State.hearSync src) (State.handleSync src time scene)

/-- A GRANT PARK at the CFS (R198). -/
def State.grantPark (s : State) : State := if s.parkAccepted then s.parkAll else s

/-- What an addressed GRANT does outside the PTB (R33): a GRANT WAKE outside PARKED is ignored (R199). -/
def State.grant (src : Nat) (kind : GrantKind) (s : State) : State :=
  match kind with
  | .unlock => s.grantUnlock src
  | .lock => s.grantLock
  | .dispatch => s.grantDispatch src
  | .park => s.grantPark
  | .wake => s

/-- An own-signature GRANT: PTB, and where it is addressed to the part RM or CFS (R33). -/
def State.deliverGrant (src target : Nat) (kind : GrantKind) (s : State) : State :=
  if target = s.cfg.opt.station then s.inEitherOrder (State.hear src) (State.grant src kind) else s.hear src

/-- An own-signature FIX: PTB, and where it is addressed to the part the RSQ (R33, R22). -/
def State.deliverFix (src target entry distance : Nat) (s : State) : State :=
  if target = s.cfg.opt.station then s.inEitherOrder (State.hear src) (State.relocate entry distance)
  else s.hear src

/-- An own-signature CLEAR: the hearing of the sender first, then the removal (R59). -/
def State.deliverClear (src target : Nat) (s : State) : State := (s.hear src).removePeer target

/-- An own-signature frame by its kind (Table 2-2). -/
def State.deliver (src : Nat) (b : Body) (s : State) : State :=
  match b with
  | .pos p => s.deliverPos src p
  | .stop level code => s.deliverStop src level code
  | .resume => s.deliverResume src
  | .claim x => s.deliverClaim src x
  | .free x => s.deliverFree src x
  | .cue _ => s.hear src
  | .cuest c => s.deliverCuest src c
  | .sync time scene => s.deliverSync src time scene
  | .grant target kind => s.deliverGrant src target kind
  | .fix target entry distance => s.deliverFix src target entry distance
  | .clear target => s.deliverClear src target

/-! ### Foreign frames (R31) -/

/-- A foreign frame: a hearing with the FOREIGN mark, and a STOP also to the STC (R31, R51, R183). -/
def State.deliverForeign (src : Nat) (b : Body) (s : State) : State :=
  match b with
  | .stop level code =>
    if s.stc.latch < level then s.inEitherOrder (State.hearForeign src) (State.frameLevel level (.code code) src)
    else s.hearForeign src
  | .pos _ => s.hearForeign src
  | .resume => s.hearForeign src
  | .claim _ => s.hearForeign src
  | .free _ => s.hearForeign src
  | .cue _ => s.hearForeign src
  | .cuest _ => s.hearForeign src
  | .sync _ _ => s.hearForeign src
  | .grant _ _ => s.hearForeign src
  | .fix _ _ _ => s.hearForeign src
  | .clear _ => s.hearForeign src

/-! ### The checks -/

/-- An own-signature POS ordinate lies below the own route length (R32). -/
def ordinateFits (routeLength : Nat) : Body → Bool
  | .pos b =>
    match b.ordinate with
    | some o => o < routeLength
    | none => true
  | .stop _ _ => true
  | .resume => true
  | .claim _ => true
  | .free _ => true
  | .cue _ => true
  | .cuest _ => true
  | .sync _ _ => true
  | .grant _ _ => true
  | .fix _ _ _ => true
  | .clear _ => true

/-- The checks of R30 to R32 on a frame of the right form. -/
def State.frameValid (f : Frame) (s : State) : Bool :=
  decide (f.src ≠ s.cfg.opt.station) && senderMay f.src f.body && frameInRange f
    && (decide (f.sig ≠ s.cfg.opt.signature) || ordinateFits s.cfg.opt.routeLength f.body)

/-- A valid frame restarts the net-silence timer, and withdraws NET-SILENT (R41). -/
def State.netHeard (s : State) : State :=
  (s.setNi { s.ni with silence := some (s.ms + s.cfg.opt.netSilence) }).withdraw .netSilent

/-- A valid frame is handled (R31, R33), and the RSQ acts on a change of the slots (R18, R124). -/
def State.handleFrame (f : Frame) (s : State) : State :=
  let s1 := s.netHeard
  (if f.sig = s.cfg.opt.signature then s1.deliver f.src f.body else s1.deliverForeign f.src f.body).afterSlots
    s.scu

/-- The frame that wakes a parked part (R28). -/
def State.wakes (f : Frame) (s : State) : Bool :=
  s.frameValid f && decide (f.sig = s.cfg.opt.signature)
    && decide (f.body = .grant s.cfg.opt.station .wake)

/-- A frame of the right form is examined at its reception (R28). -/
def State.examine (f : Frame) (s : State) : State :=
  if s.parked then (if s.wakes f then s.wake .net else s)
  else if s.active && s.frameValid f then s.handleFrame f
  else s

/-- The carrier falls idle and ends a candidate (R25, R35). -/
def State.carrierFalls (s : State) : State :=
  if s.powered then s.setNi (s.ni.carrierIdle s.now) else s

/-- A frame of the right form is received (R25). DESIGN CHOICE (log entry 53): the carrier falls idle first, so a
measurement that starts with frames waiting makes its draw (R34, R35) before the frame is handled. -/
def State.receive (f : Frame) (s : State) : State := s.carrierFalls.examine f

/-- The bytes of a candidate are received: a candidate that fails the form checks is discarded (R25, R29). -/
def State.receiveBytes (bytes : List Byte) (s : State) : State :=
  match parseCandidate bytes with
  | some f => s.receive f
  | none => s.carrierFalls

end Sys2Proof.Machine
end

