-- ==== Sys2Proof/Machine/CmdPower.lean ====
section
/-! DEFINITION. The commands POWER_ON, RESET_INPUT, LOAD_END and POWER_LOSS (R194, R197). -/

namespace Sys2Proof.Machine

/-- A command that acts only while the part has its supply; time passes in any case (DESIGN CHOICE, log entry 13). -/
def State.ifPowered (act : State → State) (s : State) : State := if s.powered then act s else s

/-- POWER_ON: a power-on start (R194); the part's own time begins at 0 (DESIGN CHOICE, log entry 12). -/
def execPowerOn (_dt : Nat) (s : State) : Host.Outcome State Fault Refusal := .next s.powerOnStart

/-- RESET_INPUT: a start from the reset input (R194, R197). -/
def execResetInput (dt : Nat) (s : State) : Host.Outcome State Fault Refusal :=
  .next ((s.elapse dt).ifPowered State.pinStart)

/-- The load ends only while it runs; outside a load the event does nothing (DESIGN CHOICE, log entry 52). -/
def State.loadEnds (memory : List Byte) (s : State) : State :=
  if s.powered ∧ s.cfs.load = .loading then s.endLoad memory else s

/-- LOAD_END: the load of the image ends with READY or CONFIG-FAULT (R194 to R196). -/
def execLoadEnd (dt : Nat) (memory : List Byte) (s : State) : Host.Outcome State Fault Refusal :=
  .next ((s.elapse dt).loadEnds memory)

/-- POWER_LOSS: the supply is lost (DESIGN CHOICE, log entry 13). -/
def execPowerLoss (dt : Nat) (s : State) : Host.Outcome State Fault Refusal :=
  .next (s.elapse dt).unpowered

end Sys2Proof.Machine
end

