-- ==== Sys2Proof/Machine/CmdNet.lean ====
section
/-! DEFINITION. The timers of the net and of the peer table: POS period (R40), net silence (R41), stale and drop
time (R55, R56). Each acts where its timer runs, at the moment of its expiry (DESIGN CHOICE, log entry 7). -/

namespace Sys2Proof.Machine

/-- An expiry: time passes to the timer's moment, and the action follows where the timer runs. -/
def State.onExpiry (dt : Nat) (t : Timer) (act : State → State) (s : State) : State :=
  match t with
  | some d => act (s.elapseTo dt (d * 1000))
  | none => s.elapse dt

/-- POS_PERIOD_TIMER_EXPIRY: a class P request, which restarts the timer (R40). -/
def execPosPeriodTimerExpiry (dt : Nat) (s : State) : Host.Outcome State Fault Refusal :=
  .next (s.onExpiry dt s.ni.posTimer (State.requestPos false))

/-- The net has been silent (R41). -/
def State.netSilent (s : State) : State := (s.setNi { s.ni with silence := none }).raise .netSilent

/-- NET_SILENCE_TIMER_EXPIRY (R41). -/
def execNetSilenceTimerExpiry (dt : Nat) (s : State) : Host.Outcome State Fault Refusal :=
  .next (s.onExpiry dt s.ni.silence State.netSilent)

/-- The moment at which an age is reached, where the station has a record. -/
def State.ageTimer (age station : Nat) (s : State) : Timer :=
  (s.peer station).map fun p => p.lastHeard + age

/-- STALE_TIME: the stale time of a record has passed (R55). -/
def execStaleTime (dt : Nat) (station : Nat) (s : State) : Host.Outcome State Fault Refusal :=
  .next (s.onExpiry dt (s.ageTimer s.cfg.opt.staleTime station) fun t =>
    (t.staleNow station).afterSlots t.scu)

/-- DROP_TIME: the drop time of a record has passed (R56). -/
def execDropTime (dt : Nat) (station : Nat) (s : State) : Host.Outcome State Fault Refusal :=
  .next (s.onExpiry dt (s.ageTimer s.cfg.opt.dropTime station) fun t =>
    (t.dropNow station).afterSlots t.scu)

end Sys2Proof.Machine
end

