-- ==== Sys2Proof/Machine/Speed.lean ====
section
/-! DEFINITION. The Speed Authority Unit: the vehicle ahead (R64 to R67), the look-ahead walk (R68 to R70), the
braking curve (R71) and the final authority with its forcing and profile (R73, R74, R77). -/

namespace Sys2Proof

/-- The look-ahead walk's target at the start of an entry or at its end, before its curve speed (R69, R70). -/
structure WalkTarget where
  kind : Machine.TargetKind
  entry : Nat
  distance : Nat
  speed : Nat
  deriving DecidableEq, Repr

/-- The walk through the successors after entry `i`, the next one starting `distance` mm ahead; the first
argument is how many successors may still be visited (R69, R70). -/
def Configuration.walk (c : Configuration) : Nat → Nat → Nat → List WalkTarget
  | 0, _, _ => []
  | n + 1, i, distance =>
    if c.opt.lookAhead < distance then []
    else
      let j := c.successor i
      let e := c.entry j
      ⟨.entryStart, j, distance, e.cap⟩ ::
        (if e.hold ≠ .none then [⟨.holdEnd, j, distance + e.length, 0⟩]
         else c.walk n j (distance + e.length))

end Sys2Proof

namespace Sys2Proof.Machine

/-! ### The braking curve -/

/-- The root of `n` found bit by bit: the largest number of `bits` more bits above `r` whose square does not
exceed `n`. -/
def isqrtBits : Nat → Nat → Nat → Nat
  | 0, r, _ => r
  | b + 1, r, n =>
    let t := r + 2 ^ b
    isqrtBits b (if t * t ≤ n then t else r) n

/-- The largest integer whose square does not exceed the argument (R71). -/
def isqrt (n : Nat) : Nat := isqrtBits (Nat.log2 n / 2 + 1) 0 n

/-- The reaction term k (R71). -/
def reactionTerm (a tr : Nat) : Nat := (a * tr + 999) / 1000

/-- The curve speed of a target (R71). -/
def curveSpeed (opt : Options) (distance speed : Nat) : Nat :=
  let k := reactionTerm opt.serviceDecel opt.reaction
  isqrt (k * k + speed * speed + 2 * opt.serviceDecel * distance) - k

/-! ### The vehicle ahead -/

/-- Two lanes can meet (R64). -/
def lanesMeet (a b : Nat) : Bool := decide (a = b) || decide (a = 0) || decide (b = 0)

/-- The distance ahead from ordinate `a` to ordinate `b` on the loop (section 5.2). -/
def distanceAhead (routeLength a b : Nat) : Nat := (((b : Int) - (a : Int)) % (routeLength : Int)).toNat

/-- A record that is a candidate for the vehicle ahead, with its ordinate (R64). -/
def Peer.candidate (ownLane : Nat) (p : Peer) : Option Nat :=
  if p.isVehicle && !p.foreign then
    match p.data with
    | some d => if lanesMeet d.lane ownLane then d.ordinate else none
    | none => none
  else none

/-- The gap to a vehicle at a distance ahead (R67). -/
def peerGap (opt : Options) (distance : Nat) : Nat := distance - opt.vehicleLength - opt.margin

/-- The identity of a candidate at a distance ahead, or none beyond the horizon (R65 to R67). -/
def Peer.aheadOf (opt : Options) (ownLane ownOrdinate : Nat) (p : Peer) : Option Ahead :=
  match p.candidate ownLane with
  | none => none
  | some o =>
    let d := distanceAhead opt.routeLength ownOrdinate o
    if opt.horizon < d then none
    else
      let g := peerGap opt d
      some ⟨p.station, d, g, curveSpeed opt g 0, p.stale⟩

/-- The nearer of two, the lower station number where they share the distance (R65). -/
def nearer (a b : Ahead) : Ahead :=
  if b.distance < a.distance ∨ (b.distance = a.distance ∧ b.station < a.station) then b else a

/-- The nearest of a list (R65). -/
def nearest : List Ahead → Option Ahead
  | [] => none
  | a :: rest => some (rest.foldl nearer a)

/-- The selection of the vehicle ahead (R64 to R66); none while the position is LOST. -/
def State.vehicleAhead (s : State) : Option Ahead :=
  match s.ordinate with
  | none => none
  | some o => nearest (s.ptb.filterMap (Peer.aheadOf s.cfg.opt s.entry.lane o))

/-! ### The route ahead -/

/-- The remaining distance r (R68). -/
def State.remaining (s : State) : Nat := s.entry.length - s.distanceMm

/-- The targets of the walk from the vehicle's place (R68 to R70). -/
def State.walkTargets (s : State) : List WalkTarget :=
  if s.holdPending then [⟨.holdEnd, s.rsq.entry, s.remaining, 0⟩]
  else s.cfg.walk 8 s.rsq.entry s.remaining

/-- A target with its curve speed (R71). -/
def lookAheadTarget (opt : Options) (t : WalkTarget) : Target :=
  ⟨t.kind, t.entry, t.distance, t.speed, curveSpeed opt t.distance t.speed⟩

/-- The look-ahead list (Table 4-1). -/
def State.lookAheadList (s : State) : List Target := s.walkTargets.map (lookAheadTarget s.cfg.opt)

/-! ### The final authority -/

/-- The values of which the curve limit is the smallest, each with the source that names it, in the order of
R73. -/
def State.limits (ahead : Option Ahead) (targets : List Target) (s : State) : List (Nat × LimitSource) :=
  (match ahead with
    | some a => [(a.speed, .peer)]
    | none => [])
    ++ targets.mapIdx (fun i t => (t.curve, .target (i + 1)))
    ++ [(s.entry.cap, .cap), (s.cfg.opt.vmax, .vmax)]

/-- The smaller of two values, the first where they are equal (R73). -/
def lower (a b : Nat × LimitSource) : Nat × LimitSource := if b.1 < a.1 then b else a

/-- The smallest of a list of values, the first of those that share it, or `d` for an empty list (R73). -/
def lowest (d : Nat × LimitSource) : List (Nat × LimitSource) → Nat × LimitSource
  | [] => d
  | a :: rest => rest.foldl lower a

/-- The curve limit with its source (R73). -/
def State.curveLimit (ahead : Option Ahead) (targets : List Target) (s : State) : Nat × LimitSource :=
  lowest (s.cfg.opt.vmax, .vmax) (s.limits ahead targets)

/-- The profile step: the speed lost in one period at the service deceleration, rounded up (R77). -/
def profileStep (a : Nat) : Nat := (a * 10 + 999) / 1000

/-- The forcing conditions of R74 that can hold with the position KNOWN. -/
def State.forced (s : State) : Bool :=
  decide (s.rm.vehicle ≠ .secure) || decide (s.stc.latch = 2) || decide (s.dsc.motion = .parked)
    || decide (s.dsc.motion = .configFault)

/-- The authority and its source from the curve limit (R73, R74, R77). -/
def State.finalAuthority (limit : Nat × LimitSource) (s : State) : Nat × LimitSource :=
  if s.forced then (0, .forced)
  else if s.stc.latch = 1 then
    let profile := s.sau.authority - profileStep s.cfg.opt.serviceDecel
    if profile < limit.1 then (profile, .profile) else limit
  else limit

/-- The SAU's state after a computation (R63 to R77). -/
def State.computedSau (s : State) : Sau :=
  if s.rsq.known then
    let ahead := s.vehicleAhead
    let targets := s.lookAheadList
    let limit := s.curveLimit ahead targets
    let final := s.finalAuthority limit
    ⟨final.1, final.2, some limit.1, ahead, targets⟩
  else ⟨0, .forced, none, none, []⟩

/-- The authority computation of a control period (R63): the SAU's new state, and the AHEAD pin (R66, R57). -/
def State.computeAuthority (s : State) : State :=
  let u := s.computedSau
  (s.setSau u).pin .ahead (u.ahead.map Ahead.station)

end Sys2Proof.Machine
end

