-- ==== Sys2Proof/Machine/CmdDrive.lean ====
section
/-! DEFINITION. The commands of movement: ODOMETER_PULSE (R5, R84, R102, R134), MARKER_READ (R6 to R12),
DWELL_TIMER_EXPIRY (R19) and CONTROL_PERIOD_EXPIRY (R83). -/

namespace Sys2Proof.Machine

/-! ### Odometer pulses -/

/-- The DSC counts a pulse and adds it to the loss counter (R84, R102). -/
def Dsc.pulse (opt : Options) (d : Dsc) : Dsc := { d.countLoss opt with pulses := d.pulses + 1 }

/-- The SCU's and the RSQ's part of a pulse, the chain distance first (R134, R5, DESIGN CHOICE, log entry 17). -/
def State.chainAndRoute (s : State) : State := (if s.rsq.known then s.chainPulse else s).routePulse

/-- A pulse that carries the loss counter above the guide-loss distance: the DSC's raising falls before, between
or after the SCU's and the RSQ's part, in an order that is not fixed (DESIGN CHOICE, log entry 17). -/
def State.pulseWithLoss (s : State) : State :=
  let c (t : State) : State := if t.rsq.known then t.chainPulse else t
  match s.openOrder 3 with
  | 0 => (s.settled.raise .guide).chainAndRoute
  | 1 => ((c s.settled).raise .guide).routePulse
  | _ => s.settled.chainAndRoute.raise .guide

/-- An odometer pulse while the part is active. -/
def State.pulse (s : State) : State :=
  let s1 := s.setDsc (s.dsc.pulse s.cfg.opt)
  (if s.dsc.lossReached s.cfg.opt then s1.pulseWithLoss else s1.chainAndRoute).afterSlots s.scu

/-- ODOMETER_PULSE (R5, R84, R102, R134). -/
def execOdometerPulse (dt : Nat) (s : State) : Host.Outcome State Fault Refusal :=
  .next (if (s.elapse dt).active then (s.elapse dt).pulse else s.elapse dt)

/-! ### Marker reads -/

/-- A marker read counts while the part is active and the position KNOWN (R4). -/
def State.markerHeard (id : Nat) (s : State) : State :=
  if s.active && s.rsq.known then (s.readMarker id).afterSlots s.scu else s

/-- MARKER_READ (R6 to R12). -/
def execMarkerRead (dt : Nat) (id : Nat) (s : State) : Host.Outcome State Fault Refusal :=
  .next ((s.elapse dt).markerHeard id)

/-! ### The dwell timer -/

/-- The dwell timer has expired (R19, R20). -/
def State.dwellOver (s : State) : State :=
  ((s.setRsq { s.rsq with released := true, dwell := none }).actOnRelease).afterSlots s.scu

/-- DWELL_TIMER_EXPIRY (R19). -/
def execDwellTimerExpiry (dt : Nat) (s : State) : Host.Outcome State Fault Refusal :=
  .next (s.onExpiry dt s.rsq.dwell State.dwellOver)

/-! ### The control period -/

/-- Step 1: the pulse count is closed, the measured speed set, the release output re-evaluated (R84, R120). -/
def State.closeCount (s : State) : State := (s.setDsc (s.dsc.closePeriod s.cfg.opt.odometer)).evalRelease

/-- Step 4: the speed command from the authority of the period (R94). -/
def State.setCommand (s : State) : State :=
  s.setDsc (s.dsc.ramp s.sau.authority (rampStep s.cfg.opt.accelLimit))

/-- A guide that has left OFF-WIRE clears the loss counter and withdraws GUIDE (R102). -/
def State.regain (before : GuideState) (s : State) : State :=
  if before = .offWire ∧ s.dsc.guide ≠ .offWire then (s.setDsc { s.dsc with loss := 0 }).withdraw .guide else s

/-- Step 5: the guide is sampled and the steering command set (R97 to R102). -/
def State.guideStep (coils : Coils) (s : State) : State :=
  let s1 := s.readFeedforward
  (s1.setDsc ((s1.dsc.sense s1.cfg.opt coils).steer s1.cfg.opt)).regain s.dsc.guide

/-- The control period timer is restarted at its expiry (R83). -/
def State.restartPeriod (s : State) : State := s.setDsc { s.dsc with timer := some (s.ms + 10) }

/-- The work of a control period (R83), after which the RSQ acts on a DWELL 0 released at an entering of HELD
(R19, R20, DEDUCED, log entry 19). -/
def State.controlPeriod (coils : Coils) (s : State) : State :=
  ((((s.restartPeriod.closeCount.computeAuthority).periodTransition).setCommand.guideStep coils).actOnRelease).afterSlots
    s.scu

/-- CONTROL_PERIOD_EXPIRY (R83). -/
def execControlPeriodExpiry (dt : Nat) (coils : Coils) (s : State) : Host.Outcome State Fault Refusal :=
  .next (s.onExpiry dt s.dsc.timer (State.controlPeriod coils))

end Sys2Proof.Machine
end

