-- ==== Sys2Proof/Machine/CmdFrames.lean ====
section
/-! DEFINITION. The commands of the receive line and the channel: the received frames (R25 to R33), a discarded
candidate, CARRIER_BUSY (R35) and FRAME_TRANSMIT (R34, R26). -/

namespace Sys2Proof.Machine

/-- POS_FRAME: an own-signature POS, or a foreign hearing (R52, R31). -/
def execPosFrame (dt : Nat) (h : Header) (b : PosBody) (s : State) : Host.Outcome State Fault Refusal :=
  .next ((s.elapse dt).receive ⟨h.src, h.sig, .pos b⟩)

/-- STOP_FRAME: a STOP of either signature (R183, R31). -/
def execStopFrame (dt : Nat) (h : Header) (level code : Nat) (s : State) : Host.Outcome State Fault Refusal :=
  .next ((s.elapse dt).receive ⟨h.src, h.sig, .stop level code⟩)

/-- RESUME_FRAME (R185). -/
def execResumeFrame (dt : Nat) (h : Header) (s : State) : Host.Outcome State Fault Refusal :=
  .next ((s.elapse dt).receive ⟨h.src, h.sig, .resume⟩)

/-- CLAIM_FRAME (R127 to R129). -/
def execClaimFrame (dt : Nat) (h : Header) (scene : Nat) (s : State) : Host.Outcome State Fault Refusal :=
  .next ((s.elapse dt).receive ⟨h.src, h.sig, .claim scene⟩)

/-- FREE_FRAME (R128). -/
def execFreeFrame (dt : Nat) (h : Header) (scene : Nat) (s : State) : Host.Outcome State Fault Refusal :=
  .next ((s.elapse dt).receive ⟨h.src, h.sig, .free scene⟩)

/-- CUE_FRAME: a hearing alone (R47). -/
def execCueFrame (dt : Nat) (h : Header) (b : CueBody) (s : State) : Host.Outcome State Fault Refusal :=
  .next ((s.elapse dt).receive ⟨h.src, h.sig, .cue b⟩)

/-- CUEST_FRAME (R140). -/
def execCuestFrame (dt : Nat) (h : Header) (b : CuestBody) (s : State) : Host.Outcome State Fault Refusal :=
  .next ((s.elapse dt).receive ⟨h.src, h.sig, .cuest b⟩)

/-- SYNC_FRAME (R54, R154). -/
def execSyncFrame (dt : Nat) (h : Header) (time scene : Nat) (s : State) : Host.Outcome State Fault Refusal :=
  .next ((s.elapse dt).receive ⟨h.src, h.sig, .sync time scene⟩)

/-- GRANT_UNLOCK (R117). -/
def execGrantUnlock (dt : Nat) (h : Header) (target : Nat) (s : State) : Host.Outcome State Fault Refusal :=
  .next ((s.elapse dt).receive ⟨h.src, h.sig, .grant target .unlock⟩)

/-- GRANT_LOCK (R118). -/
def execGrantLock (dt : Nat) (h : Header) (target : Nat) (s : State) : Host.Outcome State Fault Refusal :=
  .next ((s.elapse dt).receive ⟨h.src, h.sig, .grant target .lock⟩)

/-- GRANT_DISPATCH (R119). -/
def execGrantDispatch (dt : Nat) (h : Header) (target : Nat) (s : State) : Host.Outcome State Fault Refusal :=
  .next ((s.elapse dt).receive ⟨h.src, h.sig, .grant target .dispatch⟩)

/-- GRANT_PARK (R198). -/
def execGrantPark (dt : Nat) (h : Header) (target : Nat) (s : State) : Host.Outcome State Fault Refusal :=
  .next ((s.elapse dt).receive ⟨h.src, h.sig, .grant target .park⟩)

/-- GRANT_WAKE (R199, R28). -/
def execGrantWake (dt : Nat) (h : Header) (target : Nat) (s : State) : Host.Outcome State Fault Refusal :=
  .next ((s.elapse dt).receive ⟨h.src, h.sig, .grant target .wake⟩)

/-- FIX_FRAME (R22). -/
def execFixFrame (dt : Nat) (h : Header) (target entry distance : Nat) (s : State) : Host.Outcome State Fault Refusal :=
  .next ((s.elapse dt).receive ⟨h.src, h.sig, .fix target entry distance⟩)

/-- CLEAR_FRAME (R59). -/
def execClearFrame (dt : Nat) (h : Header) (target : Nat) (s : State) : Host.Outcome State Fault Refusal :=
  .next ((s.elapse dt).receive ⟨h.src, h.sig, .clear target⟩)

/-- CANDIDATE_DISCARDED: a candidate as its bytes. Bytes that fail the checks are discarded with no effect
beyond the carrier's fall (R29); bytes that spell a frame act as that frame (DESIGN CHOICE, log entry 14). -/
def execCandidateDiscarded (dt : Nat) (bytes : List Byte) (s : State) : Host.Outcome State Fault Refusal :=
  .next ((s.elapse dt).receiveBytes bytes)

/-- CARRIER_BUSY: the carrier-present line becomes busy (R35). -/
def execCarrierBusy (dt : Nat) (s : State) : Host.Outcome State Fault Refusal :=
  .next ((s.elapse dt).ifPowered fun t => t.setNi t.ni.carrierSeized)

/-- The report SENT of a CUE (R38, R139). -/
def State.reportSent (f : Waiting) (s : State) : State :=
  match cueRef (some f) with
  | some r => s.setScu (s.scu.sentReport r s.ms s.cfg.opt.cueTimeout)
  | none => s

/-- The head of the queue is sent: its bytes leave, and the carrier is busy (R26, R39). -/
def State.sendHead (f : Waiting) (rest : List Waiting) (s : State) : State :=
  (s.setNi { s.ni with
    queue := rest, sending := some (s.bytesOf f), carrierBusy := true, idleFrom := none }).reportSent f

/-- The idle time measured reaches the gap of the head's class (R34, R35), where a measurement runs. -/
def State.transmit (dt : Nat) (s : State) : State :=
  match s.ni.queue, s.ni.idleFrom with
  | f :: rest, some t => (s.elapseTo dt (t + gapOf s.cfg.opt.station s.ni.q f)).sendHead f rest
  | [], _ => s.elapse dt
  | _ :: _, none => s.elapse dt

/-- FRAME_TRANSMIT (R34). -/
def execFrameTransmit (dt : Nat) (s : State) : Host.Outcome State Fault Refusal := .next (s.transmit dt)

end Sys2Proof.Machine
end

