-- ==== Sys2Proof/Machine/CmdScenes.lean ====
section
/-! DEFINITION. The timers of the Scene and Cue Unit and the silence of the clock's reference: claim windows
(R127), the pending timer (R134), cue timeouts and late windows (R141), REFERENCE_SILENT (R150). -/

namespace Sys2Proof.Machine

/-- A claim window runs in CLAIMING alone (R127). -/
def State.windowTimer (k : SlotId) (s : State) : Timer :=
  if (s.scu.slot k).state = .claiming then (s.scu.slot k).window else none

/-- CLAIM_WINDOW_EXPIRY (R127). -/
def execClaimWindowExpiry (dt : Nat) (slot : SlotId) (s : State) : Host.Outcome State Fault Refusal :=
  .next (s.onExpiry dt (s.windowTimer slot) fun t => (t.windowExpired slot).afterSlots t.scu)

/-- The pending timer has expired: the AFTER-TIME trigger is met (R134). -/
def State.pendingDue (s : State) : State := (s.setChain { s.scu.chain with timer := none }).testChain

/-- PENDING_TIMER_EXPIRY (R134). -/
def execPendingTimerExpiry (dt : Nat) (s : State) : Host.Outcome State Fault Refusal :=
  .next (s.onExpiry dt s.scu.chain.timer State.pendingDue)

/-- The timer of the tracker record with the reference, in the given state (Table 7-5). -/
def State.trackTimer (state : CueState) (ref : Nat) (s : State) : Timer :=
  match s.scu.recordRef ref with
  | some t => if t.state = state then t.timer else none
  | none => none

/-- CUE_TIMEOUT (R141). -/
def execCueTimeout (dt : Nat) (ref : Nat) (s : State) : Host.Outcome State Fault Refusal :=
  .next (s.onExpiry dt (s.trackTimer .sent ref) (State.cueTimedOut ref))

/-- The late window of a record has expired (R141). -/
def State.lateOver (ref : Nat) (s : State) : State := (s.setScu (s.scu.freeRecord ref .other)).recordFreed

/-- LATE_WINDOW_EXPIRY (R141). -/
def execLateWindowExpiry (dt : Nat) (ref : Nat) (s : State) : Host.Outcome State Fault Refusal :=
  .next (s.onExpiry dt (s.trackTimer .timedOut ref) (State.lateOver ref))

/-- The moment at which the reference becomes silent, where there is one and the SCK acts (R150). -/
def State.silenceTimer (s : State) : Timer :=
  if s.active ∧ s.sck.reference.isSome then s.sck.lastSync.map (· + 400) else none

/-- REFERENCE_SILENT (R150). -/
def execReferenceSilent (dt : Nat) (s : State) : Host.Outcome State Fault Refusal :=
  .next (s.onExpiry dt s.silenceTimer State.selectAtSilence)

end Sys2Proof.Machine
end

