-- ==== Sys2Proof/Machine/CmdSeats.lean ====
section
/-! DEFINITION. The timers of the Restraint Monitor: the sample timer (R106, R122), the confirm timers (R108)
and the contradiction timers (R107). -/

namespace Sys2Proof.Machine

/-- The seats are sampled and the sample timer restarted (R106). -/
def State.sampled (raw : List SeatInput) (s : State) : State :=
  s.setRm { s.rm with
    seats := sampleSeats s.cfg.opt.debounce raw s.rm.seats, timer := some (s.ms + 5) }

/-- The work of a sample: the changes act on the seats, and in PARKED a change wakes the part (R106, R122,
R199). -/
def State.seatSample (raw : List SeatInput) (s : State) : State :=
  let s1 := s.sampled raw
  let changes := changedSeats s.rm.seats s1.rm.seats
  if s.parked then (if changes.isEmpty then s1 else s1.wake .restraint)
  else s1.seatChanges changes

/-- SAMPLE_TIMER_EXPIRY (R106). -/
def execSampleTimerExpiry (dt : Nat) (raw : List SeatInput) (s : State) : Host.Outcome State Fault Refusal :=
  .next (s.onExpiry dt s.rm.timer (State.seatSample raw))

/-- A seat by its number, counted from 1; there is no other (R105). -/
def State.seatTimer (pick : Seat → Timer) (seat : Nat) (s : State) : Timer :=
  if 1 ≤ seat ∧ seat ≤ 8 then pick (s.seat (seat - 1)) else none

/-- CONFIRM_TIMER_EXPIRY (R108). -/
def execConfirmTimerExpiry (dt : Nat) (seat : Nat) (s : State) : Host.Outcome State Fault Refusal :=
  .next (s.onExpiry dt (s.seatTimer Seat.confirm seat) (State.confirmed (seat - 1)))

/-- CONTRADICTION_TIMER_EXPIRY (R107). -/
def execContradictionTimerExpiry (dt : Nat) (seat : Nat) (s : State) : Host.Outcome State Fault Refusal :=
  .next (s.onExpiry dt (s.seatTimer Seat.contra seat) (State.contradicted (seat - 1)))

end Sys2Proof.Machine
end

