-- ==== Sys2Proof/Machine/Service.lean ====
section
/-! DEFINITION. The service link (R200 to R203): the data replies with their values in the order the rules list
them, and the reply lines. -/

namespace Sys2Proof.Machine

/-! ### Names and items -/

/-- A number as an item. -/
def Item.nat (n : Nat) : Item := .num n

/-- A set or clear flag. -/
def Item.flag (b : Bool) : Item := .name (if b then "set" else "clear")

/-- An optional field: ABSENT where it is absent. -/
def Item.opt (o : Option Nat) : Item :=
  match o with
  | some n => .nat n
  | none => .absent

/-- A field whose table lists none among its values. -/
def Item.orNone (o : Option Nat) : Item :=
  match o with
  | some n => .nat n
  | none => .name "none"

/-- A list: its number of items followed by its items (R200). -/
def Item.list {α : Type} (f : α → List Item) (xs : List α) : List Item := .nat xs.length :: xs.flatMap f

/-- Motion states as the manual writes them. -/
def Motion.name : Motion → String
  | .parked => "PARKED"
  | .lost => "LOST"
  | .held => "HELD"
  | .running => "RUNNING"
  | .stopping => "STOPPING"
  | .braked => "BRAKED"
  | .configFault => "CONFIG-FAULT"

/-- Vehicle restraint states as the manual writes them. -/
def Restraint.name : Restraint → String
  | .released => "RELEASED"
  | .checking => "CHECKING"
  | .secure => "SECURE"
  | .alarm => "ALARM"
  | .fault => "FAULT"

/-- Show clock states as the manual writes them. -/
def ClockState.name : ClockState → String
  | .free => "FREE"
  | .acquire => "ACQUIRE"
  | .locked => "LOCKED"
  | .holdover => "HOLDOVER"

/-- Load states as the manual writes them. -/
def LoadState.name : LoadState → String
  | .loading => "LOADING"
  | .ready => "READY"
  | .configFault => "CONFIG-FAULT"

/-- Fault codes as the manual writes them. -/
def FaultCode.name : FaultCode → String
  | .format => "FORMAT"
  | .crc => "CRC"
  | .range => "RANGE"
  | .emptyRoute => "EMPTY-ROUTE"
  | .chain => "CHAIN"
  | .reference => "REFERENCE"

/-- Section names of the image; the manual fixes no spelling (DESIGN CHOICE, log entry 33). -/
def Section.name : Section → String
  | .header => "HEADER"
  | .options => "OPTION-BLOCK"
  | .route => "ROUTE-TABLE"
  | .words => "CUE-WORDS"
  | .clips => "CLIP-DIRECTORY"
  | .fades => "FADE-TEMPLATES"
  | .sceneMap => "SCENE-MAP"

/-- Start causes as the manual writes them. -/
def StartCause.name : StartCause → String
  | .power => "POWER"
  | .pin => "PIN"
  | .wake => "WAKE"

/-- Wake reasons as the manual writes them. -/
def WakeReason.name : WakeReason → String
  | .net => "NET"
  | .restraint => "RESTRAINT"
  | .service => "SERVICE"

/-- Local stop causes as the manual writes them. -/
def Cause.name : Cause → String
  | .restraint => "RESTRAINT"
  | .position => "POSITION"
  | .overrun => "OVERRUN"
  | .guide => "GUIDE"
  | .sceneConflict => "SCENE-CONFLICT"
  | .sceneOverflow => "SCENE-OVERFLOW"
  | .netSilent => "NET-SILENT"
  | .foreign => "FOREIGN"
  | .service => "SERVICE"

/-- A stop cause: a local cause, a STOP cause code or PEER-LEVEL (Table 10-3). -/
def StopCause.item : StopCause → Item
  | .local_ c => .name c.name
  | .code n => .nat n
  | .peerLevel => .name "PEER-LEVEL"

/-- Guide states as the manual writes them. -/
def GuideState.name : GuideState → String
  | .onWire => "ON-WIRE"
  | .offWire => "OFF-WIRE"
  | .unguided => "UNGUIDED"

/-- Seat states as the manual writes them. -/
def SeatState.name : SeatState → String
  | .notFitted => "NOT-FITTED"
  | .opened => "OPEN"
  | .closing => "CLOSING"
  | .locked => "LOCKED"
  | .fault => "FAULT"

/-- Slot states as the manual writes them. -/
def SlotState.name : SlotState → String
  | .free => "FREE"
  | .claiming => "CLAIMING"
  | .waiting => "WAITING"
  | .held => "HELD"

/-- Waiting reasons as the manual writes them. -/
def WaitReason.name : WaitReason → String
  | .trigger => "TRIGGER"
  | .stopped => "STOPPED"
  | .trackerFull => "TRACKER-FULL"

/-- Watched outcomes as the manual writes them. -/
def WatchedOutcome.name : WatchedOutcome → String
  | .none => "NONE"
  | .pending => "PENDING"
  | .done => "DONE"
  | .other => "OTHER"

/-- Chain ends as the manual writes them. -/
def ChainEnd.name : ChainEnd → String
  | .none => "NONE"
  | .complete => "COMPLETE"
  | .abandoned => "ABANDONED"
  | .broken => "CHAIN-BROKEN"

/-- Tracker states as the manual writes them. -/
def CueState.name : CueState → String
  | .queued => "QUEUED"
  | .sent => "SENT"
  | .timedOut => "TIMED-OUT"

/-- Voice states as the manual writes them. -/
def VoiceState.name : VoiceState → String
  | .idle => "IDLE"
  | .waiting => "WAITING"
  | .playing => "PLAYING"
  | .fading => "FADING"

/-- Request origins as the manual writes them. -/
def Origin.name : Origin → String
  | .route => "ROUTE"
  | .cue => "CUE"
  | .restraint => "RESTRAINT"
  | .stop => "STOP"
  | .service => "SERVICE"

/-- Output masks as Table 1-1 writes them. -/
def Mask.name : Mask → String
  | .front => "front"
  | .rear => "rear"
  | .both => "both"

/-- Refill states as Table 9-1 writes them. -/
def Refill.name : Refill → String
  | .none => "none"
  | .requested => "REQUESTED"
  | .inTransfer => "IN-TRANSFER"

/-- Limit sources as Table 4-1 writes them. -/
def LimitSource.items : LimitSource → List Item
  | .peer => [.name "PEER"]
  | .target n => [.name "TARGET", .nat n]
  | .cap => [.name "CAP"]
  | .vmax => [.name "VMAX"]
  | .profile => [.name "PROFILE"]
  | .forced => [.name "FORCED"]

/-- Freshness (Table 3-1). -/
def freshness (stale : Bool) : Item := .name (if stale then "STALE" else "FRESH")

/-- A contact's debounced value (Table 6-1). -/
def contact (engaged : Bool) : Item := .name (if engaged then "engaged" else "disengaged")

/-- A signed optional field. -/
def Item.optInt : Option Int → Item
  | some n => .num n
  | none => .absent

/-- A name whose table lists none among its values. -/
def Item.nameOrNone : Option String → Item
  | some n => .name n
  | none => .name "none"

/-- Target kinds (Table 4-1). -/
def TargetKind.name : TargetKind → String
  | .entryStart => "ENTRY-START"
  | .holdEnd => "HOLD-END"

/-- Guide-loss modes (Table 1-1). -/
def lossModeName : LossMode → String
  | .hold => "HOLD"
  | .center => "CENTER"

/-- Clock modes (Table 11-2). -/
def clockModeName : ClockMode → String
  | .holdover => "HOLDOVER"
  | .center => "CENTER"

/-- Slot orders (Table 7-1). -/
def SlotOrder.name : SlotOrder → String
  | .first => "FIRST"
  | .second => "SECOND"

/-- The start of a play request. -/
def startItem : Option Nat → Item
  | none => .name "IMMEDIATE"
  | some t => .nat t

/-- An output or a cause, active or inactive. -/
def activity (on : Bool) : Item := .name (if on then "active" else "inactive")

/-! ### STATUS (R201, R82, R104, R190) -/

/-- A value of the configuration, absent during LOADING and in CONFIG-FAULT (R201). -/
def State.whenReady (x : Item) (s : State) : Item := if s.cfs.load = .ready then x else Item.absent

/-- The fault item: its section and, within a section of records, its index. -/
def faultItems : Option FaultItem → List Item
  | none => [Item.name "none"]
  | some i => [Item.name i.where_.name, Item.opt i.index]

/-- The CFS's part of the status block. -/
def State.cfsItems (s : State) : List Item :=
  [Item.name s.cfs.load.name,
    Item.nameOrNone (s.cfs.faultCode.map FaultCode.name)]
  ++ faultItems s.cfs.faultItem
  ++ [Item.name s.cfs.startCause.name,
    Item.nameOrNone (s.cfs.wakeReason.map WakeReason.name),
    s.whenReady (Item.nat s.cfg.opt.station),
    s.whenReady (Item.nat s.cfg.opt.vehicleClass),
    s.whenReady (Item.nat s.cfg.opt.signature)]

/-- A look-ahead target. -/
def Target.items (t : Target) : List Item :=
  [Item.name t.kind.name, Item.nat t.entry, Item.nat t.distance, Item.nat t.speed, Item.nat t.curve]

/-- The nearest ahead with its distance, gap, peer target speed and freshness. -/
def aheadItems : Option Ahead → List Item
  | none => [Item.name "none", Item.absent, Item.absent, Item.absent, Item.absent]
  | some a => [Item.nat a.station, Item.nat a.distance, Item.nat a.gap, Item.nat a.speed, freshness a.stale]

/-- The SAU's part of the status block (R82). -/
def State.sauItems (s : State) : List Item :=
  [Item.nat s.sau.authority] ++ s.sau.source.items ++ [Item.orNone s.sau.curve] ++ aheadItems s.sau.ahead
    ++ Item.list Target.items s.sau.targets

/-- A guide channel. -/
def channelItem : Option Nat → Item
  | some c => Item.nat c
  | none => Item.name "NONE"

/-- The coil amplitudes last sampled, where the channel is not NONE. -/
def Dsc.coilItems (d : Dsc) : List Item :=
  match d.channel, d.coils with
  | some _, some c => [Item.nat c.left, Item.nat c.right]
  | _, _ => [Item.absent, Item.absent]

/-- The DSC's part of the status block (R104). -/
def State.dscItems (s : State) : List Item :=
  let d := s.dsc
  [Item.name (Motion.name d.motion), Item.nat d.command, Item.nat d.speed,
    Item.name (if d.brakeReleased then "released" else "applied"), Item.num d.steeringSetPoint,
    channelItem d.channel, Item.nat d.gain,
    Item.name (lossModeName d.lossMode),
    Item.num d.feedforward, Item.name d.guide.name]
  ++ d.coilItems
  ++ [Item.optInt d.offset, Item.nat (d.loss / 1000)]

/-- The STC's part of the status block (R190). -/
def State.stcItems (s : State) : List Item :=
  [Item.nat s.stc.latch]
  ++ (match s.stc.first with
    | some f => [f.cause.item, Item.nat f.origin]
    | none => [Item.name "none", Item.absent])
  ++ [Item.nat s.stc.asserted]
  ++ Item.list (fun c => [Item.name c.name]) s.stc.causes

/-- The status block (R201). -/
def State.statusItems (s : State) : List Item := s.cfsItems ++ s.sauItems ++ s.dscItems ++ s.stcItems

/-! ### READ-ROUTE (R23) -/

/-- What READ-ROUTE returns. -/
def State.routeItems (s : State) : List Item :=
  [Item.name (if s.rsq.known then "KNOWN" else "LOST"), Item.nat s.rsq.entry, Item.nat s.distanceMm,
    Item.flag s.rsq.released, Item.flag s.rsq.atEnd, Item.opt (s.toGo s.rsq.dwell), Item.orNone s.rsq.lastMarker,
    Item.orNone s.rsq.chainStart, Item.opt s.ordinate]

/-! ### READ-PEERS (R62) -/

/-- The pin flags of a record, those that stand, by their names (DESIGN CHOICE, log entry 29). -/
def Peer.pins (p : Peer) : List String :=
  (if p.pinAhead then ["AHEAD"] else []) ++ (if p.pin1 then ["SLOT-1"] else [])
    ++ (if p.pin2 then ["SLOT-2"] else [])

/-- A list of scenes. -/
def sceneItems (xs : List Nat) : List Item := Item.list (fun x => [Item.nat x]) xs

/-- The vehicle data of a record. -/
def dataItems : Option VehicleData → List Item
  | none => [Item.absent]
  | some d =>
    [Item.opt d.ordinate, Item.nat d.lane, Item.nat d.entry, Item.nat d.speed, Item.name (Motion.name d.motion),
      Item.name (Restraint.name d.restraint), Item.nat d.level]
    ++ sceneItems d.held ++ [Item.orNone d.claiming]

/-- A peer record, its times as ages in ms (Table 3-1). DESIGN CHOICE (log entry 29): the pin flags are written as a
list of the names of those that stand, AHEAD, SLOT-1 and SLOT-2, after their number. -/
def State.peerItems (s : State) (p : Peer) : List Item :=
  [Item.nat p.station, Item.name (if p.isVehicle then "VEHICLE" else "FIXED"), Item.flag p.foreign,
    Item.nat (s.ms - p.lastHeard), freshness p.stale]
  ++ Item.list (fun n => [Item.name n]) p.pins
  ++ [Item.opt (p.lastSync.map (s.ms - ·))]
  ++ dataItems p.data

/-- What READ-PEERS returns. -/
def State.peersItems (s : State) : List Item := Item.list s.peerItems s.ptb

/-! ### READ-SEATS (R122) -/

/-- A seat record. -/
def State.seatItems (s : State) (k : Seat) : List Item :=
  [Item.name k.state.name, contact k.lk, contact k.bd, Item.opt (s.toGo k.confirm), Item.opt (s.toGo k.contra)]

/-- What READ-SEATS returns. -/
def State.seatsItems (s : State) : List Item :=
  s.rm.seats.flatMap s.seatItems
    ++ [Item.name (Restraint.name s.rm.vehicle), activity s.rm.release, activity (s.stc.causes.contains .restraint)]

/-! ### READ-SCENES (R145) -/

/-- A slot record. -/
def State.slotItems (s : State) (k : Slot) : List Item :=
  [Item.orNone k.scene, Item.name k.state.name, Item.opt (s.toGo k.window), Item.orNone k.blocking,
    Item.nameOrNone (k.order.map SlotOrder.name)]

/-- The chain state. -/
def State.chainItems (s : State) : List Item :=
  let c := s.scu.chain
  [Item.name (if c.running then "RUNNING" else "NONE"), Item.orNone c.pending, Item.name c.reason.name, Item.nat c.distance,
    Item.opt (s.toGo c.timer), Item.orNone c.watched, Item.name c.outcome.name, Item.name c.lastEnd.name]

/-- A sound link. -/
def linkItems : Option SoundLink → List Item
  | none => [Item.absent]
  | some l => [Item.nat l.clip, Item.nat l.voice, Item.nat l.gain]

/-- A tracker record (Table 7-5). -/
def State.trackItems (s : State) (t : Track) : List Item :=
  [Item.nat t.ref, Item.nat t.scene, Item.nat t.cue, Item.name t.state.name, Item.nat t.queuedAt, Item.opt t.sentAt,
    Item.flag t.suppressLate]
  ++ linkItems t.link ++ [Item.opt (s.toGo t.timer)]

/-- The ten counters in the order of R143. -/
def Counters.items (c : Counters) : List Item :=
  [Item.nat c.done, Item.nat c.busy, Item.nat c.refused, Item.nat c.fault, Item.nat c.timedOut, Item.nat c.late, Item.nat c.dropped,
    Item.nat c.superseded, Item.nat c.notHeld, Item.nat c.abandoned]

/-- What READ-SCENES returns. -/
def State.scenesItems (s : State) : List Item :=
  s.slotItems s.scu.slot1 ++ s.slotItems s.scu.slot2 ++ s.chainItems
    ++ Item.list s.trackItems s.scu.tracker ++ s.scu.counters.items

/-! ### READ-VOICES (R180) -/

/-- A play request. -/
def PlayRequest.items (r : PlayRequest) : List Item :=
  [Item.nat r.clip, startItem r.start, Item.nat r.gain, Item.nat r.loops, Item.nat r.fade, Item.name (Mask.name r.mask), Item.name r.origin.name]

/-- A fade. -/
def fadeItems : Option Fade → List Item
  | none => [Item.name "none"]
  | some f => [Item.name (if f.out then "OUT" else "IN"), Item.nat f.segment, Item.nat f.into]

/-- A voice record, its buffer as the number of samples held. -/
def Voice.items (v : Voice) : List Item :=
  [Item.name v.state.name]
  ++ (match v.current with
    | none => [Item.name "none"]
    | some r => r.items)
  ++ Item.list PlayRequest.items v.queue
  ++ [Item.nat v.position, Item.nat v.loops] ++ fadeItems v.fade
  ++ [Item.nat v.buffer.length, Item.flag v.primed, Item.name v.refill.name, Item.nat v.underruns, Item.nat v.refusals]

/-- What READ-VOICES returns. -/
def State.voicesItems (s : State) : List Item :=
  s.spe.v0.items ++ s.spe.v1.items ++ s.spe.v2.items ++ s.spe.v3.items
    ++ [Item.nat s.spe.lastServed, Item.name (if s.spe.ducking then "yes" else "no")]

/-! ### READ-CLOCK (R160) -/

/-- What READ-CLOCK returns. -/
def State.clockItems (s : State) : List Item :=
  let k := s.sck
  [Item.nat s.showTime, Item.num k.trim, Item.name (ClockState.name k.state),
    s.whenReady (Item.name (clockModeName s.cfg.opt.clockMode)),
    Item.orNone k.reference, Item.orNone k.priority, Item.orNone (k.lastSync.map (s.ms - ·)), Item.flag k.awaited,
    Item.nat k.inCount, Item.nat k.outCount,
    Item.optInt k.lastError,
    Item.orNone k.lastScene, Item.orNone (s.candidate1 none), Item.orNone (s.candidate2 none)]

/-! ### READ-INCIDENTS (R190) -/

/-- An incident record (Table 10-3). -/
def Incident.items (i : Incident) : List Item :=
  [Item.nat i.seq, i.cause.item, Item.nat i.level, Item.nat i.origin, Item.nat i.time, Item.opt i.ordinate, Item.nat i.speed,
    Item.name (Restraint.name i.restraint), Item.opt i.gap]
  ++ sceneItems i.held

/-- What READ-INCIDENTS returns. -/
def State.incidentItems (s : State) : List Item :=
  Item.list Incident.items s.stc.incidents ++ [Item.nat s.stc.nextSeq]

/-! ### Reply lines (R200) -/

/-- A reason as the manual writes it. -/
def RefuseReason.name : RefuseReason → String
  | .busy => "BUSY"
  | .state => "STATE"
  | .range => "RANGE"

/-- An item as it stands in a reply line (R200). -/
def Item.text : Item → String
  | .num n => toString n
  | .name s => s
  | .absent => "ABSENT"

/-- A reply as the line that is sent, ended by a carriage return (R200). -/
def Reply.line : Reply → String
  | .ok => "OK\r"
  | .refused r => "REFUSED " ++ r.name ++ "\r"
  | .data items => String.intercalate " " (items.map Item.text) ++ "\r"

/-! ### The parser -/

/-- A command is received complete: discarded while the parser is REPLYING, acted on otherwise, its reply then
begun (R200). Without the supply nothing is received. -/
def State.serve (act : State → State × Reply) (s : State) : State :=
  if s.powered && s.cfs.reply.isNone then
    let r := act s
    r.1.setCfs { r.1.cfs with reply := some r.2 }
  else s

/-- A read command: nothing changes (R201). -/
def reading (items : State → List Item) (s : State) : State × Reply := (s, .data (items s))

/-- CLEAR-INCIDENTS (R190, R201). -/
def clearIncidentList (s : State) : State × Reply := (s.setStc { s.stc with incidents := [] }, .ok)

/-- A parked part wakes for a command of the service link (R199). -/
def State.awake (s : State) : State := if s.parked then s.wake .service else s

/-- SERVICE-STOP on and off (R202). -/
def serviceStop (on : Bool) (s : State) : State × Reply :=
  if s.cfs.load ≠ .ready then (s, .refused .state)
  else (if on then s.awake.raise .service else s.awake.withdraw .service, .ok)

/-- The PARK command (R202). -/
def parkCommand (s : State) : State × Reply :=
  if s.parkAccepted then (s.parkAll, .ok) else (s, .refused .state)

/-- The RESTART command: the start follows the reply (R203). -/
def restartCommand (s : State) : State × Reply :=
  if s.dsc.motion = .running ∨ s.dsc.motion = .stopping then (s, .refused .busy)
  else (s.setCfs { s.cfs with restarting := true }, .ok)

/-- The request of a TEST-CLIP (R203). -/
def testRequest (clip : Nat) : PlayRequest := ⟨clip, none, 256, 0, 0, .both, .service⟩

/-- The TEST-CLIP command (R203). DEDUCED (log entry 51): in PARKED an accepted one wakes the part, a refused one does
not. -/
def testClipCommand (clip : Nat) (s : State) : State × Reply :=
  if s.cfs.load ≠ .ready ∨ (s.dsc.motion ≠ .held ∧ s.dsc.motion ≠ .lost ∧ s.dsc.motion ≠ .parked) then
    (s, .refused .state)
  else if clip = 0 ∨ s.cfg.clips.length < clip then (s, .refused .range)
  else (s.awake.play 0 (testRequest clip), .ok)

/-- What a command of the service link does (R201 to R203). -/
def ServiceCommand.act : ServiceCommand → State → State × Reply
  | .status => reading State.statusItems
  | .readRoute => reading State.routeItems
  | .readPeers => reading State.peersItems
  | .readSeats => reading State.seatsItems
  | .readScenes => reading State.scenesItems
  | .readVoices => reading State.voicesItems
  | .readClock => reading State.clockItems
  | .readIncidents => reading State.incidentItems
  | .clearIncidents => clearIncidentList
  | .stopOn => serviceStop true
  | .stopOff => serviceStop false
  | .park => parkCommand
  | .restart => restartCommand
  | .testClip clip => testClipCommand clip

/-- What a line does: a line that names no known command is refused with RANGE (R200). -/
def actLine (line : String) (s : State) : State × Reply :=
  match parseLine line with
  | some c => c.act s
  | none => (s, .refused .range)

/-- The reply has been sent: the parser is IDLE again, and after a RESTART the part makes its start (R200,
R203). -/
def State.replySent (s : State) : State :=
  if s.powered && s.cfs.reply.isSome then
    if s.cfs.restarting then s.pinStart else s.setCfs { s.cfs with reply := none }
  else s

end Sys2Proof.Machine
end

