-- ==== Sys2Proof/Machine/CmdService.lean ====
section
/-! DEFINITION. The commands of the service link (R200 to R203). -/

namespace Sys2Proof.Machine

/-- STATUS (R201, R82, R104, R190). -/
def execStatus (dt : Nat) (s : State) : Host.Outcome State Fault Refusal :=
  .next ((s.elapse dt).serve (reading State.statusItems))

/-- READ_ROUTE (R201, R23). -/
def execReadRoute (dt : Nat) (s : State) : Host.Outcome State Fault Refusal :=
  .next ((s.elapse dt).serve (reading State.routeItems))

/-- READ_PEERS (R201, R62). -/
def execReadPeers (dt : Nat) (s : State) : Host.Outcome State Fault Refusal :=
  .next ((s.elapse dt).serve (reading State.peersItems))

/-- READ_SEATS (R201, R122). -/
def execReadSeats (dt : Nat) (s : State) : Host.Outcome State Fault Refusal :=
  .next ((s.elapse dt).serve (reading State.seatsItems))

/-- READ_SCENES (R201, R145). -/
def execReadScenes (dt : Nat) (s : State) : Host.Outcome State Fault Refusal :=
  .next ((s.elapse dt).serve (reading State.scenesItems))

/-- READ_VOICES (R201, R180). -/
def execReadVoices (dt : Nat) (s : State) : Host.Outcome State Fault Refusal :=
  .next ((s.elapse dt).serve (reading State.voicesItems))

/-- READ_CLOCK (R201, R160). -/
def execReadClock (dt : Nat) (s : State) : Host.Outcome State Fault Refusal :=
  .next ((s.elapse dt).serve (reading State.clockItems))

/-- READ_INCIDENTS (R201, R190). -/
def execReadIncidents (dt : Nat) (s : State) : Host.Outcome State Fault Refusal :=
  .next ((s.elapse dt).serve (reading State.incidentItems))

/-- CLEAR_INCIDENTS (R201, R190). -/
def execClearIncidents (dt : Nat) (s : State) : Host.Outcome State Fault Refusal :=
  .next ((s.elapse dt).serve clearIncidentList)

/-- SERVICE_STOP_ON (R202). -/
def execServiceStopOn (dt : Nat) (s : State) : Host.Outcome State Fault Refusal :=
  .next ((s.elapse dt).serve (serviceStop true))

/-- SERVICE_STOP_OFF (R202). -/
def execServiceStopOff (dt : Nat) (s : State) : Host.Outcome State Fault Refusal :=
  .next ((s.elapse dt).serve (serviceStop false))

/-- PARK (R202, R198). -/
def execPark (dt : Nat) (s : State) : Host.Outcome State Fault Refusal :=
  .next ((s.elapse dt).serve parkCommand)

/-- RESTART (R203). -/
def execRestart (dt : Nat) (s : State) : Host.Outcome State Fault Refusal :=
  .next ((s.elapse dt).serve restartCommand)

/-- TEST_CLIP (R203). -/
def execTestClip (dt : Nat) (clip : Nat) (s : State) : Host.Outcome State Fault Refusal :=
  .next ((s.elapse dt).serve (testClipCommand clip))

/-- UNKNOWN_COMMAND: a line as it was received. A line that names no known command is refused with RANGE
(R200); a line that names one acts as that command (DESIGN CHOICE, log entry 14). -/
def execUnknownCommand (dt : Nat) (line : String) (s : State) : Host.Outcome State Fault Refusal :=
  .next ((s.elapse dt).serve (actLine line))

/-- SERVICE_REPLY_SENT (R200, R203). -/
def execServiceReplySent (dt : Nat) (s : State) : Host.Outcome State Fault Refusal :=
  .next (s.elapse dt).replySent

end Sys2Proof.Machine
end

