-- ==== Sys2Proof/Machine/CmdSound.lean ====
section
/-! DEFINITION. The commands of the Sound Playback Engine: SAMPLE_PERIOD (R168) and TRANSFER_COMPLETION
(R175). -/

namespace Sys2Proof.Machine

/-- A sample period; the outputs are muted while the part is not active (R161). -/
def State.soundPeriod (s : State) : State :=
  if s.active then s.setSpe (s.spe.samplePeriod s.cfg s.showTime)
  else s.setSpe { s.spe with front := 0, rear := 0 }

/-- SAMPLE_PERIOD (R168). -/
def execSamplePeriod (dt : Nat) (s : State) : Host.Outcome State Fault Refusal :=
  .next (s.elapse dt).soundPeriod

/-- TRANSFER_COMPLETION (R175, R176). -/
def execTransferCompletion (dt : Nat) (samples : List Int) (s : State) : Host.Outcome State Fault Refusal :=
  .next ((s.elapse dt).ifPowered fun t => t.setSpe (t.spe.complete t.cfg samples))

end Sys2Proof.Machine
end

