-- ==== Sys2Proof/Machine/Dispatch.lean ====
section
/-! DEFINITION. The dispatch of commands: one arm per constructor, each a direct call of its meaning. -/

namespace Sys2Proof.Machine

/-- What a command does to everything but the queue of commands. -/
def exec (i : Instr) (s : State) : Host.Outcome State Fault Refusal :=
  match i with
  | .powerOn dt => Sys2Proof.Machine.execPowerOn dt s
  | .resetInput dt => Sys2Proof.Machine.execResetInput dt s
  | .loadEnd dt memory => Sys2Proof.Machine.execLoadEnd dt memory s
  | .candidateDiscarded dt bytes => Sys2Proof.Machine.execCandidateDiscarded dt bytes s
  | .posFrame dt h b => Sys2Proof.Machine.execPosFrame dt h b s
  | .stopFrame dt h level code => Sys2Proof.Machine.execStopFrame dt h level code s
  | .resumeFrame dt h => Sys2Proof.Machine.execResumeFrame dt h s
  | .claimFrame dt h scene => Sys2Proof.Machine.execClaimFrame dt h scene s
  | .freeFrame dt h scene => Sys2Proof.Machine.execFreeFrame dt h scene s
  | .cueFrame dt h b => Sys2Proof.Machine.execCueFrame dt h b s
  | .cuestFrame dt h b => Sys2Proof.Machine.execCuestFrame dt h b s
  | .syncFrame dt h time scene => Sys2Proof.Machine.execSyncFrame dt h time scene s
  | .grantUnlock dt h target => Sys2Proof.Machine.execGrantUnlock dt h target s
  | .grantLock dt h target => Sys2Proof.Machine.execGrantLock dt h target s
  | .grantDispatch dt h target => Sys2Proof.Machine.execGrantDispatch dt h target s
  | .grantPark dt h target => Sys2Proof.Machine.execGrantPark dt h target s
  | .grantWake dt h target => Sys2Proof.Machine.execGrantWake dt h target s
  | .fixFrame dt h target entry distance => Sys2Proof.Machine.execFixFrame dt h target entry distance s
  | .clearFrame dt h target => Sys2Proof.Machine.execClearFrame dt h target s
  | .carrierBusy dt => Sys2Proof.Machine.execCarrierBusy dt s
  | .frameTransmit dt => Sys2Proof.Machine.execFrameTransmit dt s
  | .posPeriodTimerExpiry dt => Sys2Proof.Machine.execPosPeriodTimerExpiry dt s
  | .netSilenceTimerExpiry dt => Sys2Proof.Machine.execNetSilenceTimerExpiry dt s
  | .staleTime dt station => Sys2Proof.Machine.execStaleTime dt station s
  | .dropTime dt station => Sys2Proof.Machine.execDropTime dt station s
  | .odometerPulse dt => Sys2Proof.Machine.execOdometerPulse dt s
  | .markerRead dt id => Sys2Proof.Machine.execMarkerRead dt id s
  | .dwellTimerExpiry dt => Sys2Proof.Machine.execDwellTimerExpiry dt s
  | .controlPeriodExpiry dt coils => Sys2Proof.Machine.execControlPeriodExpiry dt coils s
  | .sampleTimerExpiry dt raw => Sys2Proof.Machine.execSampleTimerExpiry dt raw s
  | .confirmTimerExpiry dt seat => Sys2Proof.Machine.execConfirmTimerExpiry dt seat s
  | .contradictionTimerExpiry dt seat => Sys2Proof.Machine.execContradictionTimerExpiry dt seat s
  | .claimWindowExpiry dt slot => Sys2Proof.Machine.execClaimWindowExpiry dt slot s
  | .pendingTimerExpiry dt => Sys2Proof.Machine.execPendingTimerExpiry dt s
  | .cueTimeout dt ref => Sys2Proof.Machine.execCueTimeout dt ref s
  | .lateWindowExpiry dt ref => Sys2Proof.Machine.execLateWindowExpiry dt ref s
  | .referenceSilent dt => Sys2Proof.Machine.execReferenceSilent dt s
  | .samplePeriod dt => Sys2Proof.Machine.execSamplePeriod dt s
  | .transferCompletion dt samples => Sys2Proof.Machine.execTransferCompletion dt samples s
  | .status dt => Sys2Proof.Machine.execStatus dt s
  | .readRoute dt => Sys2Proof.Machine.execReadRoute dt s
  | .readPeers dt => Sys2Proof.Machine.execReadPeers dt s
  | .readSeats dt => Sys2Proof.Machine.execReadSeats dt s
  | .readScenes dt => Sys2Proof.Machine.execReadScenes dt s
  | .readVoices dt => Sys2Proof.Machine.execReadVoices dt s
  | .readClock dt => Sys2Proof.Machine.execReadClock dt s
  | .readIncidents dt => Sys2Proof.Machine.execReadIncidents dt s
  | .clearIncidents dt => Sys2Proof.Machine.execClearIncidents dt s
  | .serviceStopOn dt => Sys2Proof.Machine.execServiceStopOn dt s
  | .serviceStopOff dt => Sys2Proof.Machine.execServiceStopOff dt s
  | .park dt => Sys2Proof.Machine.execPark dt s
  | .restart dt => Sys2Proof.Machine.execRestart dt s
  | .testClip dt clip => Sys2Proof.Machine.execTestClip dt clip s
  | .unknownCommand dt line => Sys2Proof.Machine.execUnknownCommand dt line s
  | .serviceReplySent dt => Sys2Proof.Machine.execServiceReplySent dt s
  | .powerLoss dt => Sys2Proof.Machine.execPowerLoss dt s

end Sys2Proof.Machine
end

