-- ==== Sys2Proof/Safety.lean ====
section
/-! DEFINITION. What a safe state is, in the terms the statements use: the invariants that every step keeps, each
from the rules it names. -/

namespace Sys2Proof

/-- The entry that the `k`-th advance after entry `i` leads to (R3, R69). -/
def Configuration.successorAt (c : Configuration) (i : Nat) : Nat → Nat
  | 0 => i
  | k + 1 => c.successor (c.successorAt i k)

/-- The accumulated distance at the start of the successor after the `k`-th, where the first begins `r` mm ahead (R69). -/
def Configuration.startAhead (c : Configuration) (i r : Nat) : Nat → Nat
  | 0 => r
  | k + 1 => c.startAhead i r k + (c.entry (c.successorAt i (k + 1))).length

/-- Word `i` is its chain's last, or an AFTER-TIME word of more than 0 ms follows it (R133, R134). -/
def Configuration.LastOrTimed (c : Configuration) (i : Nat) : Prop :=
  c.nextWord i = none ∨ ∃ j ms, c.nextWord i = some j ∧ (c.word j).trigger = .afterTime ms ∧ 0 < ms

end Sys2Proof

namespace Sys2Proof.Machine

/-- The brake line is released in RUNNING and STOPPING alone, the speed command is 0 in every other motion
state, and it never exceeds the authority (R93, R95, R96). -/
def State.DriveSafe (s : State) : Prop :=
  (s.dsc.brakeReleased = true ↔ s.dsc.motion = .running ∨ s.dsc.motion = .stopping)
    ∧ (s.dsc.brakeReleased = false → s.dsc.command = 0)
    ∧ s.dsc.command ≤ s.sau.authority

/-- An authority above 0 is offered only while the part acts, the position is KNOWN, the restraints are SECURE
and the latch is not 2 (R74). -/
def State.AuthoritySafe (s : State) : Prop :=
  0 < s.sau.authority →
    s.active = true ∧ s.rsq.known = true ∧ s.rm.vehicle = .secure ∧ s.stc.latch ≠ 2

/-- While the part acts, the motion state is LOST exactly while the position is LOST (R91, R85, R4). -/
def State.PositionAgrees (s : State) : Prop :=
  s.active = true → (s.dsc.motion = .lost ↔ s.rsq.known = false)

/-- The release output is active exactly in RELEASED, at rest in HELD or BRAKED, at a platform entry, while the part
acts (R120). -/
def State.ReleaseSafe (s : State) : Prop :=
  s.rm.release = true ↔
    s.active = true ∧ s.rm.vehicle = .released ∧ (s.dsc.motion = .held ∨ s.dsc.motion = .braked)
      ∧ s.dsc.speed = 0 ∧ s.entry.platform.isSome = true

/-- Every active cause stands once, the asserted level does not exceed the latch, the latch is at most 2, and the
ring holds at most 16 records (R181, R183, R188). -/
def State.StopsSound (s : State) : Prop :=
  s.stc.causes.Nodup ∧ s.stc.asserted ≤ s.stc.latch ∧ s.stc.latch ≤ 2 ∧ s.stc.incidents.length ≤ 16

/-- At most 24 records, one for each station (R45). -/
def State.PeersSound (s : State) : Prop :=
  s.ptb.length ≤ 24 ∧ (s.ptb.map Peer.station).Nodup

/-- The transmit queue holds at most 6 frames, S before C before P, and at most one POS (R36). -/
def State.QueueSound (s : State) : Prop :=
  s.ni.queue.length ≤ 6 ∧ (s.ni.queue.map Waiting.rank).Pairwise (· ≤ ·)
    ∧ (s.ni.queue.filter Waiting.isPos).length ≤ 1

/-- A FREE slot holds no scene and a slot in any other state holds one; the two slots never hold the same scene
(R123). -/
def State.SlotsSound (s : State) : Prop :=
  (s.scu.slot1.state = .free ↔ s.scu.slot1.scene = none)
    ∧ (s.scu.slot2.state = .free ↔ s.scu.slot2.scene = none)
    ∧ (s.scu.slot1.scene = s.scu.slot2.scene → s.scu.slot1.scene = none)

/-- The cue tracker holds at most 8 records, one for each pair of scene and cue number (R138). -/
def State.TrackerSound (s : State) : Prop :=
  s.scu.tracker.length ≤ 8 ∧ (s.scu.tracker.map fun t => (t.scene, t.cue)).Nodup

/-- No play queue holds more than 4 requests (R163). -/
def State.VoicesSound (s : State) : Prop :=
  s.spe.v0.queue.length ≤ 4 ∧ s.spe.v1.queue.length ≤ 4 ∧ s.spe.v2.queue.length ≤ 4
    ∧ s.spe.v3.queue.length ≤ 4

/-- Every parameter of the option block lies in its range of Table 11-2. -/
def OptionsSound (o : Options) : Prop :=
  (1 ≤ o.station ∧ o.station ≤ 47) ∧ o.vehicleClass ≤ 7 ∧ (1 ≤ o.signature ∧ o.signature ≤ 65535)
    ∧ (10000 ≤ o.routeLength ∧ o.routeLength ≤ 999999) ∧ (1000 ≤ o.vehicleLength ∧ o.vehicleLength ≤ 6000)
    ∧ (200 ≤ o.margin ∧ o.margin ≤ 5000) ∧ (100 ≤ o.serviceDecel ∧ o.serviceDecel ≤ 2000)
    ∧ (100 ≤ o.accelLimit ∧ o.accelLimit ≤ 1500) ∧ o.reaction ≤ 500 ∧ (100 ≤ o.vmax ∧ o.vmax ≤ 2000)
    ∧ (2000 ≤ o.lookAhead ∧ o.lookAhead ≤ 60000) ∧ (2000 ≤ o.horizon ∧ o.horizon ≤ 60000)
    ∧ (20 ≤ o.posPeriod ∧ o.posPeriod ≤ 200) ∧ (100 ≤ o.staleTime ∧ o.staleTime ≤ 1000)
    ∧ (1000 ≤ o.dropTime ∧ o.dropTime ≤ 10000) ∧ (200 ≤ o.netSilence ∧ o.netSilence ≤ 5000)
    ∧ (100 ≤ o.claimWindow ∧ o.claimWindow ≤ 1000) ∧ (50 ≤ o.cueTimeout ∧ o.cueTimeout ≤ 1000)
    ∧ o.lateWindow ≤ 5000 ∧ (1 ≤ o.seatCount ∧ o.seatCount ≤ 8) ∧ (5 ≤ o.debounce ∧ o.debounce ≤ 100)
    ∧ (100 ≤ o.confirmTime ∧ o.confirmTime ≤ 2000) ∧ (20 ≤ o.contraTime ∧ o.contraTime ≤ 1000)
    ∧ (100 ≤ o.odometer ∧ o.odometer ≤ 20000) ∧ (20 ≤ o.guideSpan ∧ o.guideSpan ≤ 500)
    ∧ (16 ≤ o.guideFloor ∧ o.guideFloor ≤ 4095) ∧ o.guideLoss ≤ 5000 ∧ (100 ≤ o.steerMax ∧ o.steerMax ≤ 3500)
    ∧ (1 ≤ o.steerRate ∧ o.steerRate ≤ 200) ∧ o.syncLatency ≤ 5000 ∧ (5 ≤ o.lockWindow ∧ o.lockWindow ≤ 500)
    ∧ (100 ≤ o.stepThreshold ∧ o.stepThreshold ≤ 10000) ∧ o.soundLate ≤ 2000 ∧ o.duckLevel ≤ 256
    ∧ (1 ≤ o.restraintClip ∧ o.restraintClip ≤ 192) ∧ o.stopClip ≤ 192

/-- Every field of a route entry lies in its range of Table 1-1, on a loop of the given length. -/
def EntrySound (routeLength : Nat) (e : RouteEntry) : Prop :=
  e.start < routeLength ∧ (100 ≤ e.length ∧ e.length ≤ 65535) ∧ e.lane ≤ 3 ∧ (50 ≤ e.cap ∧ e.cap ≤ 2000)
    ∧ (-3500 ≤ e.feedforward ∧ e.feedforward ≤ 3500) ∧ (∀ c, e.channel = some c → c ≤ 3) ∧ e.gain ≤ 255
    ∧ (∀ x, e.hold = .scene x → 1 ≤ x ∧ x ≤ 63) ∧ (∀ t, e.hold = .dwell t → t ≤ 65535)
    ∧ (∀ p, e.platform = some p → 48 ≤ p ∧ p ≤ 63) ∧ e.marker ≤ 4095 ∧ e.window ≤ 2000
    ∧ (∀ clip voice gain loops fade mask, e.sound = some (.play clip voice gain loops fade mask) →
        (1 ≤ clip ∧ clip ≤ 192) ∧ (1 ≤ voice ∧ voice ≤ 3) ∧ gain ≤ 256 ∧ loops ≤ 255 ∧ fade ≤ 3)
    ∧ (∀ voice, e.sound = some (.stop voice) ∨ e.sound = some (.flush voice) → 1 ≤ voice ∧ voice ≤ 3)
    ∧ (∀ x, e.scene = some (.claim x) ∨ e.scene = some (.free x) → 1 ≤ x ∧ x ≤ 63)
    ∧ (∀ i, e.chain = some i → i ≤ 127)

/-- The words, clips, fade templates and the scene→station map lie in the ranges of Table 7-3, R162, R169 and R192,
and every clip's audio address at or beyond the image length that the counts give (R192, R193, R195). -/
def TablesSound (c : Configuration) : Prop :=
  (c.words.length ≤ 128 ∧ ∀ w ∈ c.words, (1 ≤ w.scene ∧ w.scene ≤ 63) ∧ w.cue ≤ 255
      ∧ (∀ d, w.trigger = .atDistance d → d ≤ 65535) ∧ (∀ t, w.trigger = .afterTime t → t ≤ 65535)
      ∧ ∀ l, w.link = some l → (1 ≤ l.clip ∧ l.clip ≤ 192) ∧ (1 ≤ l.voice ∧ l.voice ≤ 3) ∧ l.gain ≤ 256)
    ∧ (c.clips.length ≤ 192 ∧ ∀ k ∈ c.clips, (1 ≤ k.length ∧ k.length ≤ 16777215)
      ∧ k.loopStart < k.length ∧ k.baseGain ≤ 256
      ∧ imageSize c.route.length c.words.length c.clips.length ≤ k.address)
    ∧ (c.fades.length = 4 ∧ ∀ f ∈ c.fades, f.values.length = 16 ∧ (∀ v ∈ f.values, v ≤ 128)
      ∧ 10 ≤ f.duration ∧ f.duration ≤ 5000)
    ∧ (c.sceneMap.length = 63 ∧ ∀ v ∈ c.sceneMap, v = 0 ∨ (48 ≤ v ∧ v ≤ 63))

/-- What the REFERENCE check of R195 looks for: every cue word and every clip that the image names is in its table. -/
def ReferencesSound (c : Configuration) : Prop :=
  (∀ e ∈ c.route, ∀ i, e.chain = some i → i < c.words.length)
    ∧ (∀ e ∈ c.route, ∀ clip voice gain loops fade mask, e.sound = some (.play clip voice gain loops fade mask) →
        clip ≤ c.clips.length)
    ∧ (∀ w ∈ c.words, ∀ l, w.link = some l → l.clip ≤ c.clips.length)
    ∧ c.opt.restraintClip ≤ c.clips.length ∧ c.opt.stopClip ≤ c.clips.length

/-- The configuration meets what the load checks (R195): the ranges (RANGE), an entry of the class's route
(EMPTY-ROUTE), every entry of it meeting its successor (CHAIN), and the references (REFERENCE). -/
def Sound (c : Configuration) : Prop :=
  OptionsSound c.opt
    ∧ (1 ≤ c.route.length ∧ c.route.length ≤ 256) ∧ (∀ e ∈ c.route, EntrySound c.opt.routeLength e)
    ∧ TablesSound c
    ∧ (∃ i, i < c.route.length ∧ c.skips i = false)
    ∧ (∀ i, i < c.route.length → c.skips i = false →
        ((c.entry i).start + (c.entry i).length) % c.opt.routeLength = (c.entry (c.successor i)).start)
    ∧ ReferencesSound c

/-- A part that is READY runs on a configuration that passed the checks (R194, R195). -/
def State.ConfigSound (s : State) : Prop := s.cfs.load = .ready → Sound s.cfg

/-- What runs in which load and motion state: the load leaves the motion state LOST and the position LOST until it
ends (R85, R24), the control period runs exactly while the part acts (R83), the sample timer exactly while the part
is READY (R106), and the dwell timer only while the part acts (R19, R24). -/
def State.LifeSound (s : State) : Prop :=
  (s.cfs.load = .loading → s.dsc.motion = .lost ∧ s.rsq.known = false)
    ∧ (s.dsc.timer.isSome = true ↔ s.active = true)
    ∧ (s.rm.timer.isSome = true ↔ s.powered = true ∧ s.cfs.load = .ready ∧ s.dsc.motion ≠ .configFault)
    ∧ (s.rsq.dwell.isSome = true → s.active = true)

/-- While the part acts in HELD at a KNOWN position, a DWELL hold is released or its timer runs (R19). -/
def State.DwellSound (s : State) : Prop :=
  s.active = true → s.rsq.known = true → s.dsc.motion = .held → s.rsq.released = false →
    ∀ t, s.entry.hold = .dwell t → s.rsq.dwell.isSome = true

/-! ### The terms in which the statements speak -/

/-- The command by which a frame of the right form reaches the part. -/
def frameCommand (dt : Nat) (f : Frame) : Instr :=
  match f.body with
  | .pos b => .posFrame dt ⟨f.src, f.sig⟩ b
  | .stop level code => .stopFrame dt ⟨f.src, f.sig⟩ level code
  | .resume => .resumeFrame dt ⟨f.src, f.sig⟩
  | .claim x => .claimFrame dt ⟨f.src, f.sig⟩ x
  | .free x => .freeFrame dt ⟨f.src, f.sig⟩ x
  | .cue b => .cueFrame dt ⟨f.src, f.sig⟩ b
  | .cuest b => .cuestFrame dt ⟨f.src, f.sig⟩ b
  | .sync time scene => .syncFrame dt ⟨f.src, f.sig⟩ time scene
  | .grant target .unlock => .grantUnlock dt ⟨f.src, f.sig⟩ target
  | .grant target .lock => .grantLock dt ⟨f.src, f.sig⟩ target
  | .grant target .dispatch => .grantDispatch dt ⟨f.src, f.sig⟩ target
  | .grant target .park => .grantPark dt ⟨f.src, f.sig⟩ target
  | .grant target .wake => .grantWake dt ⟨f.src, f.sig⟩ target
  | .fix target entry distance => .fixFrame dt ⟨f.src, f.sig⟩ target entry distance
  | .clear target => .clearFrame dt ⟨f.src, f.sig⟩ target

/-- The part acts, the frame is valid and of the own signature, its source has a record that is not FOREIGN, and
NET-SILENT is not active: the usual reception, at which nothing but the frame's own effect and the refreshing of
the sender's record comes about. -/
def State.Receives (f : Frame) (s : State) : Prop :=
  s.active = true ∧ s.frameValid f = true ∧ f.sig = s.cfg.opt.signature
    ∧ (∃ p ∈ s.ptb, p.station = f.src) ∧ (∀ p ∈ s.ptb, p.station = f.src → p.foreign = false)
    ∧ Cause.netSilent ∉ s.stc.causes

/-- A FIX that names the part reaches a LOST part and names a place short of the end of an entry of its route (R22). -/
def State.TakesFix (h : Header) (e d : Nat) (s : State) : Prop :=
  s.Receives ⟨h.src, h.sig, .fix s.cfg.opt.station e d⟩ ∧ s.PositionAgrees ∧ s.rsq.known = false
    ∧ e < s.cfg.route.length ∧ s.cfg.skips e = false ∧ d < (s.cfg.entry e).length

/-- The table with the source's record refreshed at a moment (R50). -/
def refreshed (src ms : Nat) (t : List Peer) : List Peer :=
  t.map fun p => if p.station = src then { p with lastHeard := ms, stale := false, foreign := false } else p

/-- The part acts, the frame is valid and of another signature, and NET-SILENT is not active (R31). -/
def State.ReceivesForeign (f : Frame) (s : State) : Prop :=
  s.active = true ∧ s.frameValid f = true ∧ f.sig ≠ s.cfg.opt.signature ∧ Cause.netSilent ∉ s.stc.causes

/-- The table with a foreign hearing of a known station: its record refreshed, marked FOREIGN and emptied (R51). -/
def foreignHeard (src ms : Nat) (t : List Peer) : List Peer :=
  t.map fun p => if p.station = src then
    { p with lastHeard := ms, stale := false, foreign := true, lastSync := none, data := none } else p

/-- The state after the reception of a frame that no block beyond the NI and the PTB acts on: time has passed, the
carrier is idle (R35), the net-silence timer is restarted (R41), the sender's record is refreshed (R50). -/
def State.heard (dt src : Nat) (s : State) : State :=
  { s with
    now := s.now + dt
    ni := { s.ni.carrierIdle (s.now + dt) with
      silence := some ((s.now + dt) / 1000 + s.cfg.opt.netSilence) }
    ptb := refreshed src ((s.now + dt) / 1000) s.ptb }

/-- The state after a candidate that is discarded: time has passed and the carrier is idle (R25, R35). -/
def State.passedBy (dt : Nat) (s : State) : State :=
  { s with now := s.now + dt, ni := s.ni.carrierIdle (s.now + dt) }

/-- The fixed station is live at a moment of the part's own time, its last SYNC time being `m` (R148). -/
def State.LastSync (now station m : Nat) (s : State) : Prop :=
  isFixed station = true ∧ (∃ p ∈ s.ptb, p.station = station ∧ p.lastSync = some m) ∧ now / 1000 < m + 400

/-- Station `c` is the priority-1 candidate while a SYNC of station `src` is handled: the first held scene, in hold order,
whose station is live names it, the sender counting as live (R148, R149). -/
def State.FirstHeld (now src c : Nat) (s : State) : Prop :=
  ∃ before x after, s.scu.heldScenes = before ++ x :: after ∧ s.cfg.station x = c
    ∧ (c = src ∨ ∃ m, s.LastSync now c m)
    ∧ ∀ y ∈ before, s.cfg.station y ≠ src ∧ ∀ m, ¬ s.LastSync now (s.cfg.station y) m

/-- Playback order of the clip goes on beyond the samples that the voice holds (R174). -/
def Voice.HasMore (c : Clip) (v : Voice) : Prop :=
  v.loops = 255 ∨ v.buffer.length < (c.length - v.position) + v.loops * (c.length - c.loopStart)

/-- The sample indices are those that follow the voice's buffer in playback order, 128 of them or as many as are left
(R174, R175). -/
def Voice.NextSamples (c : Clip) (indices : List Nat) (v : Voice) : Prop :=
  indices.length = (if v.loops = 255 then 128
      else min 128 ((c.length - v.position) + v.loops * (c.length - c.loopStart) - v.buffer.length))
    ∧ ∀ k, k < indices.length →
      let p := v.position + (v.buffer.length + k)
      indices[k]? = some (if p < c.length then p
        else c.loopStart + (p - c.length) % (c.length - c.loopStart))

/-- A voice after the end of its request (R168): with nothing pending it is IDLE, and an IMMEDIATE request at the head of
its queue is taken, PLAYING from position 0 with the fade IN and an empty buffer (R164, R166). -/
def Voice.RequestEnded (v w : Voice) : Prop :=
  w.buffer = [] ∧ w.primed = false ∧ w.underruns = v.underruns ∧ w.refusals = v.refusals
    ∧ (v.queue = [] → w.state = .idle ∧ w.current = none ∧ w.queue = [] ∧ w.fade = none)
    ∧ (∀ q rest, v.queue = q :: rest → q.start = none → w.state = .playing ∧ w.current = some q ∧ w.position = 0
      ∧ w.loops = q.loops ∧ w.fade = some ⟨false, 0, 0⟩ ∧ w.queue = rest)

/-- A voice begins to fade out, or its fade-out runs on, or its WAITING request ends, with its queue emptied (R170, R171,
R178). -/
def Voice.Stopped (v w : Voice) : Prop :=
  w.queue = []
    ∧ (v.state = .playing → w.state = .fading ∧ w.fade = some ⟨true, (v.fade.map Fade.segment).getD 15, 0⟩
      ∧ w.current = v.current ∧ w.position = v.position)
    ∧ (v.state = .fading → w.state = .fading ∧ w.fade = v.fade ∧ w.current = v.current ∧ w.position = v.position)
    ∧ (v.state = .waiting → w.state = .idle ∧ w.current = none)
    ∧ (v.state = .idle → w.state = .idle)

/-- Voice 0 after an announcement end (R179): no request of origin RESTRAINT waits, and a current one that plays fades
out, from where a fade-in had come (R170); everything else of the voice stands. -/
def Voice.AnnouncementEnded (v w : Voice) : Prop :=
  w.queue = v.queue.filter (fun r => r.origin ≠ .restraint) ∧ w.current = v.current ∧ w.position = v.position
    ∧ w.loops = v.loops ∧ w.buffer = v.buffer ∧ w.primed = v.primed ∧ w.refill = v.refill
    ∧ w.underruns = v.underruns ∧ w.refusals = v.refusals
    ∧ (v.state = .playing → (∃ r, v.current = some r ∧ r.origin = .restraint) →
      w.state = .fading ∧ w.fade = some ⟨true, (v.fade.map Fade.segment).getD 15, 0⟩)
    ∧ (v.state ≠ .playing ∨ (∀ r, v.current = some r → r.origin ≠ .restraint) →
      w.state = v.state ∧ w.fade = v.fade)

/-- What follows word `i` of the chain, issued or skipped with the given watched issue and outcome: after the chain's
last word the chain ends with COMPLETE (R133; a CHAIN flag on the table's last word ends it too, the model's choice, log
entry 8), and an AFTER-TIME word of more than 0 ms becomes pending with its timer (R134). -/
def State.WordPassed (i : Nat) (watched : Option Nat) (outcome : WatchedOutcome) (u : Scu) (s t : State) : Prop :=
  (s.cfg.nextWord i = none → t.scu.chain = { u.chain with
      running := false, pending := none, timer := none, watched := none, outcome := .none, lastEnd := .complete })
    ∧ (∀ j ms, s.cfg.nextWord i = some j → (s.cfg.word j).trigger = .afterTime ms → 0 < ms →
      t.scu.chain = { u.chain with
        pending := some j, reason := .trigger, timer := some (t.now / 1000 + ms), watched := watched
        outcome := outcome })

/-- Pending word `i`, its trigger met, is acted on with the SCU at `u` (R135): it waits with STOPPED above latch 0; it is
skipped where its scene is not HELD, counted NOT-HELD, the watched outcome OTHER (R136); it waits with TRACKER-FULL
where 8 records stand and none is of its pair; otherwise it is issued (R138), a record of its pair freed and counted
SUPERSEDED first, the watched issue the new reference (R136). -/
def State.WordActedOn (i : Nat) (u : Scu) (s t : State) : Prop :=
  let w := s.cfg.word i
  (0 < s.stc.latch → t.scu = { u with chain := { u.chain with reason := .stopped } })
    ∧ (s.stc.latch = 0 → u.holdsScene w.scene = false →
      t.scu.tracker = u.tracker ∧ t.scu.nextRef = u.nextRef
      ∧ t.scu.counters = { u.counters with notHeld := min 65535 (u.counters.notHeld + 1) }
      ∧ s.WordPassed i none .other u t)
    ∧ (s.stc.latch = 0 → u.holdsScene w.scene = true → 8 ≤ u.tracker.length → u.recordOf w.scene w.cue = none →
      t.scu = { u with chain := { u.chain with reason := .trackerFull } })
    ∧ (s.stc.latch = 0 → u.holdsScene w.scene = true →
      (u.tracker.length < 8 ∨ (u.recordOf w.scene w.cue).isSome = true) → s.ni.queue.length < 5 →
      t.scu.tracker = (match u.recordOf w.scene w.cue with
          | some r => u.tracker.filter (fun q => q.ref ≠ r.ref)
          | none => u.tracker)
        ++ [⟨u.nextRef, w.scene, w.cue, .queued, t.now / 1000, none, w.suppressLate, w.link, none⟩]
      ∧ t.scu.counters = (match u.recordOf w.scene w.cue with
          | some _ => { u.counters with superseded := min 65535 (u.counters.superseded + 1) }
          | none => u.counters)
      ∧ t.scu.nextRef = (u.nextRef + 1) % 65536
      ∧ .cue ⟨w.scene, w.cue, s.dsc.speed, t.showTime⟩ u.nextRef ∈ t.ni.queue
      ∧ s.WordPassed i (some u.nextRef) .pending u t)

/-- The running chain is broken at its last word by an outcome OTHER (R136). -/
def Scu.Broken (u v : Scu) : Prop :=
  v.chain = { u.chain with
    running := false, pending := none, timer := none, watched := none, outcome := .none, lastEnd := .broken }
    ∧ v.counters = { u.counters with abandoned := min 65535 (u.counters.abandoned + 1) }

/-- No release is left to act on: a pending SCENE hold whose scene is HELD has been released (R18), and a released
entry that has reached its end has been left (R20). -/
def State.NothingDue (s : State) : Prop :=
  (∀ x, s.entry.hold = .scene x → s.scu.holdsScene x = true → s.rsq.known = true → s.rsq.released = true)
    ∧ ¬ (s.rsq.known = true ∧ s.rsq.released = true ∧ s.rsq.atEnd = true)

/-- What parking leaves of a state, besides what the commands that ask for it change (R198, R24, R42, R62, R81, R92,
R122, R144, R159, R180, R191). -/
def State.ParkedFrom (s t : State) : Prop :=
  (t.dsc.motion = .parked ∧ t.dsc.brakeReleased = false ∧ t.dsc.command = 0 ∧ t.dsc.timer = none
      ∧ t.dsc.steering = s.dsc.steering ∧ t.dsc.speed = s.dsc.speed ∧ t.dsc.history = s.dsc.history)
    ∧ (t.sau.authority = 0 ∧ t.sau.source = .forced ∧ t.sau.curve = none ∧ t.sau.ahead = none ∧ t.sau.targets = [])
    ∧ (t.rsq.effects = 0 ∧ t.rsq.dwell = none ∧ t.rsq.known = s.rsq.known ∧ t.rsq.entry = s.rsq.entry
      ∧ t.rsq.distance = s.rsq.distance)
    ∧ (t.rm.release = false ∧ t.rm.vehicle = s.rm.vehicle ∧ t.rm.timer = s.rm.timer
      ∧ t.rm.seats = s.rm.seats.map fun k => { k with confirm := none, contra := none })
    ∧ (t.ni.queue = [] ∧ t.ni.posTimer = none ∧ t.ni.silence = none)
    ∧ t.ptb = []
    ∧ (t.scu.slot1 = Slot.free ∧ t.scu.slot2 = Slot.free ∧ t.scu.chain = Chain.start ∧ t.scu.tracker = []
      ∧ t.scu.counters.done = s.scu.counters.done)
    ∧ (t.sck.running = false ∧ t.showTime = s.sck.readingAt t.now ∧ t.sck.state = s.sck.state
      ∧ t.sck.trim = s.sck.trim ∧ t.sck.reference = s.sck.reference)
    ∧ (t.spe.v0.state = .idle ∧ t.spe.v1.state = .idle ∧ t.spe.v2.state = .idle ∧ t.spe.v3.state = .idle
      ∧ t.spe.front = 0 ∧ t.spe.rear = 0 ∧ t.spe.v0.underruns = s.spe.v0.underruns)
    ∧ (t.stc.causes = [] ∧ t.stc.latch = s.stc.latch ∧ t.stc.first = s.stc.first
      ∧ t.stc.incidents = s.stc.incidents ∧ t.stc.nextSeq = s.stc.nextSeq)

/-- What the wake of a parked part by a command of the service link leaves, besides what the command then does to voice
0: the cause WAKE with the reason SERVICE and the reply OK, motion state and position LOST, no cause and no latch, the
clock running from 0, the counters, the underrun counts and the incident list kept (R199, R197, R24, R42, R62, R81, R92,
R122, R144, R159, R180, R191). -/
def State.WokenByService (s t : State) : Prop :=
  t.cfs = { s.cfs with startCause := .wake, wakeReason := some .service, reply := some .ok }
    ∧ t.dsc = { Dsc.start with steering := s.dsc.steering, timer := some (t.now / 1000 + 10) }
    ∧ t.rm = { Rm.start with seats := freshSeats s.cfg.opt.seatCount, timer := s.rm.timer }
    ∧ t.rsq = Rsq.start ∧ t.sau = Sau.start ∧ t.ptb = []
    ∧ t.ni.queue = [.pos true] ∧ t.ni.silence = some (t.now / 1000 + s.cfg.opt.netSilence)
    ∧ t.ni.posTimer = some (t.now / 1000 + s.cfg.opt.posPeriod)
    ∧ t.scu = { Scu.start with counters := s.scu.counters }
    ∧ (t.sck.running = true ∧ t.showTime = 0 ∧ t.sck.trim = 0 ∧ t.sck.state = .free ∧ t.sck.reference = none)
    ∧ (t.spe.v1.state = .idle ∧ t.spe.v2.state = .idle ∧ t.spe.v3.state = .idle
      ∧ t.spe.v0.underruns = s.spe.v0.underruns ∧ t.spe.front = 0 ∧ t.spe.rear = 0)
    ∧ t.stc = { Stc.start with incidents := s.stc.incidents, nextSeq := s.stc.nextSeq }
    ∧ t.powered = s.powered ∧ t.choices = s.choices ∧ t.cfg = s.cfg ∧ t.pending = s.pending

end Sys2Proof.Machine
end

