-- ==== Sys2Proof/WellFormed.lean ====
section
/-! DEFINITION. Which commands are well formed: every operand within the range the manual gives it and
every frame from a station that may send its kind. A command that is not well formed still has a meaning
(the block discards it or acts on what fits); the statements say where they need well-formedness. -/

namespace Sys2Proof

/-- A frame command: header and body ranges (R29, R44) and the sender's kind (R30). -/
def frameWf (h : Header) (b : Body) : Bool :=
  Machine.frameInRange ⟨h.src, h.sig, b⟩ && Machine.senderMay h.src b

/-- A coil input gives 0 to 4,095 (R98). -/
def Coil.wf (c : Coil) : Bool := c.left ≤ 4095 && c.right ≤ 4095

/-- A signed 16-bit sample (R162). -/
def sampleWf (x : Int) : Bool := -32768 ≤ x && x ≤ 32767

/-- The operands of a command lie within the manual's ranges. -/
def Instr.wf : Instr → Bool
  | .powerOn _ => true
  | .resetInput _ => true
  | .loadEnd _ _ => true
  | .candidateDiscarded _ _ => true
  | .posFrame _ h b => frameWf h (.pos b)
  | .stopFrame _ h level code => frameWf h (.stop level code)
  | .resumeFrame _ h => frameWf h .resume
  | .claimFrame _ h s => frameWf h (.claim s)
  | .freeFrame _ h s => frameWf h (.free s)
  | .cueFrame _ h b => frameWf h (.cue b)
  | .cuestFrame _ h b => frameWf h (.cuest b)
  | .syncFrame _ h time s => frameWf h (.sync time s)
  | .grantUnlock _ h target => frameWf h (.grant target .unlock)
  | .grantLock _ h target => frameWf h (.grant target .lock)
  | .grantDispatch _ h target => frameWf h (.grant target .dispatch)
  | .grantPark _ h target => frameWf h (.grant target .park)
  | .grantWake _ h target => frameWf h (.grant target .wake)
  | .fixFrame _ h target entry distance => frameWf h (.fix target entry distance)
  | .clearFrame _ h target => frameWf h (.clear target)
  | .carrierBusy _ => true
  | .frameTransmit _ => true
  | .posPeriodTimerExpiry _ => true
  | .netSilenceTimerExpiry _ => true
  | .staleTime _ station => Machine.isStation station
  | .dropTime _ station => Machine.isStation station
  | .odometerPulse _ => true
  | .markerRead _ id => 1 ≤ id && id ≤ 4095
  | .dwellTimerExpiry _ => true
  | .controlPeriodExpiry _ c => c.ch0.wf && c.ch1.wf && c.ch2.wf && c.ch3.wf
  | .sampleTimerExpiry _ raw => raw.length = 8
  | .confirmTimerExpiry _ seat => 1 ≤ seat && seat ≤ 8
  | .contradictionTimerExpiry _ seat => 1 ≤ seat && seat ≤ 8
  | .claimWindowExpiry _ _ => true
  | .pendingTimerExpiry _ => true
  | .cueTimeout _ ref => Machine.fits 16 ref
  | .lateWindowExpiry _ ref => Machine.fits 16 ref
  | .referenceSilent _ => true
  | .samplePeriod _ => true
  | .transferCompletion _ samples => samples.length ≤ 128 && samples.all sampleWf
  | .status _ => true
  | .readRoute _ => true
  | .readPeers _ => true
  | .readSeats _ => true
  | .readScenes _ => true
  | .readVoices _ => true
  | .readClock _ => true
  | .readIncidents _ => true
  | .clearIncidents _ => true
  | .serviceStopOn _ => true
  | .serviceStopOff _ => true
  | .park _ => true
  | .restart _ => true
  | .testClip _ _ => true
  | .unknownCommand _ line => (Machine.parseLine line).isNone
  | .serviceReplySent _ => true
  | .powerLoss _ => true

end Sys2Proof
end

