-- ==== Sys2Proof/Certificates/Slice0/Obligations.lean ====
section
/-! DEFINITION. The statements about the model, one `def Obligations.<Name> : Prop` each. Where a statement cites
no rule as stated, it is derived from the rules its docstring names. -/

open Sys2Proof Sys2Proof.Machine

/-! ### The machine -/

/-- A step with a command at the front of the queue is that command on the state with the queue's rest. -/
def Obligations.StepRunsFrontCommand : Prop :=
  ∀ (c : Instr) (rest : List Instr) (s : State),
    step (s.setPending (c :: rest)) = exec c (s.setPending rest)

/-- Every command completes in every state, and leaves the queue of commands as it is; so a step takes one command off
the queue. The model's choice (log entry 11): on an empty queue a step changes nothing. -/
def Obligations.CommandsCompleteAndKeepTheQueue : Prop :=
  (∀ (c : Instr) (s : State), ∃ t, exec c s = .next t ∧ t.pending = s.pending)
    ∧ (∀ s : State, ∃ t, step s = .next t ∧ t.pending = s.pending.tail ∧ (s.pending = [] → t = s))

/-! ### Starts -/

/-- The principal fields after a power-on start (R24, R42, R62, R81, R85, R121, R144, R159, R180, R191, R194), each at
the start value of its block's table. The whole state that POWER_ON leaves is in O6. -/
def Obligations.ResetHoldsTheStartValues : Prop :=
  (State.reset.dsc.motion = .lost ∧ State.reset.dsc.brakeReleased = false ∧ State.reset.dsc.command = 0
      ∧ State.reset.dsc.steering = 0 ∧ State.reset.dsc.speed = 0 ∧ State.reset.dsc.history = [0, 0, 0, 0]
      ∧ State.reset.dsc.timer = none)
    ∧ (State.reset.rsq.known = false ∧ State.reset.rsq.effects = 0 ∧ State.reset.rsq.entry = 0
      ∧ State.reset.rsq.distance = 0)
    ∧ (State.reset.rm.vehicle = .checking ∧ State.reset.rm.release = false ∧ State.reset.rm.timer = none
      ∧ State.reset.rm.seats.length = 8 ∧ State.reset.rm.seats.all (fun k => k.state = .notFitted) = true)
    ∧ (State.reset.sau.authority = 0 ∧ State.reset.sau.source = .forced ∧ State.reset.sau.targets = [])
    ∧ (State.reset.ptb = [] ∧ State.reset.ni.queue = [] ∧ State.reset.ni.posTimer = none
      ∧ State.reset.ni.silence = none)
    ∧ (State.reset.scu = ⟨Slot.free, Slot.free, Chain.start, [], Counters.zero, 0⟩)
    ∧ (State.reset.sck.running = false ∧ State.reset.showTime = 0 ∧ State.reset.sck.trim = 0
      ∧ State.reset.sck.state = .free ∧ State.reset.sck.reference = none)
    ∧ (State.reset.spe.v0.state = .idle ∧ State.reset.spe.v1.state = .idle ∧ State.reset.spe.v2.state = .idle
      ∧ State.reset.spe.v3.state = .idle ∧ State.reset.spe.lastServed = 3 ∧ State.reset.spe.front = 0
      ∧ State.reset.spe.rear = 0)
    ∧ (State.reset.stc.causes = [] ∧ State.reset.stc.latch = 0 ∧ State.reset.stc.first = none
      ∧ State.reset.stc.incidents = [] ∧ State.reset.stc.nextSeq = 0)
    ∧ (State.reset.cfs.load = .loading ∧ State.reset.cfs.startCause = .power ∧ State.reset.cfs.wakeReason = none)

/-- The state after a power-on start meets every invariant that the steps keep. -/
def Obligations.ResetMeetsTheInvariants : Prop :=
  State.reset.DriveSafe ∧ State.reset.AuthoritySafe ∧ State.reset.PositionAgrees ∧ State.reset.ReleaseSafe
    ∧ State.reset.StopsSound ∧ State.reset.PeersSound ∧ State.reset.QueueSound ∧ State.reset.SlotsSound
    ∧ State.reset.TrackerSound ∧ State.reset.VoicesSound ∧ State.reset.ConfigSound ∧ State.reset.LifeSound
    ∧ State.reset.DwellSound

/-- Starts and wakes record their cause (R197): POWER_ON the cause POWER with an empty incident list, RESET_INPUT and
the start after a RESTART's reply the cause PIN with the incident list kept, a wake the cause WAKE with its reason; at
a start the wake reason is none. STATUS gives both. Every other command leaves them as they are, unless it wakes a
parked part. (What the loss of the supply leaves is the model's choice, log entry 13, and is not stated here.) -/
def Obligations.StartsRecordTheirCause : Prop :=
  (∀ (dt : Nat) (s : State), ∃ t, exec (.powerOn dt) s = .next t
      ∧ t.cfs.startCause = .power ∧ t.cfs.wakeReason = none ∧ t.stc.incidents = [])
    ∧ (∀ (dt : Nat) (s : State), s.powered = true → ∃ t, exec (.resetInput dt) s = .next t
      ∧ t.cfs.startCause = .pin ∧ t.cfs.wakeReason = none ∧ t.stc.incidents = s.stc.incidents)
    ∧ (∀ (dt : Nat) (s : State), s.powered = true → s.cfs.reply.isSome = true → s.cfs.restarting = true →
      ∃ t, exec (.serviceReplySent dt) s = .next t ∧ t.cfs.startCause = .pin ∧ t.cfs.wakeReason = none
        ∧ t.stc.incidents = s.stc.incidents)
    ∧ (∀ (r : WakeReason) (s : State), (s.wake r).cfs.startCause = .wake ∧ (s.wake r).cfs.wakeReason = some r)
    ∧ (∀ (dt : Nat) (s : State), s.powered = true → s.cfs.reply = none →
      ∃ t before after, exec (.status dt) s = .next t
        ∧ t.cfs.reply = some (.data (before ++ [Item.name s.cfs.startCause.name,
            Item.nameOrNone (s.cfs.wakeReason.map WakeReason.name)] ++ after)))
    ∧ (∀ (c : Instr) (s t : State), exec c s = .next t →
      (∀ dt, c ≠ .powerOn dt ∧ c ≠ .resetInput dt ∧ c ≠ .powerLoss dt) →
      ¬ ((∃ dt, c = .serviceReplySent dt) ∧ s.cfs.restarting = true) →
      (t.cfs.startCause = s.cfs.startCause ∧ t.cfs.wakeReason = s.cfs.wakeReason)
        ∨ (s.parked = true ∧ t.cfs.startCause = .wake ∧ t.cfs.wakeReason.isSome = true))

/-- What the starts and the loss of the supply leave (R191, R194, R203): POWER_ON and POWER_LOSS leave the start
values and an empty incident list; RESET_INPUT and a restart leave the start values, the incident list and the next
sequence number kept. What a part without its supply holds is the model's choice (log entry 13), and so is the own
time, which POWER_ON sets to 0 (log entry 12); the carrier-present line, which is idle after POWER_ON and kept by the
other starts and at POWER_LOSS, is the model's choice too (log entry 6). -/
def Obligations.StartsLeaveTheStartValues : Prop :=
  (∀ (dt : Nat) (s : State), exec (.powerOn dt) s =
      .next { State.reset with choices := s.choices, pending := s.pending })
    ∧ (∀ (dt : Nat) (s : State), exec (.powerLoss dt) s =
      .next { State.reset with
        powered := false, now := s.now + dt, choices := s.choices, pending := s.pending
        ni := { Ni.start with carrierBusy := s.ni.carrierBusy } })
    ∧ (∀ (c : Instr) (dt : Nat) (s : State), s.powered = true →
      (c = .resetInput dt ∨ (c = .serviceReplySent dt ∧ s.cfs.reply.isSome = true ∧ s.cfs.restarting = true)) →
      exec c s = .next { State.reset with
        now := s.now + dt, choices := s.choices, pending := s.pending
        cfs := { Cfs.start with startCause := .pin }
        ni := { Ni.start with carrierBusy := s.ni.carrierBusy }
        stc := { Stc.start with incidents := s.stc.incidents, nextSeq := s.stc.nextSeq } })

/-- A load whose checks all pass ends with READY (R194): the configuration is in force, the generator seeded with the
own station number, the net-silence timer started, a class C POS requested and the period timer started (R42), the
control period and the sample timer started (R83, R121), the fitted seats OPEN (R105), the show clock running from 0
(R146); nothing else changes. On the empty queue that a start leaves, the request begins an idle measurement with its
draw where the carrier is idle (R34). -/
def Obligations.LoadEndsReady : Prop :=
  ∀ (dt : Nat) (memory : List Byte) (c : Configuration) (s : State),
    s.powered = true → s.cfs.load = .loading → loadImage memory = .ok c →
    ∃ t, exec (.loadEnd dt memory) s = .next t
      ∧ t.now = s.now + dt ∧ t.cfg = c ∧ t.cfs = { s.cfs with load := .ready }
      ∧ (s.ni.queue = [] → s.ni.idleFrom = none → t.ni.gen =
          if s.ni.carrierBusy then c.opt.station else (c.opt.station * 25173 + 13849) % 65536)
      ∧ (s.ni.queue = [] → s.ni.idleFrom = none → s.ni.carrierBusy = false →
          t.ni.idleFrom = some (s.now + dt) ∧ t.ni.q = (c.opt.station * 25173 + 13849) % 65536 / 4096)
      ∧ (s.ni.carrierBusy = true → t.ni.idleFrom = s.ni.idleFrom ∧ t.ni.q = s.ni.q)
      ∧ t.ni.carrierBusy = s.ni.carrierBusy ∧ t.ni.sending = s.ni.sending
      ∧ t.ni.silence = some ((s.now + dt) / 1000 + c.opt.netSilence)
      ∧ t.ni.posTimer = some ((s.now + dt) / 1000 + c.opt.posPeriod)
      ∧ (s.ni.queue = [] → t.ni.queue = [.pos true])
      ∧ t.dsc = { s.dsc with timer := some ((s.now + dt) / 1000 + 10) }
      ∧ t.rm.timer = some ((s.now + dt) / 1000 + 5)
      ∧ t.rm.seats = (List.range 8).map (fun i =>
          Seat.start (if i < c.opt.seatCount then .opened else .notFitted))
      ∧ t.rm.vehicle = s.rm.vehicle ∧ t.rm.release = s.rm.release
      ∧ t.sck = ⟨true, 0, s.now + dt, 0, .free, none, none, none, false, 0, 0, none, none⟩ ∧ t.showTime = 0
      ∧ t.ptb = s.ptb ∧ t.sau = s.sau ∧ t.rsq = s.rsq ∧ t.scu = s.scu ∧ t.spe = s.spe ∧ t.stc = s.stc
      ∧ t.powered = true ∧ t.choices = s.choices ∧ t.pending = s.pending

/-- A load that fails a check ends with CONFIG-FAULT (R195, R196): code and item recorded, motion state CONFIG-FAULT
with the brake applied and the speed command 0, nothing else changed. Outside a load the event changes nothing but
the time, which is the model's choice (log entry 52). -/
def Obligations.LoadEndsInConfigFault : Prop :=
  (∀ (dt : Nat) (memory : List Byte) (code : FaultCode) (item : FaultItem) (s : State),
    s.powered = true → s.cfs.load = .loading → loadImage memory = .error (code, item) →
    exec (.loadEnd dt memory) s = .next { s with
      now := s.now + dt
      cfs := { s.cfs with load := .configFault, faultCode := some code, faultItem := some item }
      dsc := { s.dsc with motion := .configFault, brakeReleased := false, command := 0 } })
    ∧ (∀ (dt : Nat) (memory : List Byte) (s : State), s.cfs.load ≠ .loading →
      exec (.loadEnd dt memory) s = .next { s with now := s.now + dt })

/-- A configuration that a load accepts passed the checks of R195: every field within its range of Tables 1-1, 7-3 and
11-2 and of R162, R169 and R192 (RANGE), at least one entry of the class's route (EMPTY-ROUTE), every entry of it
meeting its successor (CHAIN), and every cue word and clip that the image names in its table (REFERENCE). -/
def Obligations.LoadedConfigurationIsSound : Prop :=
  ∀ (memory : List Byte) (c : Configuration), loadImage memory = .ok c → Sound c

/-! ### Frames -/

/-- Decoding what the encoding gives returns the frame, for every frame within the ranges (R43, R44). -/
def Obligations.FramesSurviveTheirBytes : Prop :=
  ∀ f : Frame, frameInRange f = true →
    decodeFrame (encodeFrame f) = some f ∧ parseCandidate (encodeFrame f) = some f

/-- A candidate that fails a form check is discarded (R29): shorter than seven bytes, a CRC that differs, a kind code
outside the table, a source station outside 1 to 63, a route signature of 0, a body length in the header that is not the
kind's, or a body that is not of the kind's length. -/
def Obligations.MalformedCandidatesAreDiscarded : Prop :=
  ∀ (dt : Nat) (bytes : List Byte) (s : State), s.powered = true →
    (bytes.length < 7
      ∨ beNat (bytes.drop (bytes.length - 2)) ≠ (crc16 (bytes.take (bytes.length - 2))).toNat
      ∨ (∃ k, bytes.head? = some k ∧ bodyLength k.toNat = none)
      ∨ (∃ src, bytes[1]? = some src ∧ (src.toNat = 0 ∨ 63 < src.toNat))
      ∨ (bytes[2]? = some 0#8 ∧ bytes[3]? = some 0#8)
      ∨ (∃ k n len, bytes.head? = some k ∧ bodyLength k.toNat = some n ∧ bytes[4]? = some len ∧ len.toNat ≠ n)
      ∨ (∃ k n, bytes.head? = some k ∧ bodyLength k.toNat = some n ∧ bytes.length ≠ n + 7)) →
    exec (.candidateDiscarded dt bytes) s = .next (s.passedBy dt)

/-- A frame received while the part neither acts nor is parked, and a frame that fails the checks of R30 to R32, is
discarded whole (R28): nothing but the time and the channel changes. -/
def Obligations.UnfitFramesAreDiscarded : Prop :=
  ∀ (dt : Nat) (f : Frame) (s : State), s.powered = true →
    ((s.active = false ∧ s.parked = false)
      ∨ f.src = s.cfg.opt.station ∨ senderMay f.src f.body = false ∨ frameInRange f = false
      ∨ (∃ b o, f.body = .pos b ∧ f.sig = s.cfg.opt.signature ∧ b.ordinate = some o
          ∧ s.cfg.opt.routeLength ≤ o)) →
    exec (frameCommand dt f) s = .next (s.passedBy dt)

/-- In PARKED a valid own-signature GRANT WAKE that names the part wakes it, with the reason NET (R28, R199), and
every other frame is discarded. After the wake the part is LOST with its counts and incidents kept, and the NI
starts as at READY (R42). -/
def Obligations.ParkedPartWakesForItsGrant : Prop :=
  (∀ (dt : Nat) (h : Header) (s : State), s.parked = true → isFixed h.src = true →
    h.sig = s.cfg.opt.signature → 1 ≤ h.sig → h.sig < 65536 → isStation s.cfg.opt.station = true →
    h.src ≠ s.cfg.opt.station →
    ∃ t, exec (.grantWake dt h s.cfg.opt.station) s = .next t
      ∧ t.now = s.now + dt ∧ t.cfg = s.cfg
      ∧ t.cfs = { s.cfs with startCause := .wake, wakeReason := some .net }
      ∧ t.ni.queue = [.pos true] ∧ t.ni.silence = some ((s.now + dt) / 1000 + s.cfg.opt.netSilence)
      ∧ t.ni.posTimer = some ((s.now + dt) / 1000 + s.cfg.opt.posPeriod)
      ∧ t.ptb = [] ∧ t.sau = Sau.start
      ∧ t.dsc = { Dsc.start with
          steering := s.dsc.steering, timer := some ((s.now + dt) / 1000 + 10) }
      ∧ t.rm = { Rm.start with seats := freshSeats s.cfg.opt.seatCount, timer := s.rm.timer }
      ∧ t.rsq = Rsq.start ∧ t.scu = { Scu.start with counters := s.scu.counters }
      ∧ t.sck.running = true ∧ t.showTime = 0 ∧ t.sck.trim = 0 ∧ t.sck.state = .free
      ∧ t.spe.v0.state = .idle ∧ t.spe.v1.state = .idle ∧ t.spe.v2.state = .idle ∧ t.spe.v3.state = .idle
      ∧ t.spe.lastServed = 3 ∧ t.spe.v1.underruns = s.spe.v1.underruns
      ∧ t.stc = { Stc.start with incidents := s.stc.incidents, nextSeq := s.stc.nextSeq }
      ∧ t.powered = s.powered ∧ t.choices = s.choices ∧ t.pending = s.pending)
    ∧ (∀ (dt : Nat) (f : Frame) (s : State), s.parked = true →
      f.body ≠ .grant s.cfg.opt.station .wake ∨ f.sig ≠ s.cfg.opt.signature →
      exec (frameCommand dt f) s = .next (s.passedBy dt))

/-- Hearings. A CUE, and a GRANT or FIX that names another station, reaches no block beyond the PTB (R33): the sender's
record is refreshed (R50), or made at the end of the table at a first hearing (R48); a full table first evicts the
unpinned record that was heard longest ago, the first of those in table order (R49), here one that shows no scene and
is no FOREIGN vehicle record. A hearing that clears the last FOREIGN vehicle record withdraws FOREIGN (R50, R61). A
frame of another signature is a foreign hearing (R31, R51): the sender's record is refreshed, marked FOREIGN and
emptied, and nothing else of the frame acts, but for a STOP above the latch, which raises it with the code's record
(R183). The first FOREIGN vehicle record raises FOREIGN, level 1 (R61), and where a slot waits on the sender with no
other record blocking its scene, the slot is re-claimed (R51, R128). -/
def Obligations.FramesForOthersAreHearingsAlone : Prop :=
  (∀ (dt : Nat) (f : Frame) (s : State), s.Receives f →
    ((∃ b, f.body = .cue b) ∨ (∃ x k, f.body = .grant x k ∧ x ≠ s.cfg.opt.station)
      ∨ (∃ x e d, f.body = .fix x e d ∧ x ≠ s.cfg.opt.station)) →
    exec (frameCommand dt f) s = .next (s.heard dt f.src))
    ∧ (∀ (dt : Nat) (h : Header) (b : CueBody) (s : State),
      s.active = true → s.frameValid ⟨h.src, h.sig, .cue b⟩ = true → h.sig = s.cfg.opt.signature →
      Cause.netSilent ∉ s.stc.causes → (∀ p ∈ s.ptb, p.station ≠ h.src) → s.ptb.length < 24 →
      exec (.cueFrame dt h b) s = .next { s.heard dt h.src with
        ptb := s.ptb ++ [⟨h.src, false, (s.now + dt) / 1000, false, false, false, false, none, none⟩] })
    ∧ (∀ (dt : Nat) (h : Header) (b : CueBody) (before after : List Peer) (p : Peer) (s : State),
      s.active = true → s.frameValid ⟨h.src, h.sig, .cue b⟩ = true → h.sig = s.cfg.opt.signature →
      Cause.netSilent ∉ s.stc.causes → (∀ q ∈ s.ptb, q.station ≠ h.src) → s.PeersSound → s.ptb.length = 24 →
      s.ptb = before ++ p :: after → p.pinned = false →
      (∀ q ∈ before, q.pinned = false → p.lastHeard < q.lastHeard) →
      (∀ q ∈ after, q.pinned = false → p.lastHeard ≤ q.lastHeard) →
      p.showsScene = false → p.foreignVehicle = false →
      exec (.cueFrame dt h b) s = .next { s.heard dt h.src with
        ptb := before ++ after
          ++ [⟨h.src, false, (s.now + dt) / 1000, false, false, false, false, none, none⟩] })
    ∧ (∀ (dt : Nat) (h : Header) (b : CueBody) (s : State),
      s.active = true → s.frameValid ⟨h.src, h.sig, .cue b⟩ = true → h.sig = s.cfg.opt.signature →
      Cause.netSilent ∉ s.stc.causes → Cause.foreign ∈ s.stc.causes →
      (∃ p ∈ s.ptb, p.station = h.src ∧ p.foreignVehicle = true) →
      (∀ p ∈ s.ptb, p.foreignVehicle = true → p.station = h.src) →
      ∃ t, exec (.cueFrame dt h b) s = .next t
        ∧ t.now = s.now + dt ∧ t.stc = { s.stc with causes := s.stc.causes.filter (· ≠ .foreign) }
        ∧ t.ptb = refreshed h.src ((s.now + dt) / 1000) s.ptb
        ∧ { t with now := s.now, ni := s.ni, ptb := s.ptb, stc := s.stc } = s)
    ∧ (∀ (dt : Nat) (f : Frame) (s : State), s.ReceivesForeign f → (∃ p ∈ s.ptb, p.station = f.src) →
      (∀ p ∈ s.ptb, p.station = f.src → p.pin1 = false ∧ p.pin2 = false ∧ p.showsScene = false) →
      ((∃ p ∈ s.ptb, p.foreignVehicle = true) ∨ isFixed f.src = true) →
      (∀ level code, f.body = .stop level code → level ≤ s.stc.latch) →
      exec (frameCommand dt f) s = .next { s.heard dt f.src with
        ptb := foreignHeard f.src ((s.now + dt) / 1000) s.ptb })
    ∧ (∀ (dt : Nat) (h : Header) (level code : Nat) (s : State),
      s.ReceivesForeign ⟨h.src, h.sig, .stop level code⟩ → (∃ p ∈ s.ptb, p.station = h.src) →
      (∀ p ∈ s.ptb, p.station = h.src → p.pin1 = false ∧ p.pin2 = false ∧ p.showsScene = false) →
      ((∃ p ∈ s.ptb, p.foreignVehicle = true) ∨ isFixed h.src = true) → s.stc.latch < level →
      ∃ t, exec (.stopFrame dt h level code) s = .next t
        ∧ t.stc.latch = level ∧ t.stc.causes = s.stc.causes
        ∧ t.stc.first = (if s.stc.latch = 0 then some ⟨.code code, h.src⟩ else s.stc.first)
        ∧ t.stc.incidents = (if s.stc.incidents.length < 16 then s.stc.incidents else s.stc.incidents.drop 1)
            ++ [(s.elapse dt).incidentNow (.code code) level h.src]
        ∧ (level = 2 → t.sau.authority = 0 ∧ t.dsc.command = 0) ∧ t.scu.chain.running = false
        ∧ t.ptb = foreignHeard h.src ((s.now + dt) / 1000) s.ptb)
    ∧ (∀ (dt : Nat) (f : Frame) (s : State), s.ReceivesForeign f → s.StopsSound → isVehicle f.src = true →
      (∀ p ∈ s.ptb, p.foreignVehicle = false) → Cause.foreign ∉ s.stc.causes →
      (∀ level code, f.body ≠ .stop level code) →
      (∀ p ∈ s.ptb, p.station = f.src → p.pin1 = false ∧ p.pin2 = false ∧ p.showsScene = false) →
      ∃ t, exec (frameCommand dt f) s = .next t
        ∧ ((∃ p ∈ s.ptb, p.station = f.src) → t.ptb = foreignHeard f.src ((s.now + dt) / 1000) s.ptb)
        ∧ ((∀ p ∈ s.ptb, p.station ≠ f.src) → s.ptb.length < 24 → t.ptb = s.ptb
            ++ [⟨f.src, true, (s.now + dt) / 1000, false, false, false, false, none, none⟩])
        ∧ (((∃ p ∈ s.ptb, p.station = f.src) ∨ s.ptb.length < 24) →
          t.stc.causes = s.stc.causes ++ [.foreign] ∧ t.stc.latch = max s.stc.latch 1
          ∧ (∃ i, t.stc.incidents.getLast? = some i ∧ i.seq = s.stc.nextSeq ∧ i.cause = .local_ .foreign
              ∧ i.level = 1 ∧ i.origin = s.cfg.opt.station)
          ∧ t.scu.slot1 = s.scu.slot1 ∧ t.scu.slot2 = s.scu.slot2 ∧ t.sck = s.sck
          ∧ t.rsq.known = s.rsq.known ∧ t.rsq.entry = s.rsq.entry ∧ t.rsq.distance = s.rsq.distance
          ∧ t.rm.vehicle = s.rm.vehicle ∧ t.rm.seats = s.rm.seats ∧ t.cfg = s.cfg ∧ t.cfs = s.cfs))
    ∧ (∀ (dt : Nat) (f : Frame) (x : Nat) (k : SlotId) (s : State), s.ReceivesForeign f → s.NothingDue →
      s.SlotsSound → (∃ p ∈ s.ptb, p.foreignVehicle = true) →
      (∀ level code, f.body = .stop level code → level ≤ s.stc.latch) →
      (s.scu.slot k).state = .waiting → (s.scu.slot k).scene = some x → (s.scu.slot k).blocking = some f.src →
      (∃ p ∈ s.ptb, p.station = f.src) →
      (∀ p ∈ s.ptb, p.carries (.slot k) = true ↔ p.station = f.src) → isVehicle f.src = true → s.ConfigSound →
      s.claimCheck (some f.src) x = none → s.ni.queue.length < 4 → (s.scu.slot (otherSlot k)).state ≠ .waiting →
      ∃ t, exec (frameCommand dt f) s = .next t
        ∧ (t.scu.slot k).state = .claiming ∧ (t.scu.slot k).scene = some x
        ∧ (t.scu.slot k).window = some ((s.now + dt) / 1000 + s.cfg.opt.claimWindow)
        ∧ (t.scu.slot k).blocking = none ∧ .claim x ∈ t.ni.queue
        ∧ (∀ p ∈ t.ptb, p.carries (.slot k) = false)
        ∧ t.dsc = s.dsc ∧ t.sau = s.sau ∧ t.rsq = s.rsq ∧ t.rm = s.rm ∧ t.spe = s.spe ∧ t.stc = s.stc
        ∧ t.cfg = s.cfg ∧ t.cfs = s.cfs ∧ t.now = s.now + dt)

/-- The content of a POS. With nothing in it for the slots or the latch it is stored (R52, R53): the group is replaced,
an absent ordinate leaves the stored one, and the held scenes are stored without those that a local slot holds in HELD.
One whose asserted level exceeds the latch raises it besides (R183): PEER-LEVEL with its source is the first cause at a
rise from 0 and in the record, and the causes stay. One from a lower-numbered station that lists the scene of a HELD
slot frees the slot without a FREE frame and raises SCENE-CONFLICT, level 1 (R129); that scene is then stored (R53). -/
def Obligations.PosIsStored : Prop :=
  (∀ (dt : Nat) (h : Header) (b : PosBody) (s : State), s.Receives ⟨h.src, h.sig, .pos b⟩ →
    b.level ≤ s.stc.latch →
    (∀ k, (s.scu.slot k).state = .free ∨ (s.scu.slot k).state = .held) →
    (∀ k x, (s.scu.slot k).state = .held → (s.scu.slot k).scene = some x → x ∈ b.held →
      s.cfg.opt.station ≤ h.src) →
    exec (.posFrame dt h b) s = .next { s.heard dt h.src with
      ptb := (refreshed h.src ((s.now + dt) / 1000) s.ptb).map fun p =>
        if p.station = h.src then
          { p with data := some ⟨b.ordinate.or (p.data.bind VehicleData.ordinate), b.lane, b.entry, b.speed,
              b.motion, b.restraint, b.level, b.held.filter (fun x => !s.scu.holdsScene x), b.claiming⟩ }
        else p })
    ∧ (∀ (dt : Nat) (h : Header) (b : PosBody) (s : State), s.Receives ⟨h.src, h.sig, .pos b⟩ →
      s.stc.latch < b.level →
      (∀ k, (s.scu.slot k).state = .free ∨ (s.scu.slot k).state = .held) →
      (∀ k x, (s.scu.slot k).state = .held → (s.scu.slot k).scene = some x → x ∈ b.held →
        s.cfg.opt.station ≤ h.src) →
      ∃ t, exec (.posFrame dt h b) s = .next t
        ∧ t.stc.latch = b.level ∧ t.stc.causes = s.stc.causes
        ∧ t.stc.first = (if s.stc.latch = 0 then some ⟨.peerLevel, h.src⟩ else s.stc.first)
        ∧ t.stc.incidents = (if s.stc.incidents.length < 16 then s.stc.incidents else s.stc.incidents.drop 1)
            ++ [(s.elapse dt).incidentNow .peerLevel b.level h.src]
        ∧ t.stc.nextSeq = (s.stc.nextSeq + 1) % 65536
        ∧ (b.level = 2 → t.sau.authority = 0 ∧ t.dsc.command = 0) ∧ t.scu.chain.running = false
        ∧ t.scu.slot1 = s.scu.slot1 ∧ t.scu.slot2 = s.scu.slot2
        ∧ t.ptb = (refreshed h.src ((s.now + dt) / 1000) s.ptb).map (fun p =>
            if p.station = h.src then
              { p with data := some ⟨b.ordinate.or (p.data.bind VehicleData.ordinate), b.lane, b.entry, b.speed,
                  b.motion, b.restraint, b.level, b.held.filter (fun x => !s.scu.holdsScene x), b.claiming⟩ }
            else p)
        ∧ t.sck = s.sck ∧ t.cfg = s.cfg ∧ t.cfs = s.cfs ∧ t.now = s.now + dt)
    ∧ (∀ (dt : Nat) (h : Header) (b : PosBody) (x : Nat) (k : SlotId) (s : State),
      s.Receives ⟨h.src, h.sig, .pos b⟩ → b.level ≤ s.stc.latch → s.SlotsSound → s.StopsSound →
      s.rsq.atEnd = false → (s.scu.slot k).state = .held → (s.scu.slot k).scene = some x → x ∈ b.held →
      h.src < s.cfg.opt.station → Cause.sceneConflict ∉ s.stc.causes →
      ((s.scu.slot (otherSlot k)).state = .free ∨ ((s.scu.slot (otherSlot k)).state = .held
        ∧ ∀ y, (s.scu.slot (otherSlot k)).scene = some y → y ∉ b.held)) →
      ∃ t, exec (.posFrame dt h b) s = .next t
        ∧ t.scu.slot k = ⟨none, .free, none, none, none⟩
        ∧ (t.scu.slot (otherSlot k)).state = (s.scu.slot (otherSlot k)).state
        ∧ (t.scu.slot (otherSlot k)).scene = (s.scu.slot (otherSlot k)).scene
        ∧ t.stc.causes = s.stc.causes ++ [.sceneConflict] ∧ t.stc.latch = max s.stc.latch 1
        ∧ (∃ i, t.stc.incidents.getLast? = some i ∧ i.cause = .local_ .sceneConflict ∧ i.level = 1
            ∧ i.origin = s.cfg.opt.station)
        ∧ (s.stc.asserted = 0 → s.ni.queue = [] → t.ni.queue = [.stop 1 5, .pos true])
        ∧ t.ptb = (refreshed h.src ((s.now + dt) / 1000) s.ptb).map (fun p =>
            if p.station = h.src then
              { p with data := some ⟨b.ordinate.or (p.data.bind VehicleData.ordinate), b.lane, b.entry, b.speed,
                  b.motion, b.restraint, b.level,
                  b.held.filter (fun y => !(s.scu.holdsScene y && decide (y ≠ x))), b.claiming⟩ }
            else p)
        ∧ t.rsq.known = s.rsq.known ∧ t.rsq.entry = s.rsq.entry ∧ t.rsq.distance = s.rsq.distance
        ∧ t.rm.vehicle = s.rm.vehicle ∧ t.cfg = s.cfg ∧ t.cfs = s.cfs ∧ t.now = s.now + dt)

/-- A STOP above the latch raises it (R183, R184): an incident record with the frame's code, level and source, the
first cause at a rise from 0, and the reactions of the drive, the authority, the cues and the motion state. Voices 1 to 3
are stopped and their queues emptied; voice 0 is handed the stop clip where there is one, and is else left as it is
(R178). -/
def Obligations.StopFrameRaisesTheLatch : Prop :=
  ∀ (dt : Nat) (h : Header) (level code : Nat) (s : State), s.Receives ⟨h.src, h.sig, .stop level code⟩ →
    s.DriveSafe → s.stc.latch < level →
    ∃ t, exec (.stopFrame dt h level code) s = .next t
      ∧ t.stc.latch = level ∧ t.stc.causes = s.stc.causes
      ∧ t.stc.first = (if s.stc.latch = 0 then some ⟨.code code, h.src⟩ else s.stc.first)
      ∧ t.stc.incidents = (if s.stc.incidents.length < 16 then s.stc.incidents else s.stc.incidents.drop 1)
          ++ [(s.elapse dt).incidentNow (.code code) level h.src]
      ∧ t.stc.nextSeq = (s.stc.nextSeq + 1) % 65536
      ∧ (level = 2 → t.sau.authority = 0 ∧ t.sau.source = .forced ∧ t.dsc.command = 0
          ∧ (s.dsc.motion = .lost → t.dsc.motion = .lost)
          ∧ (s.dsc.motion ≠ .lost → t.dsc.motion = .braked)
          ∧ (s.dsc.motion ≠ .lost → t.dsc.brakeReleased = false))
      ∧ (level = 1 → t.sau.authority = min s.sau.authority s.dsc.command)
      ∧ (level = 1 → s.dsc.motion = .running → t.dsc.motion = .stopping ∧ t.dsc.brakeReleased = true)
      ∧ (level = 1 → s.dsc.motion = .held → s.dsc.speed = 0 → t.dsc.motion = .held
          ∧ t.dsc.brakeReleased = false)
      ∧ (level = 1 → s.dsc.motion = .held → s.dsc.speed ≠ 0 → t.dsc.motion = .stopping
          ∧ t.dsc.brakeReleased = true)
      ∧ t.scu.chain.running = false ∧ t.scu.slot1 = s.scu.slot1 ∧ t.scu.slot2 = s.scu.slot2
      ∧ t.scu.tracker = s.scu.tracker
      ∧ t.ptb = refreshed h.src ((s.now + dt) / 1000) s.ptb
      ∧ t.rsq.known = s.rsq.known ∧ t.rsq.entry = s.rsq.entry ∧ t.rsq.distance = s.rsq.distance
      ∧ t.rm.vehicle = s.rm.vehicle ∧ t.rm.seats = s.rm.seats
      ∧ (∀ i, 1 ≤ i → i ≤ 3 → Voice.Stopped (s.spe.voice i) (t.spe.voice i))
      ∧ (s.cfg.opt.stopClip = 0 → t.spe.v0.state = s.spe.v0.state ∧ t.spe.v0.current = s.spe.v0.current
          ∧ t.spe.v0.queue = s.spe.v0.queue)
      ∧ (s.cfg.opt.stopClip ≠ 0 →
          let r : PlayRequest := ⟨s.cfg.opt.stopClip, none, 256, 0, 0, .both, .stop⟩
          (s.spe.v0.state = .idle → t.spe.v0.state = .playing ∧ t.spe.v0.current = some r
            ∧ t.spe.v0.position = 0 ∧ t.spe.v0.queue = s.spe.v0.queue)
          ∧ (s.spe.v0.state ≠ .idle → t.spe.v0.state = s.spe.v0.state ∧ t.spe.v0.current = s.spe.v0.current
            ∧ t.spe.v0.position = s.spe.v0.position ∧ t.spe.v0.fade = s.spe.v0.fade
            ∧ t.spe.v0.queue = (if s.spe.v0.queue.length < 4 then s.spe.v0.queue else s.spe.v0.queue.dropLast)
                ++ [r]))
      ∧ t.sck = s.sck ∧ t.cfg = s.cfg ∧ t.cfs = s.cfs ∧ t.now = s.now + dt

/-- An own-signature RESUME sets the latch to the asserted level without the latched causes (R185), where no entry
waits at its end: the first cause follows, no record is written, and at a fall to 0 a vehicle at rest in BRAKED goes
to HELD and a STOPPING one to RUNNING (R90). At a fall to 0 a vehicle in ALARM with every fitted seat LOCKED goes to
SECURE, with the announcement end (R115, R116, R179); in every other case the restraint state and the voices stand. -/
def Obligations.ResumeSetsTheLatchToTheAssertedLevel : Prop :=
  ∀ (dt : Nat) (h : Header) (s : State), s.Receives ⟨h.src, h.sig, .resume⟩ → s.rsq.atEnd = false →
    ∃ t, exec (.resumeFrame dt h) s = .next t
      ∧ t.stc.causes = s.stc.causes.filter (fun c => !c.latched)
      ∧ t.stc.latch = t.stc.asserted
      ∧ t.stc.incidents = s.stc.incidents ∧ t.stc.nextSeq = s.stc.nextSeq
      ∧ (t.stc.latch = 0 → t.stc.first = none)
      ∧ (t.stc.latch ≠ 0 → ∃ c, t.stc.first = some ⟨.local_ c, s.cfg.opt.station⟩
          ∧ t.stc.causes.find? (fun x => x.level = t.stc.latch) = some c)
      ∧ (t.stc.latch < s.stc.latch → t.stc.latch = 0 → s.dsc.motion = .braked → s.dsc.speed = 0 →
          t.dsc.motion = .held ∧ t.dsc.brakeReleased = false)
      ∧ (t.stc.latch < s.stc.latch → t.stc.latch = 0 → s.dsc.motion = .stopping →
          t.dsc.motion = .running ∧ t.dsc.brakeReleased = true ∧ t.dsc.command = s.dsc.command)
      ∧ (t.stc.latch < s.stc.latch → t.stc.latch ≠ 0 → t.dsc = s.dsc)
      ∧ (t.stc.latch < s.stc.latch → t.stc.latch = 0 → s.rm.vehicle = .alarm →
          (∀ k ∈ s.rm.seats, k.state = .notFitted ∨ k.state = .locked) →
          t.rm.vehicle = .secure ∧ Voice.AnnouncementEnded s.spe.v0 t.spe.v0
          ∧ { t.spe with v0 := s.spe.v0 } = s.spe)
      ∧ ((t.stc.latch = s.stc.latch ∨ t.stc.latch ≠ 0 ∨ s.rm.vehicle ≠ .alarm
            ∨ ∃ k ∈ s.rm.seats, k.state ≠ .notFitted ∧ k.state ≠ .locked) →
          t.rm.vehicle = s.rm.vehicle ∧ t.spe = s.spe)
      ∧ t.sau = s.sau ∧ t.ptb = refreshed h.src ((s.now + dt) / 1000) s.ptb
      ∧ t.rsq.entry = s.rsq.entry ∧ t.rsq.distance = s.rsq.distance ∧ t.rm.seats = s.rm.seats
      ∧ t.scu.slot1 = s.scu.slot1 ∧ t.scu.slot2 = s.scu.slot2
      ∧ t.sck = s.sck ∧ t.cfg = s.cfg ∧ t.cfs = s.cfs ∧ t.now = s.now + dt

/-- A CLAIM of the scene that a slot is claiming, from a lower-numbered vehicle, sends the slot to WAITING on it
(R127), and its pin is set on the sender's record (R57). -/
def Obligations.LowerClaimMakesTheSlotWait : Prop :=
  ∀ (dt : Nat) (h : Header) (x : Nat) (k : SlotId) (s : State), s.Receives ⟨h.src, h.sig, .claim x⟩ →
    s.NothingDue → s.SlotsSound → (s.scu.slot k).state = .claiming → (s.scu.slot k).scene = some x →
    h.src < s.cfg.opt.station → (∀ p ∈ s.ptb, p.carries (.slot k) = false) →
    ∃ t, exec (.claimFrame dt h x) s = .next t
      ∧ t.scu.slot k = ⟨some x, .waiting, none, some h.src, none⟩
      ∧ (t.scu.slot (otherSlot k)).state = (s.scu.slot (otherSlot k)).state
      ∧ (t.scu.slot (otherSlot k)).scene = (s.scu.slot (otherSlot k)).scene
      ∧ t.ptb = (refreshed h.src ((s.now + dt) / 1000) s.ptb).map
          (fun p => p.setPin (.slot k) (decide (p.station = h.src)))
      ∧ t.scu.chain = s.scu.chain ∧ t.scu.tracker = s.scu.tracker ∧ t.scu.counters = s.scu.counters
      ∧ t.dsc = s.dsc ∧ t.sau = s.sau ∧ t.rsq = s.rsq ∧ t.rm = s.rm ∧ t.spe = s.spe ∧ t.stc = s.stc
      ∧ t.cfg = s.cfg ∧ t.cfs = s.cfs ∧ t.now = s.now + dt

/-- A FREE of the scene a slot waits for, from its blocking station, where no other record blocks the scene, takes
the slot to CLAIMING with its window started and a CLAIM requested (R128, R126). -/
def Obligations.FreeFromTheBlockerReclaims : Prop :=
  ∀ (dt : Nat) (h : Header) (x : Nat) (k : SlotId) (s : State), s.Receives ⟨h.src, h.sig, .free x⟩ →
    s.NothingDue → s.SlotsSound → (s.scu.slot k).state = .waiting → (s.scu.slot k).scene = some x →
    (s.scu.slot k).blocking = some h.src → s.claimCheck (some h.src) x = none → s.ni.queue.length < 4 →
    (s.scu.slot (otherSlot k)).state ≠ .waiting →
    ∃ t, exec (.freeFrame dt h x) s = .next t
      ∧ (t.scu.slot k).state = .claiming ∧ (t.scu.slot k).scene = some x
      ∧ (t.scu.slot k).window = some ((s.now + dt) / 1000 + s.cfg.opt.claimWindow)
      ∧ (t.scu.slot k).blocking = none
      ∧ .claim x ∈ t.ni.queue
      ∧ (∀ p ∈ t.ptb, p.carries (.slot k) = false)
      ∧ t.dsc = s.dsc ∧ t.sau = s.sau ∧ t.rsq = s.rsq ∧ t.rm = s.rm ∧ t.spe = s.spe
      ∧ t.cfg = s.cfg ∧ t.cfs = s.cfs ∧ t.now = s.now + dt

/-- A CUEST from the station of its scene frees the SENT record of its pair and counts its result; a DONE plays the
record's linked sound, and the chain that watches the record learns the outcome (R140, R142, R143, R136). Here no
chain runs. A CUE, which is the other half of the exchange and meant for fixed stations, is a hearing alone (R33). -/
def Obligations.CuestEndsASentCue : Prop :=
  (∀ (dt : Nat) (h : Header) (b : CuestBody) (r : Track) (s : State), s.Receives ⟨h.src, h.sig, .cuest b⟩ →
    s.cfg.station b.scene = h.src → s.scu.recordOf b.scene b.cue = some r → r.state = .sent →
    s.scu.chain.running = false →
    ∃ t, exec (.cuestFrame dt h b) s = .next t
      ∧ t.scu.tracker = s.scu.tracker.filter (fun q => q.ref ≠ r.ref)
      ∧ t.scu.counters = (match b.result with
          | .done => { s.scu.counters with done := min 65535 (s.scu.counters.done + 1) }
          | .busy => { s.scu.counters with busy := min 65535 (s.scu.counters.busy + 1) }
          | .refused => { s.scu.counters with refused := min 65535 (s.scu.counters.refused + 1) }
          | .fault => { s.scu.counters with fault := min 65535 (s.scu.counters.fault + 1) })
      ∧ (b.result = .done → ∀ l, r.link = some l →
          t.spe = s.spe.play s.cfg (s.elapse dt).showTime l.voice
            ⟨l.clip, b.start, l.gain, 0, 0, .both, .cue⟩)
      ∧ (b.result ≠ .done ∨ r.link = none → t.spe = s.spe)
      ∧ t.scu.slot1 = s.scu.slot1 ∧ t.scu.slot2 = s.scu.slot2 ∧ t.scu.nextRef = s.scu.nextRef
      ∧ t.ptb = refreshed h.src ((s.now + dt) / 1000) s.ptb
      ∧ t.dsc = s.dsc ∧ t.sau = s.sau ∧ t.rsq = s.rsq ∧ t.rm = s.rm ∧ t.sck = s.sck ∧ t.stc = s.stc
      ∧ t.cfg = s.cfg ∧ t.cfs = s.cfs ∧ t.now = s.now + dt)
    ∧ (∀ (dt : Nat) (h : Header) (b : CueBody) (s : State), s.Receives ⟨h.src, h.sig, .cue b⟩ →
      exec (.cueFrame dt h b) s = .next (s.heard dt h.src))

/-- A SYNC from the reference (R154 to R158). With the first SYNC awaited, or an error beyond the step threshold, the
clock steps: it reads the frame's time plus the latency at the reception. Otherwise the clock moves by half the
error and the trim by the error × 200 / G, clamped. The record keeps the moment as its last SYNC time (R54). A SYNC from
another station is selected on first (R149, R150): where its source is the priority-1 candidate, or there is no reference
and no priority-1 candidate and no live station is lower, the source becomes the reference and its SYNC, the first,
steps the clock (R151, R155). With another reference standing and the source not the priority-1 candidate the SYNC is a
hearing alone; with no reference and another station chosen, that station becomes the reference and the SYNC is not
applied (R151, R154). -/
def Obligations.SyncSteersTheClock : Prop :=
  (∀ (dt : Nat) (h : Header) (time scene : Nat) (s : State), s.Receives ⟨h.src, h.sig, .sync time scene⟩ →
    s.sck.reference = some h.src →
    ∃ t, exec (.syncFrame dt h time scene) s = .next t
      ∧ (let e := syncError time s.cfg.opt.syncLatency (s.elapse dt).showTime
         t.sck.lastError = some e ∧ t.sck.lastScene = some scene ∧ t.sck.lastSync = some ((s.now + dt) / 1000)
         ∧ t.sck.reference = some h.src
         ∧ ((s.sck.awaited = true ∨ s.cfg.opt.stepThreshold < e.natAbs) → s.sck.running = true →
             t.showTime = (time + s.cfg.opt.syncLatency) % 4294967296 ∧ t.sck.state = .acquire
             ∧ t.sck.awaited = false ∧ t.sck.inCount = 0 ∧ t.sck.outCount = 0 ∧ t.sck.trim = s.sck.trim)
         ∧ (s.sck.awaited = false → e.natAbs ≤ s.cfg.opt.stepThreshold → s.sck.running = true →
             (t.showTime : Int) = ((s.elapse dt).showTime + e.tdiv 2) % 4294967296
             ∧ t.sck.trim = max (-2048) (min 2047
                 (s.sck.trim + (e * 200).tdiv (if s.sck.state = .locked then 32 else 8)))
             ∧ (s.sck.state ≠ .locked → e.natAbs ≤ s.cfg.opt.lockWindow → s.sck.inCount + 1 < 8 →
                 t.sck.inCount = s.sck.inCount + 1 ∧ t.sck.state = s.sck.state)
             ∧ (s.sck.state ≠ .locked → e.natAbs ≤ s.cfg.opt.lockWindow → 8 ≤ s.sck.inCount + 1 →
                 t.sck.state = .locked ∧ t.sck.outCount = 0)
             ∧ (s.sck.state = .locked → s.cfg.opt.lockWindow < e.natAbs → 3 ≤ s.sck.outCount + 1 →
                 t.sck.state = .acquire ∧ t.sck.inCount = 0 ∧ t.sck.outCount = 0)))
      ∧ t.ptb = (refreshed h.src ((s.now + dt) / 1000) s.ptb).map
          (fun p => if p.station = h.src then { p with lastSync := some ((s.now + dt) / 1000) } else p)
      ∧ t.dsc = s.dsc ∧ t.sau = s.sau ∧ t.rsq = s.rsq ∧ t.rm = s.rm ∧ t.scu = s.scu ∧ t.spe = s.spe
      ∧ t.stc = s.stc ∧ t.cfg = s.cfg ∧ t.cfs = s.cfs ∧ t.now = s.now + dt)
    ∧ (∀ (dt : Nat) (h : Header) (time scene : Nat) (s : State), s.Receives ⟨h.src, h.sig, .sync time scene⟩ →
      s.PeersSound → s.sck.reference ≠ some h.src →
      let now := s.now + dt
      let unheeded : State := { s.heard dt h.src with
        choices := s.choices + 1
        ptb := (refreshed h.src (now / 1000) s.ptb).map
          (fun p => if p.station = h.src then { p with lastSync := some (now / 1000) } else p) }
      let switched (c priority m : Nat) : State := { unheeded with
        sck := { s.sck with
          reference := some c, priority := some priority, lastSync := some m, state := .acquire
          awaited := true, inCount := 0, outCount := 0 } }
      let stepped (priority : Nat) (t : State) : Prop :=
        t.showTime = (time + s.cfg.opt.syncLatency) % 4294967296 ∧ t.sck.trim = s.sck.trim
          ∧ t.sck.state = .acquire ∧ t.sck.reference = some h.src ∧ t.sck.priority = some priority
          ∧ t.sck.lastSync = some (now / 1000) ∧ t.sck.awaited = false ∧ t.sck.inCount = 0 ∧ t.sck.outCount = 0
          ∧ t.sck.lastError = some (syncError time s.cfg.opt.syncLatency (s.elapse dt).showTime)
          ∧ t.sck.lastScene = some scene ∧ t.sck.running = s.sck.running
          ∧ { t with sck := s.sck } = unheeded
      ∃ t, exec (.syncFrame dt h time scene) s = .next t
        ∧ (s.FirstHeld now h.src h.src → stepped 1 t)
        ∧ (s.sck.reference ≠ none → ¬ s.FirstHeld now h.src h.src → t = unheeded)
        ∧ (s.sck.reference = none →
          (∀ c m, c ≠ h.src → s.FirstHeld now h.src c → s.LastSync now c m → t = switched c 1 m)
          ∧ ((∀ c, ¬ s.FirstHeld now h.src c) →
            ((∀ c m, s.LastSync now c m → h.src ≤ c) → stepped 2 t)
            ∧ (∀ c m, c < h.src → s.LastSync now c m → (∀ c' n, s.LastSync now c' n → c ≤ c') →
              t = switched c 2 m))))

/-! ### Grants, relocation and removal -/

/-- An UNLOCK that meets the conditions of R117 releases the vehicle: the release output follows (R120), RESTRAINT is
withdrawn from ALARM, FAULT seats with both inputs disengaged go to OPEN (R110), and on leaving SECURE the authority
and the command are 0 (R111). The latch stays. An UNLOCK that fails a condition, or finds the vehicle RELEASED, is a
hearing alone. -/
def Obligations.UnlockReleasesTheVehicle : Prop :=
  (∀ (dt : Nat) (h : Header) (s : State), s.Receives ⟨h.src, h.sig, .grant s.cfg.opt.station .unlock⟩ →
    s.entry.platform = some h.src → (s.dsc.motion = .held ∨ s.dsc.motion = .braked) → s.dsc.speed = 0 →
    s.rm.vehicle ≠ .released →
    ∃ t, exec (.grantUnlock dt h s.cfg.opt.station) s = .next t
      ∧ t.rm.vehicle = .released ∧ t.rm.release = true
      ∧ t.rm.seats = s.rm.seats.map (fun k =>
          if k.state = .fault ∧ k.lk = false ∧ k.bd = false then
            { k with state := .opened, confirm := none, contra := none }
          else k)
      ∧ (s.rm.vehicle = .alarm → t.stc.causes = s.stc.causes.filter (· ≠ .restraint))
      ∧ (s.rm.vehicle ≠ .alarm → t.stc = s.stc ∧ t.spe = s.spe)
      ∧ t.stc.latch = s.stc.latch ∧ t.stc.incidents = s.stc.incidents
      ∧ (s.rm.vehicle = .secure → t.sau.authority = 0 ∧ t.dsc.command = 0)
      ∧ (s.rm.vehicle ≠ .secure → t.sau = s.sau ∧ t.dsc = s.dsc)
      ∧ t.dsc.motion = s.dsc.motion ∧ t.rsq = s.rsq ∧ t.scu = s.scu ∧ t.sck = s.sck
      ∧ t.ptb = refreshed h.src ((s.now + dt) / 1000) s.ptb ∧ t.cfg = s.cfg ∧ t.cfs = s.cfs
      ∧ t.now = s.now + dt)
    ∧ (∀ (dt : Nat) (h : Header) (s : State), s.Receives ⟨h.src, h.sig, .grant s.cfg.opt.station .unlock⟩ →
      (s.entry.platform ≠ some h.src ∨ (s.dsc.motion ≠ .held ∧ s.dsc.motion ≠ .braked) ∨ s.dsc.speed ≠ 0
        ∨ s.rm.vehicle = .released) →
      exec (.grantUnlock dt h s.cfg.opt.station) s =
        .next { s.heard dt h.src with choices := s.choices + 1 })

/-- A LOCK in RELEASED takes the vehicle to CHECKING, and straight on to SECURE with all fitted seats LOCKED or to
FAULT with one in FAULT (R118, R112); the release output becomes inactive. In any other state it is a hearing
alone. -/
def Obligations.LockChecksTheSeats : Prop :=
  (∀ (dt : Nat) (h : Header) (s : State), s.Receives ⟨h.src, h.sig, .grant s.cfg.opt.station .lock⟩ →
    s.rm.vehicle = .released →
    ∃ t, exec (.grantLock dt h s.cfg.opt.station) s = .next t
      ∧ t.rm.vehicle = (if (∀ k ∈ s.rm.seats, k.state = .notFitted ∨ k.state = .locked) then .secure
          else if (∃ k ∈ s.rm.seats, k.state = .fault) then .fault else .checking)
      ∧ t.rm.release = false ∧ t.rm.seats = s.rm.seats
      ∧ t.dsc = s.dsc ∧ t.sau = s.sau ∧ t.rsq = s.rsq ∧ t.scu = s.scu ∧ t.sck = s.sck ∧ t.spe = s.spe
      ∧ t.stc = s.stc ∧ t.ptb = refreshed h.src ((s.now + dt) / 1000) s.ptb ∧ t.cfg = s.cfg ∧ t.cfs = s.cfs
      ∧ t.now = s.now + dt)
    ∧ (∀ (dt : Nat) (h : Header) (s : State), s.Receives ⟨h.src, h.sig, .grant s.cfg.opt.station .lock⟩ →
      s.rm.vehicle ≠ .released →
      exec (.grantLock dt h s.cfg.opt.station) s = .next { s.heard dt h.src with choices := s.choices + 1 })

/-- Releases of a hold. A DISPATCH that meets the conditions of R119 sets the hold-released flag (R17) and nothing else
where the entry's end has not been reached (R20); one that fails a condition, or finds the flag set, is a hearing
alone. The dwell timer's expiry sets the flag too (R19). At the entry's end the release advances at once (R20, R13),
here a DISPATCH with less than 100 mm of creep: the successor is entered at the creep counted since the end, its
effects are out (R15) and its cap is in force (R76). -/
def Obligations.ReleasesSetTheFlagAndAdvanceAtTheEnd : Prop :=
  (∀ (dt : Nat) (h : Header) (s : State), s.Receives ⟨h.src, h.sig, .grant s.cfg.opt.station .dispatch⟩ →
    s.entry.platform = some h.src → s.entry.hold = .dispatch → s.dsc.motion = .held → s.rm.vehicle = .secure →
    s.rsq.released = false → s.rsq.atEnd = false →
    exec (.grantDispatch dt h s.cfg.opt.station) s = .next { s.heard dt h.src with
      choices := s.choices + 1, rsq := { s.rsq with released := true } })
    ∧ (∀ (dt : Nat) (h : Header) (s : State), s.Receives ⟨h.src, h.sig, .grant s.cfg.opt.station .dispatch⟩ →
      (s.entry.platform ≠ some h.src ∨ s.entry.hold ≠ .dispatch ∨ s.dsc.motion ≠ .held ∨ s.rm.vehicle ≠ .secure
        ∨ s.rsq.released = true) →
      exec (.grantDispatch dt h s.cfg.opt.station) s =
        .next { s.heard dt h.src with choices := s.choices + 1 })
    ∧ (∀ (dt d : Nat) (s : State), s.rsq.dwell = some d → s.rsq.atEnd = false →
      exec (.dwellTimerExpiry dt) s = .next { s with
        now := max (s.now + dt) (d * 1000), rsq := { s.rsq with released := true, dwell := none } })
    ∧ (∀ (dt : Nat) (h : Header) (s : State), s.Receives ⟨h.src, h.sig, .grant s.cfg.opt.station .dispatch⟩ →
      s.entry.platform = some h.src → s.entry.hold = .dispatch → s.dsc.motion = .held → s.rm.vehicle = .secure →
      s.rsq.released = false → s.rsq.atEnd = true → s.rsq.known = true →
      s.entry.length * 1000 ≤ s.rsq.distance → s.rsq.distance < s.entry.length * 1000 + 100000 →
      100 ≤ (s.cfg.entry (s.cfg.successor s.rsq.entry)).length →
      ∃ t, exec (.grantDispatch dt h s.cfg.opt.station) s = .next t
        ∧ t.rsq.known = true ∧ t.rsq.entry = s.cfg.successor s.rsq.entry
        ∧ t.rsq.distance = s.rsq.distance - s.entry.length * 1000
        ∧ t.rsq.atEnd = false
        ∧ t.rsq.lastMarker = (if s.entry.marker = 0 then none else some s.entry.marker)
        ∧ t.rsq.effects = (s.cfg.entry (s.cfg.successor s.rsq.entry)).effects
        ∧ t.sau.authority ≤ (s.cfg.entry (s.cfg.successor s.rsq.entry)).cap
        ∧ t.dsc.channel = (s.cfg.entry (s.cfg.successor s.rsq.entry)).channel
        ∧ t.cfg = s.cfg ∧ t.cfs = s.cfs ∧ t.now = s.now + dt)

/-- A park request accepted in HELD or LOST parks the part (R198), whether it comes as a GRANT PARK or on the service
link; a PARK command in any other state is refused with STATE, and a GRANT PARK is then a hearing alone. -/
def Obligations.ParkRequestsParkThePart : Prop :=
  (∀ (dt : Nat) (h : Header) (s : State), s.Receives ⟨h.src, h.sig, .grant s.cfg.opt.station .park⟩ →
    (s.dsc.motion = .held ∨ s.dsc.motion = .lost) →
    ∃ t, exec (.grantPark dt h s.cfg.opt.station) s = .next t
      ∧ s.ParkedFrom t ∧ t.cfg = s.cfg ∧ t.cfs = s.cfs ∧ t.now = s.now + dt)
    ∧ (∀ (dt : Nat) (s : State), s.active = true → s.cfs.reply = none →
      (s.dsc.motion = .held ∨ s.dsc.motion = .lost) →
      ∃ t, exec (.park dt) s = .next t
        ∧ s.ParkedFrom t ∧ t.cfg = s.cfg ∧ t.cfs = { s.cfs with reply := some .ok } ∧ t.now = s.now + dt)
    ∧ (∀ (dt : Nat) (s : State), s.powered = true → s.cfs.reply = none →
      (s.cfs.load ≠ .ready ∨ (s.dsc.motion ≠ .held ∧ s.dsc.motion ≠ .lost)) →
      exec (.park dt) s = .next { s with
        now := s.now + dt, cfs := { s.cfs with reply := some (.refused .state) } })
    ∧ (∀ (dt : Nat) (h : Header) (s : State), s.Receives ⟨h.src, h.sig, .grant s.cfg.opt.station .park⟩ →
      s.dsc.motion ≠ .held → s.dsc.motion ≠ .lost →
      exec (.grantPark dt h s.cfg.opt.station) s = .next { s.heard dt h.src with choices := s.choices + 1 })

/-- A FIX short of the end of an entry of the route makes the position KNOWN there (R22, R91): POSITION is withdrawn,
the entry's effects and guide settings are in force (R14), and the motion state leaves LOST, to BRAKED where the
latch stands at 2. A FIX that fails a condition, or finds the position KNOWN, is a hearing alone. The entering hands out
the entry's actions (R14). A PLAY starts on an IDLE voice, joins the queue of a busy one and leaves no trace at a full
queue (R163); a STOP empties the queue and begins a fade-out in PLAYING, from where a fade-in had come, and ends a WAITING
request, a FLUSH empties the queue alone (R170, R171). A CLAIM takes the FREE slot, slot 1 first: to CLAIMING with a
CLAIM frame and its window where no record blocks the scene, to WAITING on the lowest-numbered blocking station
otherwise; a scene that a slot has is left as it is, and with no slot FREE SCENE-OVERFLOW is raised (R125, R126). A FREE
of a HELD slot requests a FREE frame, of a CLAIMING one none (R130), as the queue shows where no chain starts. A cue chain start abandons the running chain and
makes the word pending at the FIX distance (R133), here an AT-DISTANCE word that is not met. -/
def Obligations.FixRelocatesALostVehicle : Prop :=
  (∀ (dt : Nat) (h : Header) (e d : Nat) (s : State), s.TakesFix h e d →
    ∃ t, exec (.fixFrame dt h s.cfg.opt.station e d) s = .next t
      ∧ t.rsq.known = true ∧ t.rsq.entry = e ∧ t.rsq.distance = d * 1000 ∧ t.rsq.lastMarker = none
      ∧ t.rsq.effects = (s.cfg.entry e).effects ∧ t.rsq.atEnd = false
      ∧ t.dsc.channel = (s.cfg.entry e).channel ∧ t.dsc.gain = (s.cfg.entry e).gain
      ∧ t.dsc.lossMode = (s.cfg.entry e).lossMode
      ∧ .position ∉ t.stc.causes
      ∧ t.dsc.motion ≠ .lost ∧ (s.stc.latch = 2 → t.dsc.motion = .braked ∧ t.dsc.brakeReleased = false)
      ∧ t.cfg = s.cfg ∧ t.cfs = s.cfs ∧ t.now = s.now + dt)
    ∧ (∀ (dt : Nat) (h : Header) (e d : Nat) (s : State),
      s.Receives ⟨h.src, h.sig, .fix s.cfg.opt.station e d⟩ →
      (s.rsq.known = true ∨ s.cfg.route.length ≤ e ∨ s.cfg.skips e = true ∨ (s.cfg.entry e).length < d) →
      exec (.fixFrame dt h s.cfg.opt.station e d) s =
        .next { s.heard dt h.src with choices := s.choices + 1 })
    ∧ (∀ (dt : Nat) (h : Header) (e d : Nat) (s : State), s.TakesFix h e d →
      ∃ t, exec (.fixFrame dt h s.cfg.opt.station e d) s = .next t
        ∧ ((s.cfg.entry e).scene = none → ∀ clip v gain loops fade mask,
          (s.cfg.entry e).sound = some (.play clip v gain loops fade mask) → 1 ≤ v → v ≤ 3 →
          let r : PlayRequest := ⟨clip, none, gain, loops, fade, mask, .route⟩
          ((s.spe.voice v).state = .idle → (t.spe.voice v).state = .playing ∧ (t.spe.voice v).current = some r
            ∧ (t.spe.voice v).position = 0 ∧ (t.spe.voice v).loops = loops
            ∧ (t.spe.voice v).fade = some ⟨false, 0, 0⟩ ∧ (t.spe.voice v).queue = (s.spe.voice v).queue)
          ∧ ((s.spe.voice v).state ≠ .idle → (t.spe.voice v).state = (s.spe.voice v).state
            ∧ (t.spe.voice v).current = (s.spe.voice v).current
            ∧ (t.spe.voice v).position = (s.spe.voice v).position
            ∧ (t.spe.voice v).refusals = (s.spe.voice v).refusals
            ∧ (t.spe.voice v).queue = if (s.spe.voice v).queue.length < 4 then (s.spe.voice v).queue ++ [r]
                else (s.spe.voice v).queue)
          ∧ (∀ i, i < 4 → i ≠ v → (t.spe.voice i).state = (s.spe.voice i).state
            ∧ (t.spe.voice i).current = (s.spe.voice i).current ∧ (t.spe.voice i).queue = (s.spe.voice i).queue
            ∧ (t.spe.voice i).position = (s.spe.voice i).position ∧ (t.spe.voice i).fade = (s.spe.voice i).fade))
        ∧ ((s.cfg.entry e).scene = none → ∀ v, (s.cfg.entry e).sound = some (.stop v) → 1 ≤ v → v ≤ 3 →
          Voice.Stopped (s.spe.voice v) (t.spe.voice v)
          ∧ (∀ i, i < 4 → i ≠ v → (t.spe.voice i).state = (s.spe.voice i).state
            ∧ (t.spe.voice i).current = (s.spe.voice i).current ∧ (t.spe.voice i).queue = (s.spe.voice i).queue
            ∧ (t.spe.voice i).position = (s.spe.voice i).position ∧ (t.spe.voice i).fade = (s.spe.voice i).fade))
        ∧ ((s.cfg.entry e).scene = none → ∀ v, (s.cfg.entry e).sound = some (.flush v) → 1 ≤ v → v ≤ 3 →
          t.spe = s.spe.setVoice v { s.spe.voice v with queue := [] })
        ∧ ((s.cfg.entry e).scene = none → ∀ i a, (s.cfg.entry e).chain = some i →
          (s.cfg.word i).trigger = .atDistance a → d < a →
          t.scu.chain = ⟨true, some i, .trigger, d * 1000, none, none, .none,
              if s.scu.chain.running = true then .abandoned else s.scu.chain.lastEnd⟩
          ∧ t.rsq.chainStart = some i ∧ t.scu.tracker = s.scu.tracker
          ∧ (s.scu.chain.running = false → t.scu.counters = s.scu.counters)
          ∧ (∀ p, s.scu.chain.running = true → s.scu.chain.pending = some p → s.cfg.nextWord p = none →
              t.scu.counters = { s.scu.counters with abandoned := min 65535 (s.scu.counters.abandoned + 1) })))
    ∧ (∀ (dt : Nat) (h : Header) (e d x : Nat) (k : SlotId) (s : State), s.TakesFix h e d →
      s.SlotsSound → (s.cfg.entry e).scene = some (.claim x) →
      s.scu.slot1.scene ≠ some x → s.scu.slot2.scene ≠ some x →
      (k = .one ∧ s.scu.slot1.state = .free ∨ k = .two ∧ s.scu.slot1.state ≠ .free ∧ s.scu.slot2.state = .free) →
      s.ni.queue.length < 5 → (∀ p ∈ s.ptb, p.carries (.slot k) = false) →
      let blocks (p : Peer) : Prop := p.isVehicle = true ∧ ∃ v, p.data = some v
        ∧ (x ∈ v.held ∨ (v.claiming = some x ∧ p.station < s.cfg.opt.station))
      ∃ t, exec (.fixFrame dt h s.cfg.opt.station e d) s = .next t
        ∧ ((∀ p ∈ s.ptb, ¬ blocks p) →
          (t.scu.slot k).state = .claiming ∧ (t.scu.slot k).scene = some x
          ∧ (t.scu.slot k).window = some ((s.now + dt) / 1000 + s.cfg.opt.claimWindow)
          ∧ (t.scu.slot k).blocking = none
          ∧ (t.scu.slot k).order = some (if (s.scu.slot (otherSlot k)).state = .claiming then .second else .first)
          ∧ .claim x ∈ t.ni.queue)
        ∧ (∀ p ∈ s.ptb, blocks p → (∀ q ∈ s.ptb, blocks q → p.station ≤ q.station) →
          t.scu.slot k = ⟨some x, .waiting, none, some p.station, none⟩
          ∧ t.ptb = (refreshed h.src ((s.now + dt) / 1000) s.ptb).map
              (fun q => q.setPin (.slot k) (decide (q.station = p.station))))
        ∧ t.scu.slot (otherSlot k) = s.scu.slot (otherSlot k))
    ∧ (∀ (dt : Nat) (h : Header) (e d x : Nat) (s : State), s.TakesFix h e d →
      s.StopsSound → (s.cfg.entry e).scene = some (.claim x) →
      ∃ t, exec (.fixFrame dt h s.cfg.opt.station e d) s = .next t
        ∧ (s.scu.slot1.scene = some x ∨ s.scu.slot2.scene = some x →
          t.scu.slot1 = s.scu.slot1 ∧ t.scu.slot2 = s.scu.slot2)
        ∧ (s.scu.slot1.scene ≠ some x → s.scu.slot2.scene ≠ some x → s.scu.slot1.state ≠ .free →
          s.scu.slot2.state ≠ .free → t.scu.slot1 = s.scu.slot1 ∧ t.scu.slot2 = s.scu.slot2
            ∧ .sceneOverflow ∈ t.stc.causes ∧ t.stc.latch = max s.stc.latch 1))
    ∧ (∀ (dt : Nat) (h : Header) (e d x : Nat) (k : SlotId) (s : State), s.TakesFix h e d →
      s.SlotsSound → (s.cfg.entry e).scene = some (.free x) → (s.scu.slot k).scene = some x →
      ((s.scu.slot k).state = .held ∨ (s.scu.slot k).state = .claiming) → s.ni.queue.length < 5 →
      ∃ t, exec (.fixFrame dt h s.cfg.opt.station e d) s = .next t
        ∧ t.scu.slot k = ⟨none, .free, none, none, none⟩
        ∧ ((s.scu.slot k).state = .held → .free x ∈ t.ni.queue)
        ∧ ((s.scu.slot k).state = .claiming → (s.cfg.entry e).chain = none → s.ni.queue = [] →
            t.ni.queue = [.pos true])
        ∧ (t.scu.slot (otherSlot k)).state = (s.scu.slot (otherSlot k)).state
        ∧ (t.scu.slot (otherSlot k)).scene = (s.scu.slot (otherSlot k)).scene)

/-- A CLEAR removes the record it names (R59), whatever its pins, freshness and mark; where that record pins no slot,
shows no scene and is no FOREIGN vehicle record, nothing else follows (R60). -/
def Obligations.ClearRemovesTheRecord : Prop :=
  (∀ (dt : Nat) (h : Header) (x : Nat) (s : State), s.Receives ⟨h.src, h.sig, .clear x⟩ →
    ∃ t, exec (.clearFrame dt h x) s = .next t ∧ ∀ p ∈ t.ptb, p.station ≠ x)
    ∧ (∀ (dt : Nat) (h : Header) (x : Nat) (s : State), s.Receives ⟨h.src, h.sig, .clear x⟩ →
      (∀ p ∈ s.ptb, p.station = x → p.pin1 = false ∧ p.pin2 = false ∧ p.showsScene = false
        ∧ p.foreignVehicle = false) →
      exec (.clearFrame dt h x) s = .next { s.heard dt h.src with
        ptb := (refreshed h.src ((s.now + dt) / 1000) s.ptb).filter fun p => p.station ≠ x })

/-! ### The channel and the timers of the net -/

/-- Channel access. The head of the queue is sent when the idle time reaches the gap of its class (R34, R26): its bytes
carry the own station and signature (R27), a POS the content of that moment (R39); a CUE's record becomes SENT (R38,
R139). CARRIER_BUSY discards the idle time measured (R35) and changes nothing else. -/
def Obligations.HeadIsSentAtItsGap : Prop :=
  (∀ (dt : Nat) (f : Waiting) (rest : List Waiting) (start : Nat) (s : State),
      s.ni.queue = f :: rest → s.ni.idleFrom = some start →
      ∃ t, exec (.frameTransmit dt) s = .next t
        ∧ t.now = max (s.now + dt) (start + match f with
            | .stop _ _ => 100
            | .claim _ => 300 + s.cfg.opt.station % 16 * 25
            | .free _ => 300 + s.cfg.opt.station % 16 * 25
            | .cue _ _ => 300 + s.cfg.opt.station % 16 * 25
            | .pos true => 300 + s.cfg.opt.station % 16 * 25
            | .pos false => 800 + s.ni.q * 25)
        ∧ t.ni = { s.ni with
            queue := rest, carrierBusy := true, idleFrom := none
            sending := some (encodeFrame ⟨s.cfg.opt.station, s.cfg.opt.signature, match f with
              | .stop level code => .stop level code
              | .claim x => .claim x
              | .free x => .free x
              | .cue b _ => .cue b
              | .pos _ => .pos ⟨s.ordinate, s.entry.lane, s.rsq.entry, s.dsc.speed, s.dsc.motion, s.rm.vehicle,
                  s.stc.asserted, s.scu.heldScenes, s.scu.claimingScene, s.sck.state⟩⟩) }
        ∧ (∀ b ref, f = .cue b ref → t.scu.tracker = s.scu.tracker.map fun q =>
            if q.ref = ref ∧ q.state = .queued then
              { q with state := .sent, sentAt := some (t.now / 1000), timer := some (t.now / 1000 + s.cfg.opt.cueTimeout) }
            else q)
        ∧ ((∀ b ref, f ≠ .cue b ref) → t.scu = s.scu)
        ∧ t.scu.slot1 = s.scu.slot1 ∧ t.scu.slot2 = s.scu.slot2 ∧ t.scu.chain = s.scu.chain
        ∧ t.ptb = s.ptb ∧ t.dsc = s.dsc ∧ t.sau = s.sau ∧ t.rsq = s.rsq ∧ t.rm = s.rm ∧ t.sck = s.sck
        ∧ t.spe = s.spe ∧ t.stc = s.stc ∧ t.cfg = s.cfg ∧ t.cfs = s.cfs ∧ t.pending = s.pending)
    ∧ (∀ (dt : Nat) (s : State), s.powered = true →
      exec (.carrierBusy dt) s = .next { s with
        now := s.now + dt, ni := { s.ni with carrierBusy := true, idleFrom := none } })

/-- The timers of the NI. At its expiry the POS period timer makes a class P request and is restarted (R40): with no POS
standing and room in the queue the POS joins its end, and a standing POS keeps its place. At its expiry the
net-silence timer raises NET-SILENT, level 1 (R41, R182): the timer is not restarted, the cause and its record are
appended, and the latch stands at 1 or above. -/
def Obligations.NetTimersRequestAPosAndRaiseTheSilence : Prop :=
  (∀ (dt d : Nat) (s : State), s.ni.posTimer = some d →
      ∃ t, exec (.posPeriodTimerExpiry dt) s = .next t
        ∧ t.now = max (s.now + dt) (d * 1000)
        ∧ t.ni.posTimer = some (t.now / 1000 + s.cfg.opt.posPeriod)
        ∧ ((∀ w ∈ s.ni.queue, w.isPos = false) → s.ni.queue.length < 6 → t.ni.queue = s.ni.queue ++ [.pos false])
        ∧ ((∃ w ∈ s.ni.queue, w.isPos = true) → t.ni.queue = s.ni.queue)
        ∧ t.ni.silence = s.ni.silence ∧ t.ni.sending = s.ni.sending ∧ t.ni.carrierBusy = s.ni.carrierBusy
        ∧ { t with now := s.now, ni := s.ni } = s)
    ∧ (∀ (dt d : Nat) (s : State), s.active = true → s.ni.silence = some d → s.StopsSound →
      Cause.netSilent ∉ s.stc.causes →
      ∃ t, exec (.netSilenceTimerExpiry dt) s = .next t
        ∧ t.now = max (s.now + dt) (d * 1000) ∧ t.ni.silence = none
        ∧ t.stc.causes = s.stc.causes ++ [.netSilent]
        ∧ t.stc.latch = max s.stc.latch 1
        ∧ t.stc.nextSeq = (s.stc.nextSeq + 1) % 65536
        ∧ (∃ i, t.stc.incidents.getLast? = some i ∧ i.seq = s.stc.nextSeq ∧ i.cause = .local_ .netSilent
            ∧ i.level = 1 ∧ i.origin = s.cfg.opt.station ∧ i.speed = s.dsc.speed)
        ∧ (s.stc.asserted = 0 → s.ni.queue = [] → t.ni.queue = [.stop 1 7, .pos true])
        ∧ (s.stc.asserted ≠ 0 → { t with now := s.now, stc := s.stc, ni := s.ni } = s)
        ∧ t.ptb = s.ptb ∧ t.sck = s.sck ∧ t.rm.vehicle = s.rm.vehicle ∧ t.rm.seats = s.rm.seats
        ∧ t.scu.slot1 = s.scu.slot1 ∧ t.scu.slot2 = s.scu.slot2 ∧ t.cfg = s.cfg ∧ t.cfs = s.cfs)

/-- When the stale time passes, the record becomes STALE and keeps its other fields (R55); when the drop time passes,
an unpinned record is removed and a pinned one kept (R56). Where the
record shows no scene and is no FOREIGN vehicle record, its drop changes nothing else. -/
def Obligations.AgeingRecordsGoStaleAndDrop : Prop :=
  (∀ (dt st : Nat) (p : Peer) (s : State), s.peer st = some p →
    (p.pinned = true ∨ s.cfg.opt.staleTime ≠ s.cfg.opt.dropTime) →
    exec (.staleTime dt st) s = .next { s with
      now := max (s.now + dt) ((p.lastHeard + s.cfg.opt.staleTime) * 1000)
      ptb := s.ptb.map fun q => if q.station = st then { q with stale := true } else q })
    ∧ (∀ (dt st : Nat) (p : Peer) (s : State), s.peer st = some p → p.pinned = false →
      ∃ t, exec (.dropTime dt st) s = .next t ∧ ∀ q ∈ t.ptb, q.station ≠ st)
    ∧ (∀ (dt st : Nat) (p : Peer) (s : State), s.peer st = some p → p.pinned = false → p.showsScene = false →
      (∀ q ∈ s.ptb, q.station = st → q.foreignVehicle = false) →
      exec (.dropTime dt st) s = .next { s with
        now := max (s.now + dt) ((p.lastHeard + s.cfg.opt.dropTime) * 1000)
        ptb := s.ptb.filter fun q => q.station ≠ st })
    ∧ (∀ (dt st : Nat) (p : Peer) (s : State), s.peer st = some p → p.pinned = true →
      exec (.dropTime dt st) s = .next { s with
        now := max (s.now + dt) ((p.lastHeard + s.cfg.opt.dropTime) * 1000) })

/-! ### Movement -/

/-- While the part acts every pulse is counted once in the period's count (R84), and one that carries the loss counter
above the guide-loss distance raises GUIDE (R102). With the position KNOWN and short of every threshold, a pulse adds
the odometer value to the distance and, where a chain runs and its word waits for no distance, to the chain distance
(R5, R134); with the position LOST it moves nothing (R4). A read of the expected marker within the window, with a hold
pending, corrects the distance to the entry's length and sets the at-end flag (R7). -/
def Obligations.PulsesAreCounted : Prop :=
  (∀ (dt : Nat) (s : State), s.active = true →
    ∃ t, exec (.odometerPulse dt) s = .next t ∧ t.now = s.now + dt
      ∧ t.dsc.pulses = s.dsc.pulses + 1 ∧ t.dsc.history = s.dsc.history ∧ t.dsc.speed = s.dsc.speed
      ∧ t.dsc.steering = s.dsc.steering
      ∧ (s.dsc.guide ≠ .offWire → t.dsc.loss = s.dsc.loss)
      ∧ (s.dsc.guide = .offWire → s.dsc.loss ≤ s.cfg.opt.guideLoss * 1000 →
          t.dsc.loss = s.dsc.loss + s.cfg.opt.odometer
          ∧ (s.cfg.opt.guideLoss * 1000 < s.dsc.loss + s.cfg.opt.odometer → .guide ∈ t.stc.causes)))
    ∧ (∀ (dt : Nat) (s : State), s.active = true → s.rsq.known = true → s.rsq.atEnd = false →
      s.dsc.guide ≠ .offWire → s.scu.chain.running = false →
      s.rsq.distance + s.cfg.opt.odometer < s.entry.length * 1000 →
      exec (.odometerPulse dt) s = .next { s with
        now := s.now + dt, dsc := { s.dsc with pulses := s.dsc.pulses + 1 }
        rsq := { s.rsq with distance := s.rsq.distance + s.cfg.opt.odometer } })
    ∧ (∀ (dt : Nat) (s : State), s.active = true → s.rsq.known = true → s.rsq.atEnd = false →
      s.dsc.guide ≠ .offWire → s.scu.chain.running = true → s.scu.chain.reason ≠ .trigger →
      s.rsq.distance + s.cfg.opt.odometer < s.entry.length * 1000 →
      exec (.odometerPulse dt) s = .next { s with
        now := s.now + dt, dsc := { s.dsc with pulses := s.dsc.pulses + 1 }
        rsq := { s.rsq with distance := s.rsq.distance + s.cfg.opt.odometer }
        scu := { s.scu with chain := { s.scu.chain with
          distance := min 4294967295 (s.scu.chain.distance + s.cfg.opt.odometer) } } })
    ∧ (∀ (dt : Nat) (s : State), s.active = true → s.rsq.known = false → s.dsc.guide ≠ .offWire →
      exec (.odometerPulse dt) s = .next { s with
        now := s.now + dt, dsc := { s.dsc with pulses := s.dsc.pulses + 1 } })
    ∧ (∀ (dt id : Nat) (s : State), s.active = true → s.rsq.known = true → s.rsq.atEnd = false →
      s.entry.marker ≠ 0 → id = s.entry.marker → s.entry.length * 1000 ≤ s.rsq.distance + s.entry.window * 1000 →
      s.holdPending = true →
      exec (.markerRead dt id) s = .next { s with
        now := s.now + dt, rsq := { s.rsq with distance := s.entry.length * 1000, atEnd := true } })

/-- The end of an entry. A pulse that reaches it in an entry with no marker (R6, R13): with no hold pending the successor
is entered with the excess carried; with a hold pending the at-end flag is set and the vehicle waits. A hold that a pulse
passes, beyond the length and the window, raises OVERRUN, level 2, and the successor is entered with the creep carried
(R20). Marker reads: the expected marker in time with a hold pending snaps the distance to the length and sets the at-end
flag (R7); with no hold pending the successor begins at distance 0 with the marker as last marker (R7, R12). An early or
wrong read in an entry that checks is a position fault (R8, R9, R21): the position and the motion state are LOST, the
brake is applied, authority and command are 0, the effects off, POSITION is active and the latch at 2; so is a missing
marker at the length and the window (R10) and an unexpected read in an entry with no marker (R6). With the suppress-check
flag set an early or wrong read advances to the successor at distance 0 (R8, R9), a missing marker advances with the
overrun carried (R10), each raising OVERRUN where a hold was pending (R20), and an unexpected read is discarded (R6). A
read of the marker that ended the entry, or a second read of the last marker, changes nothing. -/
def Obligations.PulsesAndMarkersEndTheEntry : Prop :=
  (∀ (dt : Nat) (s : State), s.active = true → s.rsq.known = true → s.rsq.atEnd = false → s.entry.marker = 0 →
    s.holdPending = false → s.entry.length * 1000 ≤ s.rsq.distance + s.cfg.opt.odometer →
    s.rsq.distance + s.cfg.opt.odometer < s.entry.length * 1000 + 100000 →
    100 ≤ (s.cfg.entry (s.cfg.successor s.rsq.entry)).length →
    ∃ t, exec (.odometerPulse dt) s = .next t
      ∧ t.rsq.known = true ∧ t.rsq.entry = s.cfg.successor s.rsq.entry
      ∧ t.rsq.distance = s.rsq.distance + s.cfg.opt.odometer - s.entry.length * 1000
      ∧ t.rsq.lastMarker = none ∧ t.rsq.effects = (s.cfg.entry (s.cfg.successor s.rsq.entry)).effects
      ∧ t.sau.authority ≤ (s.cfg.entry (s.cfg.successor s.rsq.entry)).cap)
    ∧ (∀ (dt : Nat) (s : State), s.active = true → s.rsq.known = true → s.rsq.atEnd = false → s.entry.marker = 0 →
      s.dsc.guide ≠ .offWire → s.holdPending = true → s.entry.length * 1000 ≤ s.rsq.distance + s.cfg.opt.odometer →
      s.rsq.distance + s.cfg.opt.odometer ≤ (s.entry.length + s.entry.window) * 1000 →
      ∃ t, exec (.odometerPulse dt) s = .next t
        ∧ t.rsq.atEnd = true ∧ t.rsq.known = true ∧ t.rsq.entry = s.rsq.entry
        ∧ t.rsq.distance = s.rsq.distance + s.cfg.opt.odometer)
    ∧ (∀ (dt id : Nat) (s : State), s.active = true → s.rsq.known = true → s.rsq.atEnd = false →
    s.entry.marker ≠ 0 → id = s.entry.marker → s.entry.length * 1000 ≤ s.rsq.distance + s.entry.window * 1000 →
    s.holdPending = true →
    exec (.markerRead dt id) s = .next { s with
      now := s.now + dt, rsq := { s.rsq with distance := s.entry.length * 1000, atEnd := true } })
    ∧ (∀ (dt id : Nat) (s : State), s.active = true → s.rsq.known = true → s.rsq.atEnd = false →
      s.entry.marker ≠ 0 → id = s.entry.marker →
      s.entry.length * 1000 ≤ s.rsq.distance + s.entry.window * 1000 → s.holdPending = false →
      1 ≤ (s.cfg.entry (s.cfg.successor s.rsq.entry)).length →
      ∃ t, exec (.markerRead dt id) s = .next t
        ∧ t.rsq.known = true ∧ t.rsq.entry = s.cfg.successor s.rsq.entry ∧ t.rsq.distance = 0
        ∧ t.rsq.lastMarker = some id
        ∧ t.rsq.effects = (s.cfg.entry (s.cfg.successor s.rsq.entry)).effects)
    ∧ (∀ (dt id : Nat) (s : State), s.active = true → s.rsq.known = true → s.StopsSound →
      s.entry.marker ≠ 0 → s.entry.suppress = false →
      ((id = s.entry.marker ∧ s.rsq.atEnd = false
          ∧ s.rsq.distance + s.entry.window * 1000 < s.entry.length * 1000)
        ∨ (id ≠ s.entry.marker ∧ s.rsq.lastMarker ≠ some id)) →
      ∃ t, exec (.markerRead dt id) s = .next t
        ∧ t.rsq.known = false ∧ t.rsq.entry = s.rsq.entry ∧ t.rsq.distance = s.rsq.distance
        ∧ t.rsq.effects = 0 ∧ t.rsq.atEnd = false ∧ t.rsq.released = false ∧ t.rsq.dwell = none
        ∧ t.rsq.lastMarker = none
        ∧ t.dsc.motion = .lost ∧ t.dsc.brakeReleased = false ∧ t.dsc.command = 0
        ∧ t.sau.authority = 0 ∧ t.sau.targets = [] ∧ t.sau.curve = none
        ∧ .position ∈ t.stc.causes ∧ t.stc.latch = 2)
    ∧ (∀ (dt id : Nat) (s : State), (s.active = false ∨ s.rsq.known = false
        ∨ (id = s.entry.marker ∧ id ≠ 0 ∧ s.rsq.atEnd = true)
        ∨ (id ≠ s.entry.marker ∧ s.rsq.lastMarker = some id)) →
      exec (.markerRead dt id) s = .next { s with now := s.now + dt })
    ∧ (∀ (dt : Nat) (s : State), s.active = true → s.rsq.known = true → s.StopsSound → s.holdPending = true →
      (s.rsq.atEnd = true ∨ s.entry.marker = 0) → s.DwellSound →
      (s.entry.length + s.entry.window) * 1000 < s.rsq.distance + s.cfg.opt.odometer →
      s.rsq.distance + s.cfg.opt.odometer - s.entry.length * 1000
        < (s.cfg.entry (s.cfg.successor s.rsq.entry)).length * 1000 →
      ∃ t, exec (.odometerPulse dt) s = .next t
        ∧ t.rsq.known = true ∧ t.rsq.entry = s.cfg.successor s.rsq.entry
        ∧ t.rsq.distance = s.rsq.distance + s.cfg.opt.odometer - s.entry.length * 1000
        ∧ t.rsq.atEnd = false ∧ t.rsq.lastMarker = (if s.entry.marker = 0 then none else some s.entry.marker)
        ∧ t.rsq.effects = (s.cfg.entry (s.cfg.successor s.rsq.entry)).effects
        ∧ .overrun ∈ t.stc.causes ∧ t.stc.latch = 2
        ∧ (s.stc.latch < 2 → t.sau.authority = 0 ∧ t.dsc.command = 0))
    ∧ (∀ (dt id : Nat) (s : State), s.active = true → s.rsq.known = true → s.StopsSound → s.entry.marker ≠ 0 →
      s.entry.suppress = true → 1 ≤ (s.cfg.entry (s.cfg.successor s.rsq.entry)).length →
      ((id = s.entry.marker ∧ s.rsq.atEnd = false
          ∧ s.rsq.distance + s.entry.window * 1000 < s.entry.length * 1000)
        ∨ (id ≠ s.entry.marker ∧ s.rsq.lastMarker ≠ some id)) →
      ∃ t, exec (.markerRead dt id) s = .next t
        ∧ t.rsq.known = true ∧ t.rsq.entry = s.cfg.successor s.rsq.entry ∧ t.rsq.distance = 0
        ∧ t.rsq.lastMarker = (if s.rsq.atEnd = true then some s.entry.marker else none)
        ∧ t.rsq.effects = (s.cfg.entry (s.cfg.successor s.rsq.entry)).effects
        ∧ (s.holdPending = true → .overrun ∈ t.stc.causes ∧ t.stc.latch = 2))
    ∧ (∀ (dt : Nat) (s : State), s.active = true → s.rsq.known = true → s.StopsSound → s.rsq.atEnd = false →
      s.entry.marker ≠ 0 → s.entry.suppress = false →
      (s.entry.length + s.entry.window) * 1000 ≤ s.rsq.distance + s.cfg.opt.odometer →
      ∃ t, exec (.odometerPulse dt) s = .next t
        ∧ t.rsq.known = false ∧ t.rsq.entry = s.rsq.entry ∧ t.rsq.distance = s.rsq.distance + s.cfg.opt.odometer
        ∧ t.rsq.effects = 0 ∧ t.rsq.atEnd = false ∧ t.rsq.released = false ∧ t.rsq.dwell = none
        ∧ t.rsq.lastMarker = none
        ∧ t.dsc.motion = .lost ∧ t.dsc.brakeReleased = false ∧ t.dsc.command = 0
        ∧ t.sau.authority = 0 ∧ t.sau.targets = [] ∧ t.sau.curve = none
        ∧ .position ∈ t.stc.causes ∧ t.stc.latch = 2)
    ∧ (∀ (dt : Nat) (s : State), s.active = true → s.rsq.known = true → s.StopsSound → s.rsq.atEnd = false →
      s.entry.marker ≠ 0 → s.entry.suppress = true → s.DwellSound →
      (s.entry.length + s.entry.window) * 1000 ≤ s.rsq.distance + s.cfg.opt.odometer →
      s.rsq.distance + s.cfg.opt.odometer - s.entry.length * 1000
        < (s.cfg.entry (s.cfg.successor s.rsq.entry)).length * 1000 →
      ∃ t, exec (.odometerPulse dt) s = .next t
        ∧ t.rsq.known = true ∧ t.rsq.entry = s.cfg.successor s.rsq.entry
        ∧ t.rsq.distance = s.rsq.distance + s.cfg.opt.odometer - s.entry.length * 1000
        ∧ t.rsq.lastMarker = none
        ∧ t.rsq.effects = (s.cfg.entry (s.cfg.successor s.rsq.entry)).effects
        ∧ (s.holdPending = true → .overrun ∈ t.stc.causes ∧ t.stc.latch = 2))
    ∧ (∀ (dt id : Nat) (s : State), s.active = true → s.rsq.known = true → s.StopsSound → s.entry.marker = 0 →
      id ≠ 0 → s.rsq.lastMarker ≠ some id →
      (s.entry.suppress = true → exec (.markerRead dt id) s = .next { s with now := s.now + dt })
      ∧ (s.entry.suppress = false → ∃ t, exec (.markerRead dt id) s = .next t
        ∧ t.rsq.known = false ∧ t.rsq.entry = s.rsq.entry ∧ t.rsq.distance = s.rsq.distance
        ∧ t.rsq.effects = 0 ∧ t.rsq.atEnd = false ∧ t.rsq.released = false ∧ t.rsq.dwell = none
        ∧ t.rsq.lastMarker = none
        ∧ t.dsc.motion = .lost ∧ t.dsc.brakeReleased = false ∧ t.dsc.command = 0
        ∧ t.sau.authority = 0 ∧ t.sau.targets = [] ∧ t.sau.curve = none
        ∧ .position ∈ t.stc.causes ∧ t.stc.latch = 2))

/-- At each expiry the control period restarts and the measured speed is that of the last four closed counts (R83,
R84); the command rises by at most one ramp step and is within the authority (R94, R95). The guide is sampled on the
channel of the settings (R98): absent with channel NONE, lost below the guide floor, otherwise present with its offset,
truncated toward zero. The feedforward in force is the entry's while the position is KNOWN, the one last read otherwise
(R97). The steering target is the feedforward, with gain × offset / 16 added over the wire (R99, R100); in a loss HOLD
keeps the command and CENTER takes the feedforward (R101). In LOST R97 also names the entry kept at the fault; that the
one last read stays is the model's choice (log entry 45). The target is clamped to ±δmax and the command moves toward it
by at most δrate (R99). At the expiry that leaves OFF-WIRE the loss counter is 0 and GUIDE withdrawn (R102). -/
def Obligations.ControlPeriodMeasuresAndLimits : Prop :=
  ∀ (dt d : Nat) (coils : Coils) (s : State), s.active = true → s.dsc.timer = some d →
    ∃ t, exec (.controlPeriodExpiry dt coils) s = .next t
      ∧ t.now = max (s.now + dt) (d * 1000)
      ∧ t.dsc.timer = some (t.now / 1000 + 10)
      ∧ t.dsc.pulses = 0 ∧ t.dsc.history = (s.dsc.pulses :: s.dsc.history).take 4
      ∧ t.dsc.speed = min 65535 (((s.dsc.pulses :: s.dsc.history).take 4).sum * s.cfg.opt.odometer / 40)
      ∧ (t.dsc.steering - s.dsc.steering).natAbs ≤ s.cfg.opt.steerRate
      ∧ (s.dsc.steering.natAbs ≤ s.cfg.opt.steerMax → t.dsc.steering.natAbs ≤ s.cfg.opt.steerMax)
      ∧ t.dsc.command ≤ s.dsc.command + s.cfg.opt.accelLimit * 10 / 1000
      ∧ t.dsc.command ≤ t.sau.authority
      ∧ t.dsc.feedforward = (if s.rsq.known = true then s.entry.feedforward else s.dsc.feedforward)
      ∧ (let toward (x : Int) : Int :=
          let c := max (-(s.cfg.opt.steerMax : Int)) (min (s.cfg.opt.steerMax : Int) x)
          if (s.cfg.opt.steerRate : Int) < c - s.dsc.steering then s.dsc.steering + s.cfg.opt.steerRate
          else if (s.cfg.opt.steerRate : Int) < s.dsc.steering - c then s.dsc.steering - s.cfg.opt.steerRate
          else c
        (s.dsc.channel = none → t.dsc.guide = .unguided ∧ t.dsc.offset = none ∧ t.dsc.coils = s.dsc.coils
          ∧ t.dsc.steering = toward t.dsc.feedforward)
        ∧ (∀ (n : Nat) (c : Coil), s.dsc.channel = some n →
          (n = 0 ∧ c = coils.ch0 ∨ n = 1 ∧ c = coils.ch1 ∨ n = 2 ∧ c = coils.ch2 ∨ n = 3 ∧ c = coils.ch3) →
          t.dsc.coils = some c
          ∧ (c.left + c.right < s.cfg.opt.guideFloor → t.dsc.guide = .offWire ∧ t.dsc.offset = none
            ∧ (s.dsc.lossMode = .hold → t.dsc.steering = s.dsc.steering)
            ∧ (s.dsc.lossMode = .center → t.dsc.steering = toward t.dsc.feedforward))
          ∧ (s.cfg.opt.guideFloor ≤ c.left + c.right →
            let e := ((s.cfg.opt.guideSpan : Int) * ((c.left : Int) - c.right)).tdiv ((c.left : Int) + c.right)
            t.dsc.guide = .onWire ∧ t.dsc.offset = some e
            ∧ t.dsc.steering = toward (t.dsc.feedforward + ((s.dsc.gain : Int) * e).tdiv 16))))
      ∧ (s.dsc.guide = .offWire → t.dsc.guide ≠ .offWire → t.dsc.loss = 0 ∧ Cause.guide ∉ t.stc.causes)
      ∧ (s.dsc.guide ≠ .offWire ∨ t.dsc.guide = .offWire → t.dsc.loss = s.dsc.loss
          ∧ (Cause.guide ∈ t.stc.causes ↔ Cause.guide ∈ s.stc.causes))

/-- A HELD vehicle whose computed authority is above 0 under latch 0 moves off (R87, R96): RUNNING with the brake
released and the first ramp step commanded (R94). A LOST vehicle leaves LOST at an accepted FIX (R22, R91): its
position is KNOWN at the place the FIX names, and the motion state is no longer LOST, BRAKED where the latch is 2. -/
def Obligations.HeldVehicleMovesOff : Prop :=
  (∀ (dt d : Nat) (coils : Coils) (s : State), s.active = true → s.dsc.timer = some d → s.dsc.motion = .held →
    s.DriveSafe → s.rsq.atEnd = false → s.stc.latch = 0 → 0 < s.computedSau.authority →
    (∀ k, (s.scu.slot k).state ≠ .waiting) →
    ∃ t, exec (.controlPeriodExpiry dt coils) s = .next t
      ∧ t.dsc.motion = .running ∧ t.dsc.brakeReleased = true
      ∧ t.sau.authority = s.computedSau.authority
      ∧ t.dsc.command = min s.computedSau.authority (s.cfg.opt.accelLimit * 10 / 1000)
      ∧ t.rsq = s.rsq ∧ t.rm.vehicle = s.rm.vehicle ∧ t.rm.seats = s.rm.seats ∧ t.spe = s.spe
      ∧ t.cfg = s.cfg ∧ t.cfs = s.cfs)
    ∧ (∀ (dt : Nat) (h : Header) (e d : Nat) (s : State), s.TakesFix h e d →
      ∃ t, exec (.fixFrame dt h s.cfg.opt.station e d) s = .next t
        ∧ t.rsq.known = true ∧ t.rsq.entry = e ∧ t.rsq.distance = d * 1000
        ∧ t.dsc.motion ≠ .lost ∧ (s.stc.latch = 2 → t.dsc.motion = .braked ∧ t.dsc.brakeReleased = false)
        ∧ t.cfg = s.cfg ∧ t.cfs = s.cfs ∧ t.now = s.now + dt)

/-! ### The speed authority -/

/-- The curve speed (R71): the reaction term k is a × tr / 1,000 rounded up; the root is the largest number whose
square does not exceed its argument; the curve speed is isqrt(k² + vt² + 2 × a × d) − k, the largest speed that meets
the target within the reaction term and the service deceleration; at distance 0 it is at most vt, and with tr = 0
no term is taken off. It is computed so for every look-ahead target and, at the gap and target speed 0, for the
vehicle ahead. -/
def Obligations.CurveSpeedIsTheLargestThatStops : Prop :=
  (∀ a tr : Nat, a * tr ≤ 1000 * reactionTerm a tr ∧ 1000 * reactionTerm a tr < a * tr + 1000)
    ∧ (∀ n : Nat, isqrt n * isqrt n ≤ n ∧ n < (isqrt n + 1) * (isqrt n + 1))
    ∧ (∀ (opt : Options) (d vt : Nat),
      let k := reactionTerm opt.serviceDecel opt.reaction
      let v := curveSpeed opt d vt
      v + k = isqrt (k * k + vt * vt + 2 * opt.serviceDecel * d)
        ∧ (v + k) * (v + k) ≤ k * k + vt * vt + 2 * opt.serviceDecel * d
        ∧ k * k + vt * vt + 2 * opt.serviceDecel * d < (v + k + 1) * (v + k + 1)
        ∧ curveSpeed opt 0 vt ≤ vt
        ∧ (opt.reaction = 0 → v = isqrt (vt * vt + 2 * opt.serviceDecel * d)))
    ∧ (∀ s : State, (∀ x ∈ s.lookAheadList, x.curve = curveSpeed s.cfg.opt x.distance x.speed)
        ∧ (∀ a, s.vehicleAhead = some a → a.speed = curveSpeed s.cfg.opt a.gap 0))

/-- The vehicle ahead (R64, R65, R67). A candidate is a VEHICLE record, not FOREIGN, whose data hold an ordinate and a
lane that meets the own lane: equal, or either of them 0. The vehicle ahead is the candidate at the smallest distance
ahead, (p − o) modulo L, within the horizon, the lowest station number among those that share it; its gap is the
distance less the vehicle length and the margin, never below 0, and its speed the curve speed of the gap. With no
candidate within the horizon there is none. -/
def Obligations.VehicleAheadIsTheNearest : Prop :=
  (∀ (s : State) (o : Nat) (a : Ahead), s.ordinate = some o → s.vehicleAhead = some a →
    (∃ p ∈ s.ptb, ∃ q v, p.isVehicle = true ∧ p.foreign = false ∧ p.data = some v ∧ v.ordinate = some q
      ∧ (v.lane = s.entry.lane ∨ v.lane = 0 ∨ s.entry.lane = 0)
      ∧ p.station = a.station ∧ p.stale = a.stale
      ∧ a.distance = (((q : Int) - (o : Int)) % (s.cfg.opt.routeLength : Int)).toNat)
    ∧ a.distance ≤ s.cfg.opt.horizon
    ∧ a.gap = a.distance - (s.cfg.opt.vehicleLength + s.cfg.opt.margin)
    ∧ a.speed = curveSpeed s.cfg.opt a.gap 0
    ∧ ∀ p ∈ s.ptb, ∀ q v, p.isVehicle = true → p.foreign = false → p.data = some v → v.ordinate = some q →
        (v.lane = s.entry.lane ∨ v.lane = 0 ∨ s.entry.lane = 0) →
        let d := (((q : Int) - (o : Int)) % (s.cfg.opt.routeLength : Int)).toNat
        d ≤ s.cfg.opt.horizon → a.distance < d ∨ (a.distance = d ∧ a.station ≤ p.station))
    ∧ (∀ (s : State) (o : Nat), s.ordinate = some o → s.vehicleAhead = none →
      ∀ p ∈ s.ptb, ∀ q v, p.isVehicle = true → p.foreign = false → p.data = some v → v.ordinate = some q →
        (v.lane = s.entry.lane ∨ v.lane = 0 ∨ s.entry.lane = 0) →
        s.cfg.opt.horizon < (((q : Int) - (o : Int)) % (s.cfg.opt.routeLength : Int)).toNat)

/-- The look-ahead list (R68 to R71): at most 9 targets; each but the last is an ENTRY-START; a HOLD-END has the target
speed 0; each target's curve speed is that of its distance and speed. With a hold pending in the current entry the list
is that one HOLD-END at the remaining distance. With none pending the walk visits the successors in turn while fewer
than 8 have been visited and the distance accumulated to the start of the next is within the look-ahead distance, up to
the first that has a hold condition: each visited successor gives an ENTRY-START at that distance with its cap, and one
with a hold condition ends the list with a HOLD-END at its end, however far. -/
def Obligations.LookAheadListIsWellFormed : Prop :=
  ∀ s : State,
    s.lookAheadList.length ≤ 9
      ∧ (∀ x ∈ s.lookAheadList.dropLast, x.kind = .entryStart)
      ∧ (∀ x ∈ s.lookAheadList, x.kind = .holdEnd → x.speed = 0 ∧ (s.cfg.entry x.entry).hold ≠ .none)
      ∧ (∀ x ∈ s.lookAheadList, x.kind = .entryStart → x.speed = (s.cfg.entry x.entry).cap
          ∧ x.distance ≤ s.cfg.opt.lookAhead)
      ∧ (∀ x ∈ s.lookAheadList, x.curve = curveSpeed s.cfg.opt x.distance x.speed)
      ∧ (s.holdPending = true → s.lookAheadList =
          [⟨.holdEnd, s.rsq.entry, s.entry.length - s.rsq.distance / 1000, 0,
            curveSpeed s.cfg.opt (s.entry.length - s.rsq.distance / 1000) 0⟩])
      ∧ (s.holdPending = false →
          let place := s.cfg.successorAt s.rsq.entry
          let ahead := s.cfg.startAhead s.rsq.entry (s.entry.length - s.rsq.distance / 1000)
          ∃ n, n ≤ 8
            ∧ (∀ k, k < n → ahead k ≤ s.cfg.opt.lookAhead
                ∧ s.lookAheadList[k]? = some ⟨.entryStart, place (k + 1), ahead k, (s.cfg.entry (place (k + 1))).cap,
                    curveSpeed s.cfg.opt (ahead k) (s.cfg.entry (place (k + 1))).cap⟩)
            ∧ (∀ k, k + 1 < n → (s.cfg.entry (place (k + 1))).hold = .none)
            ∧ (if 0 < n ∧ (s.cfg.entry (place n)).hold ≠ .none then
                s.lookAheadList.length = n + 1
                  ∧ s.lookAheadList[n]? = some ⟨.holdEnd, place n, ahead n, 0, curveSpeed s.cfg.opt (ahead n) 0⟩
              else s.lookAheadList.length = n ∧ (n = 8 ∨ s.cfg.opt.lookAhead < ahead n)))

/-- The computed authority. With the position LOST it is 0, FORCED, with no curve limit, no vehicle ahead and an empty
list (R66, R74). With the position KNOWN the curve limit is the smallest of the entry's cap, vmax, the peer target
speed and the look-ahead targets' curve speeds (R73); the authority is 0 and its source FORCED where the vehicle is not
SECURE, the latch is 2 or the motion state is PARKED or CONFIG-FAULT (R74); otherwise under latch 1 it is the smaller
of the curve limit and the profile value (R77), and at latch 0 the curve limit. The source names PROFILE where the
profile value is the smaller, and otherwise the first of the peer, the targets in order, the cap and vmax that has the
smallest value (R73). -/
def Obligations.AuthorityKeepsEveryLimit : Prop :=
  ∀ s : State,
    (s.rsq.known = false → s.computedSau = ⟨0, .forced, none, none, []⟩)
    ∧ (s.rsq.known = true →
      s.computedSau.ahead = s.vehicleAhead ∧ s.computedSau.targets = s.lookAheadList
      ∧ ∃ limit, s.computedSau.curve = some limit
        ∧ limit ≤ s.entry.cap ∧ limit ≤ s.cfg.opt.vmax
        ∧ (∀ a, s.vehicleAhead = some a → limit ≤ a.speed)
        ∧ (∀ x ∈ s.lookAheadList, limit ≤ x.curve)
        ∧ (limit = s.entry.cap ∨ limit = s.cfg.opt.vmax ∨ (∃ a, s.vehicleAhead = some a ∧ limit = a.speed)
            ∨ ∃ x ∈ s.lookAheadList, limit = x.curve)
        ∧ s.computedSau.authority ≤ limit
        ∧ (s.rm.vehicle ≠ .secure ∨ s.stc.latch = 2 ∨ s.dsc.motion = .parked ∨ s.dsc.motion = .configFault →
            s.computedSau.authority = 0 ∧ s.computedSau.source = .forced)
        ∧ (s.rm.vehicle = .secure → s.stc.latch ≠ 2 → s.dsc.motion ≠ .parked → s.dsc.motion ≠ .configFault →
          let profile := s.sau.authority - (s.cfg.opt.serviceDecel * 10 + 999) / 1000
          (s.stc.latch = 1 → s.computedSau.authority = min profile limit
            ∧ (profile < limit → s.computedSau.source = .profile))
          ∧ (s.stc.latch = 0 → s.computedSau.authority = limit)
          ∧ (s.stc.latch = 0 ∨ (s.stc.latch = 1 ∧ limit ≤ profile) →
            (∀ a, s.vehicleAhead = some a → a.speed = limit → s.computedSau.source = .peer)
            ∧ ((∀ a, s.vehicleAhead = some a → limit < a.speed) →
              (∀ (n : Nat) (x : Target), s.lookAheadList[n]? = some x → x.curve = limit →
                  (∀ (m : Nat) (y : Target), m < n → s.lookAheadList[m]? = some y → limit < y.curve) →
                  s.computedSau.source = .target (n + 1))
              ∧ ((∀ x ∈ s.lookAheadList, limit < x.curve) →
                  s.computedSau.source = if s.entry.cap = limit then .cap else .vmax)))))

/-! ### Seats -/

/-- The seats at a sample (R106). The run time of an input equal to its last sample rises by 5 ms, up to 100, and that of
one that differs starts at 0; the debounced value follows a raw value that has run for the debounce time. A sample that
changes no debounced input takes the raw values and run times, restarts the sample timer and changes nothing else. A
changed seat acts on its new pair: an OPEN seat with both inputs engaged goes to CLOSING with its confirm timer, with LK
alone it starts or keeps the contradiction timer, without LK it stops it (R107); a CLOSING seat that loses an input goes
to OPEN (R108). In PARKED a changed input of a fitted seat wakes the part with the reason RESTRAINT (R122, R199). That
the wake leaves no frame in transmission, also where one has begun, is the model's choice (log entry 46). -/
def Obligations.SamplesRunTheDebounce : Prop :=
  (∀ (time : Nat) (x : SeatInput) (k : Seat),
    let runLk := if k.rawLk = some x.lk then min 100 (k.runLk + 5) else 0
    let runBd := if k.rawBd = some x.bd then min 100 (k.runBd + 5) else 0
    k.sample time x = { k with
      rawLk := some x.lk, runLk := runLk, lk := if x.lk ≠ k.lk ∧ time ≤ runLk then x.lk else k.lk
      rawBd := some x.bd, runBd := runBd, bd := if x.bd ≠ k.bd ∧ time ≤ runBd then x.bd else k.bd })
    ∧ (∀ (dt d : Nat) (raw : List SeatInput) (s : State), s.rm.timer = some d → s.rm.seats.length = 8 →
      (∀ (i : Nat) (k : Seat), s.rm.seats[i]? = some k → k.fitted = true →
        k.changedFrom (k.sample s.cfg.opt.debounce (inputAt raw i)) = false) →
      ∃ t, exec (.sampleTimerExpiry dt raw) s = .next t
        ∧ t.now = max (s.now + dt) (d * 1000) ∧ t.rm.timer = some (t.now / 1000 + 5)
        ∧ t.rm.vehicle = s.rm.vehicle ∧ t.rm.release = s.rm.release
        ∧ (∀ (i : Nat) (k : Seat), s.rm.seats[i]? = some k → t.rm.seats[i]? = some (
            if k.fitted = true then
              { k with
                rawLk := some (inputAt raw i).lk, rawBd := some (inputAt raw i).bd
                runLk := if k.rawLk = some (inputAt raw i).lk then min 100 (k.runLk + 5) else 0
                runBd := if k.rawBd = some (inputAt raw i).bd then min 100 (k.runBd + 5) else 0 }
            else k))
        ∧ t.rm.seats.length = 8
        ∧ { t with now := s.now, rm := s.rm } = s)
    ∧ (∀ (dt d i : Nat) (raw : List SeatInput) (k : Seat) (s : State), s.parked = false → s.rm.timer = some d →
      s.rm.seats.length = 8 → s.rm.seats[i]? = some k → (k.state = .opened ∨ k.state = .closing) →
      (s.rm.vehicle = .checking → ∀ q ∈ s.rm.seats, q.state ≠ .fault) →
      k.changedFrom (k.sample s.cfg.opt.debounce (inputAt raw i)) = true →
      (∀ (j : Nat) (q : Seat), s.rm.seats[j]? = some q → j ≠ i → q.fitted = true →
        q.changedFrom (q.sample s.cfg.opt.debounce (inputAt raw j)) = false) →
      ∃ t, exec (.sampleTimerExpiry dt raw) s = .next t
        ∧ t.now = max (s.now + dt) (d * 1000) ∧ t.rm.timer = some (t.now / 1000 + 5)
        ∧ t.rm.vehicle = s.rm.vehicle ∧ t.rm.release = s.rm.release
        ∧ (∀ (j : Nat) (q : Seat), s.rm.seats[j]? = some q → j ≠ i → t.rm.seats[j]? = some (
            if q.fitted = true then q.sample s.cfg.opt.debounce (inputAt raw j) else q))
        ∧ (let m := k.sample s.cfg.opt.debounce (inputAt raw i)
          t.rm.seats[i]? = some (
            if k.state = .opened then
              (if m.lk = true ∧ m.bd = true then
                { m with state := .closing, confirm := some (t.now / 1000 + s.cfg.opt.confirmTime), contra := none }
              else if m.lk = true then
                { m with contra := some (k.contra.getD (t.now / 1000 + s.cfg.opt.contraTime)) }
              else { m with contra := none })
            else if m.lk = true ∧ m.bd = true then m
            else { m with
              state := .opened, confirm := none
              contra := if m.lk = true then some (t.now / 1000 + s.cfg.opt.contraTime) else none }))
        ∧ t.rm.seats.length = 8
        ∧ { t with now := s.now, rm := s.rm } = s)
    ∧ (∀ (dt d i : Nat) (raw : List SeatInput) (k : Seat) (s : State), s.parked = true → s.rm.timer = some d →
      i < 8 → s.rm.seats[i]? = some k → k.fitted = true →
      k.changedFrom (k.sample s.cfg.opt.debounce (inputAt raw i)) = true →
      ∃ t, exec (.sampleTimerExpiry dt raw) s = .next t
        ∧ t.now = max (s.now + dt) (d * 1000)
        ∧ t.cfs = { s.cfs with startCause := .wake, wakeReason := some .restraint }
        ∧ t.rm = ⟨.checking, false, freshSeats s.cfg.opt.seatCount, some (t.now / 1000 + 5)⟩
        ∧ t.dsc = { Dsc.start with steering := s.dsc.steering, timer := some (t.now / 1000 + 10) }
        ∧ t.dsc.motion = .lost ∧ t.rsq = Rsq.start ∧ t.sau = Sau.start ∧ t.ptb = []
        ∧ t.ni.queue = [.pos true] ∧ t.ni.sending = none
        ∧ t.ni.silence = some (t.now / 1000 + s.cfg.opt.netSilence)
        ∧ t.scu = { Scu.start with counters := s.scu.counters }
        ∧ t.stc = { Stc.start with incidents := s.stc.incidents, nextSeq := s.stc.nextSeq }
        ∧ t.sck.running = true ∧ t.showTime = 0
        ∧ t.powered = s.powered ∧ t.choices = s.choices ∧ t.cfg = s.cfg ∧ t.pending = s.pending)

/-- A seat loss in SECURE (R109, R113): a LOCKED seat whose debounced input drops takes the vehicle to ALARM, raises
RESTRAINT, brings the latch to 2, the authority and the command to 0 and a vehicle that is not LOST to BRAKED. Voice 0 is
handed the restraint announcement (R116): IDLE, with no stop clip, it plays it; a busy one has it in its queue, in either
order with the stop clip (R179). A seat loss in ALARM raises RESTRAINT again where it had been withdrawn, with no second
announcement, and changes no cause, latch or voice where it is active (R114). -/
def Obligations.SeatLossStopsTheVehicle : Prop :=
  (∀ (dt d i : Nat) (raw : List SeatInput) (k : Seat) (s : State), s.active = true → s.rm.timer = some d →
    s.StopsSound → s.DriveSafe → s.rm.vehicle = .secure → s.stc.latch ≠ 2 →
    i < 8 → s.rm.seats[i]? = some k → k.state = .locked →
    k.changedFrom (k.sample s.cfg.opt.debounce (inputAt raw i)) = true →
    ((k.sample s.cfg.opt.debounce (inputAt raw i)).lk = false
      ∨ (k.sample s.cfg.opt.debounce (inputAt raw i)).bd = false) →
    ∃ t, exec (.sampleTimerExpiry dt raw) s = .next t
      ∧ t.rm.vehicle = .alarm ∧ .restraint ∈ t.stc.causes ∧ t.stc.latch = 2
      ∧ t.sau.authority = 0 ∧ t.dsc.command = 0
      ∧ (s.dsc.motion ≠ .lost → t.dsc.motion = .braked ∧ t.dsc.brakeReleased = false)
      ∧ (s.dsc.motion = .lost → t.dsc.motion = .lost)
      ∧ t.rsq.known = s.rsq.known ∧ t.rsq.entry = s.rsq.entry ∧ t.rsq.distance = s.rsq.distance
      ∧ t.ptb = s.ptb ∧ t.sck = s.sck ∧ t.scu.slot1 = s.scu.slot1 ∧ t.scu.slot2 = s.scu.slot2
      ∧ t.cfg = s.cfg ∧ t.cfs = s.cfs
      ∧ (let r : PlayRequest := ⟨s.cfg.opt.restraintClip, none, 256, 255, 0, .both, .restraint⟩
        (s.spe.v0.queue.length < 3 → t.spe.v0.current = some r ∨ r ∈ t.spe.v0.queue)
        ∧ (s.spe.v0.state = .idle → s.cfg.opt.stopClip = 0 →
          t.spe.v0.current = some r ∧ t.spe.v0.state = .playing)))
    ∧ (∀ (dt d i : Nat) (raw : List SeatInput) (k : Seat) (s : State), s.active = true → s.rm.timer = some d →
      s.StopsSound → s.DriveSafe → s.rm.vehicle = .alarm →
      i < 8 → s.rm.seats[i]? = some k → k.state = .locked →
      k.changedFrom (k.sample s.cfg.opt.debounce (inputAt raw i)) = true →
      ((k.sample s.cfg.opt.debounce (inputAt raw i)).lk = false
        ∨ (k.sample s.cfg.opt.debounce (inputAt raw i)).bd = false) →
      ∃ t, exec (.sampleTimerExpiry dt raw) s = .next t ∧ t.rm.vehicle = .alarm
        ∧ (.restraint ∈ s.stc.causes → t.stc = s.stc ∧ t.spe = s.spe)
        ∧ (.restraint ∉ s.stc.causes → .restraint ∈ t.stc.causes ∧ t.stc.latch = 2
          ∧ (∃ r, t.stc.incidents.getLast? = some r ∧ r.cause = .local_ .restraint)
          ∧ (s.cfg.opt.stopClip = 0 → t.spe.v0.current = s.spe.v0.current ∧ t.spe.v0.queue = s.spe.v0.queue
              ∧ t.spe.v0.state = s.spe.v0.state)))

/-- The seat timers. A confirm timer that expires with both inputs engaged locks the seat (R108); in CHECKING the last
fitted seat to lock takes the vehicle to SECURE (R112). In ALARM the last fitted seat to lock withdraws RESTRAINT, the
latch standing (R114); at latch 0 the vehicle goes to SECURE with the announcement end, above it it stays in ALARM
(R115, R116, R179). A contradiction timer that expires takes the OPEN seat to FAULT (R107), and a vehicle in CHECKING
with it (R112). -/
def Obligations.SeatTimersLockAndFaultTheSeat : Prop :=
  (∀ (dt d n : Nat) (k : Seat) (s : State), 1 ≤ n → n ≤ 8 → s.rm.seats[n - 1]? = some k → k.state = .closing →
      k.lk = true → k.bd = true → k.confirm = some d → s.rm.vehicle = .checking →
      (∀ q ∈ s.rm.seats, q.state ≠ .fault) →
      ∃ t, exec (.confirmTimerExpiry dt n) s = .next t
        ∧ t.now = max (s.now + dt) (d * 1000)
        ∧ t.rm.seats = s.rm.seats.set (n - 1) { k with state := .locked, confirm := none }
        ∧ t.rm.vehicle = (if (∀ q ∈ t.rm.seats, q.state = .notFitted ∨ q.state = .locked) then .secure
            else .checking)
        ∧ t.dsc = s.dsc ∧ t.sau = s.sau ∧ t.rsq = s.rsq ∧ t.scu = s.scu ∧ t.sck = s.sck ∧ t.spe = s.spe
        ∧ t.stc = s.stc ∧ t.ptb = s.ptb ∧ t.cfg = s.cfg ∧ t.cfs = s.cfs)
    ∧ (∀ (dt d n : Nat) (k : Seat) (s : State), 1 ≤ n → n ≤ 8 → s.rm.seats[n - 1]? = some k → k.state = .opened →
      k.contra = some d →
      ∃ t, exec (.contradictionTimerExpiry dt n) s = .next t
        ∧ t.now = max (s.now + dt) (d * 1000)
        ∧ t.rm.seats = s.rm.seats.set (n - 1) { k with state := .fault, contra := none }
        ∧ t.rm.vehicle = (if s.rm.vehicle = .checking then .fault else s.rm.vehicle)
        ∧ t.dsc = s.dsc ∧ t.sau = s.sau ∧ t.rsq = s.rsq ∧ t.scu = s.scu ∧ t.sck = s.sck ∧ t.spe = s.spe
        ∧ t.stc = s.stc ∧ t.ptb = s.ptb ∧ t.cfg = s.cfg ∧ t.cfs = s.cfs)
    ∧ (∀ (dt d n : Nat) (k : Seat) (s : State), s.active = true → 1 ≤ n → n ≤ 8 → s.rm.seats[n - 1]? = some k →
      k.state = .closing → k.lk = true → k.bd = true → k.confirm = some d → s.rm.vehicle = .alarm →
      ∃ t, exec (.confirmTimerExpiry dt n) s = .next t
        ∧ t.now = max (s.now + dt) (d * 1000)
        ∧ t.rm.seats = s.rm.seats.set (n - 1) { k with state := .locked, confirm := none }
        ∧ ((∃ q ∈ t.rm.seats, q.state ≠ .notFitted ∧ q.state ≠ .locked) →
          t.rm.vehicle = .alarm ∧ t.stc = s.stc ∧ t.spe = s.spe)
        ∧ ((∀ q ∈ t.rm.seats, q.state = .notFitted ∨ q.state = .locked) →
          t.stc = { s.stc with causes := s.stc.causes.filter (· ≠ .restraint) }
          ∧ (s.stc.latch ≠ 0 → t.rm.vehicle = .alarm ∧ t.spe = s.spe)
          ∧ (s.stc.latch = 0 → t.rm.vehicle = .secure ∧ Voice.AnnouncementEnded s.spe.v0 t.spe.v0
            ∧ { t.spe with v0 := s.spe.v0 } = s.spe))
        ∧ t.dsc = s.dsc ∧ t.sau = s.sau ∧ t.rsq = s.rsq ∧ t.scu = s.scu ∧ t.sck = s.sck
        ∧ t.ptb = s.ptb ∧ t.cfg = s.cfg ∧ t.cfs = s.cfs)

/-! ### Scenes, cues and the clock's reference -/

/-- A claim window that expires with no record blocking the scene takes the slot to HELD (R127), and a pending hold
for that scene is released (R18); with a record blocking it the slot waits for the lowest-numbered blocking
station (R125). Here no entry waits at its end. -/
def Obligations.ClaimWindowDecidesTheSlot : Prop :=
  (∀ (dt d x : Nat) (k : SlotId) (s : State), s.active = true → s.rsq.atEnd = false →
    (s.scu.slot k).state = .claiming → (s.scu.slot k).scene = some x → (s.scu.slot k).window = some d →
    (∀ p ∈ s.ptb, ∀ v, p.data = some v → p.isVehicle = true →
      x ∉ v.held ∧ (v.claiming = some x → s.cfg.opt.station ≤ p.station)) →
    ∃ t, exec (.claimWindowExpiry dt k) s = .next t
      ∧ t.now = max (s.now + dt) (d * 1000)
      ∧ (t.scu.slot k).state = .held ∧ (t.scu.slot k).scene = some x ∧ (t.scu.slot k).window = none
      ∧ (t.scu.slot k).order = some (if (s.scu.slot (otherSlot k)).state = .held then .second else .first)
      ∧ (s.rsq.known = true → s.entry.hold = .scene x → t.rsq.released = true)
      ∧ t.rsq.entry = s.rsq.entry ∧ t.rsq.distance = s.rsq.distance
      ∧ t.ptb = s.ptb ∧ t.dsc = s.dsc ∧ t.sau = s.sau ∧ t.rm = s.rm ∧ t.spe = s.spe ∧ t.stc = s.stc
      ∧ t.scu.chain = s.scu.chain ∧ t.scu.tracker = s.scu.tracker ∧ t.cfg = s.cfg ∧ t.cfs = s.cfs)
    ∧ (∀ (dt d x y : Nat) (p : Peer) (v : VehicleData) (k : SlotId) (s : State),
      s.active = true → s.NothingDue →
      (s.scu.slot k).state = .claiming → (s.scu.slot k).scene = some x → (s.scu.slot k).window = some d →
      p ∈ s.ptb → p.station = y → p.isVehicle = true → p.data = some v →
      (x ∈ v.held ∨ (v.claiming = some x ∧ y < s.cfg.opt.station)) →
      (∀ q ∈ s.ptb, ∀ w, q.data = some w → q.isVehicle = true →
        (x ∈ w.held ∨ (w.claiming = some x ∧ q.station < s.cfg.opt.station)) → y ≤ q.station) →
      (∀ q ∈ s.ptb, q.carries (.slot k) = false) →
      ∃ t, exec (.claimWindowExpiry dt k) s = .next t
        ∧ t.scu.slot k = ⟨some x, .waiting, none, some y, none⟩
        ∧ t.ptb = s.ptb.map (fun q => q.setPin (.slot k) (decide (q.station = y)))
        ∧ t.rsq = s.rsq ∧ t.dsc = s.dsc ∧ t.stc = s.stc)

/-- How a cue chain goes on. When the pending timer expires the AFTER-TIME word is acted on (R134, R135): with the latch
above 0 it waits with STOPPED; with its scene not HELD it is skipped, counted NOT-HELD; otherwise it is issued (R138).
Where the word is the chain's last, this ends the chain with COMPLETE (R133); that a CHAIN flag on the last word of a
table shorter than 128 ends the chain too is the model's choice (log entry 8). A word is acted on in the same way, each
step of R135 with supersession (R138) and TRACKER-FULL, at a pulse that brings the chain distance to its AT-DISTANCE, at
a CUEST DONE for the watched record where it is ON-DONE (R136, R140), at a RESUME that brings the latch to 0 where it
waits with STOPPED (R137), and at the freeing of a record where it waits with TRACKER-FULL; an AFTER-TIME word that
follows then becomes pending. Any other end of the watched record, or its timeout, breaks the chain at a pending ON-DONE
word (R136). That a chain's end clears its pending word, timer, watched issue and outcome, and keeps its waiting reason
and distance, is the model's choice (log entry 22). -/
def Obligations.PendingTimerMeetsTheTrigger : Prop :=
  (∀ (dt d i t' : Nat) (s : State), s.scu.chain.running = true → s.scu.chain.reason = .trigger →
    s.scu.chain.pending = some i → s.scu.chain.timer = some d → (s.cfg.word i).trigger = .afterTime t' →
    s.cfg.nextWord i = none →
    ∃ t, exec (.pendingTimerExpiry dt) s = .next t
      ∧ t.now = max (s.now + dt) (d * 1000)
      ∧ (0 < s.stc.latch → t.scu = { s.scu with
          chain := { s.scu.chain with timer := none, reason := .stopped } })
      ∧ (s.stc.latch = 0 → s.scu.holdsScene (s.cfg.word i).scene = false →
          t.scu.counters = { s.scu.counters with notHeld := min 65535 (s.scu.counters.notHeld + 1) }
          ∧ t.scu.chain.running = false ∧ t.scu.chain.lastEnd = .complete ∧ t.scu.tracker = s.scu.tracker)
      ∧ (s.stc.latch = 0 → s.scu.holdsScene (s.cfg.word i).scene = true → s.scu.tracker.length < 8 →
          s.scu.recordOf (s.cfg.word i).scene (s.cfg.word i).cue = none → s.ni.queue.length < 6 →
          t.scu.tracker = s.scu.tracker ++ [⟨s.scu.nextRef, (s.cfg.word i).scene, (s.cfg.word i).cue, .queued,
            t.now / 1000, none, (s.cfg.word i).suppressLate, (s.cfg.word i).link, none⟩]
          ∧ .cue ⟨(s.cfg.word i).scene, (s.cfg.word i).cue, s.dsc.speed, t.showTime⟩ s.scu.nextRef ∈ t.ni.queue
          ∧ t.scu.nextRef = (s.scu.nextRef + 1) % 65536
          ∧ t.scu.chain.running = false ∧ t.scu.chain.lastEnd = .complete ∧ t.scu.counters = s.scu.counters)
      ∧ t.scu.slot1 = s.scu.slot1 ∧ t.scu.slot2 = s.scu.slot2
      ∧ t.ptb = s.ptb ∧ t.dsc = s.dsc ∧ t.sau = s.sau ∧ t.rsq = s.rsq ∧ t.rm = s.rm ∧ t.sck = s.sck
      ∧ t.spe = s.spe ∧ t.stc = s.stc ∧ t.cfg = s.cfg ∧ t.cfs = s.cfs)
    ∧ (∀ (dt d i t' : Nat) (s : State), s.scu.chain.running = true → s.scu.chain.reason = .trigger →
      s.scu.chain.pending = some i → s.scu.chain.timer = some d →
      (s.cfg.word i).trigger = .afterTime t' →
      s.cfg.LastOrTimed i →
      ∃ t, exec (.pendingTimerExpiry dt) s = .next t
        ∧ t.now = max (s.now + dt) (d * 1000)
        ∧ s.WordActedOn i { s.scu with chain := { s.scu.chain with timer := none } } t
        ∧ t.rsq = s.rsq ∧ t.dsc = s.dsc ∧ t.spe = s.spe ∧ t.ptb = s.ptb
        ∧ t.scu.slot1 = s.scu.slot1 ∧ t.scu.slot2 = s.scu.slot2 ∧ t.sau = s.sau ∧ t.rm = s.rm ∧ t.sck = s.sck
        ∧ t.stc = s.stc ∧ t.cfg = s.cfg ∧ t.cfs = s.cfs)
    ∧ (∀ (dt i a : Nat) (s : State), s.active = true → s.rsq.known = true → s.rsq.atEnd = false →
      s.dsc.guide ≠ .offWire → s.rsq.distance + s.cfg.opt.odometer < s.entry.length * 1000 →
      s.scu.chain.running = true → s.scu.chain.reason = .trigger →
      s.scu.chain.pending = some i → (s.cfg.word i).trigger = .atDistance a →
      let travelled := min 4294967295 (s.scu.chain.distance + s.cfg.opt.odometer)
      a * 1000 ≤ travelled →
      s.cfg.LastOrTimed i →
      ∃ t, exec (.odometerPulse dt) s = .next t
        ∧ t.now = s.now + dt
        ∧ s.WordActedOn i { s.scu with chain := { s.scu.chain with distance := travelled } } t
        ∧ t.rsq = { s.rsq with distance := s.rsq.distance + s.cfg.opt.odometer }
        ∧ t.dsc = { s.dsc with pulses := s.dsc.pulses + 1 } ∧ t.spe = s.spe ∧ t.ptb = s.ptb
        ∧ t.scu.slot1 = s.scu.slot1 ∧ t.scu.slot2 = s.scu.slot2 ∧ t.sau = s.sau ∧ t.rm = s.rm ∧ t.sck = s.sck
        ∧ t.stc = s.stc ∧ t.cfg = s.cfg ∧ t.cfs = s.cfs)
    ∧ (∀ (dt i : Nat) (h : Header) (b : CuestBody) (r : Track) (s : State), s.Receives ⟨h.src, h.sig, .cuest b⟩ →
      s.cfg.station b.scene = h.src → s.scu.recordOf b.scene b.cue = some r → r.state = .sent →
      s.scu.chain.running = true → s.scu.chain.reason = .trigger →
      s.scu.chain.pending = some i → (s.cfg.word i).trigger = .onDone → s.scu.chain.watched = some r.ref →
      s.cfg.LastOrTimed i →
      ∃ t, exec (.cuestFrame dt h b) s = .next t
        ∧ (b.result = .done → s.WordActedOn i { s.scu with
            tracker := s.scu.tracker.filter (fun q => q.ref ≠ r.ref)
            counters := { s.scu.counters with done := min 65535 (s.scu.counters.done + 1) }
            chain := { s.scu.chain with outcome := .done } } t)
        ∧ (b.result = .busy → s.cfg.nextWord i = none →
          t.scu.tracker = s.scu.tracker.filter (fun q => q.ref ≠ r.ref)
          ∧ Scu.Broken { s.scu with counters := { s.scu.counters with
              busy := min 65535 (s.scu.counters.busy + 1) } } t.scu)
        ∧ (b.result = .refused → s.cfg.nextWord i = none →
          t.scu.tracker = s.scu.tracker.filter (fun q => q.ref ≠ r.ref)
          ∧ Scu.Broken { s.scu with counters := { s.scu.counters with
              refused := min 65535 (s.scu.counters.refused + 1) } } t.scu)
        ∧ (b.result = .fault → s.cfg.nextWord i = none →
          t.scu.tracker = s.scu.tracker.filter (fun q => q.ref ≠ r.ref)
          ∧ Scu.Broken { s.scu with counters := { s.scu.counters with
              fault := min 65535 (s.scu.counters.fault + 1) } } t.scu)
        ∧ t.scu.slot1 = s.scu.slot1 ∧ t.scu.slot2 = s.scu.slot2 ∧ t.sau = s.sau ∧ t.rm = s.rm ∧ t.sck = s.sck
        ∧ t.stc = s.stc ∧ t.cfg = s.cfg ∧ t.cfs = s.cfs)
    ∧ (∀ (dt ref d i : Nat) (r : Track) (s : State), s.scu.recordRef ref = some r → r.state = .sent →
      r.timer = some d → s.scu.chain.running = true → s.scu.chain.reason = .trigger →
      s.scu.chain.pending = some i → (s.cfg.word i).trigger = .onDone →
      s.scu.chain.watched = some ref → s.cfg.nextWord i = none →
      ∃ t, exec (.cueTimeout dt ref) s = .next t
        ∧ Scu.Broken { s.scu with counters := { s.scu.counters with
            timedOut := min 65535 (s.scu.counters.timedOut + 1) } } t.scu
        ∧ t.scu.slot1 = s.scu.slot1 ∧ t.scu.slot2 = s.scu.slot2 ∧ t.sau = s.sau ∧ t.rm = s.rm ∧ t.sck = s.sck
        ∧ t.stc = s.stc ∧ t.cfg = s.cfg ∧ t.cfs = s.cfs)
    ∧ (∀ (dt i : Nat) (h : Header) (s : State), s.Receives ⟨h.src, h.sig, .resume⟩ → s.rsq.atEnd = false →
      0 < s.stc.latch → (∀ c ∈ s.stc.causes, c.latched = true) →
      s.scu.chain.running = true → s.scu.chain.reason = .stopped →
      s.scu.chain.pending = some i →
      s.cfg.LastOrTimed i →
      ∃ t, exec (.resumeFrame dt h) s = .next t
        ∧ t.stc.latch = 0
        ∧ State.WordActedOn i s.scu { s with stc := { s.stc with latch := 0 } } t
        ∧ t.scu.slot1 = s.scu.slot1 ∧ t.scu.slot2 = s.scu.slot2)
    ∧ (∀ (dt ref d i : Nat) (r : Track) (s : State), s.scu.recordRef ref = some r → r.state = .timedOut →
      r.timer = some d → s.scu.chain.watched ≠ some ref →
      s.scu.chain.running = true → s.scu.chain.reason = .trackerFull →
      s.scu.chain.pending = some i →
      s.cfg.LastOrTimed i →
      ∃ t, exec (.lateWindowExpiry dt ref) s = .next t
        ∧ t.now = max (s.now + dt) (d * 1000)
        ∧ s.WordActedOn i { s.scu with tracker := s.scu.tracker.filter (fun q => q.ref ≠ ref) } t
        ∧ t.rsq = s.rsq ∧ t.dsc = s.dsc ∧ t.spe = s.spe ∧ t.ptb = s.ptb
        ∧ t.scu.slot1 = s.scu.slot1 ∧ t.scu.slot2 = s.scu.slot2 ∧ t.sau = s.sau ∧ t.rm = s.rm ∧ t.sck = s.sck
        ∧ t.stc = s.stc ∧ t.cfg = s.cfg ∧ t.cfs = s.cfs)

/-- A SENT record whose timeout passes becomes TIMED-OUT with its late window running, counted once, or is freed where
the late window is 0; a TIMED-OUT record whose late window passes is freed without a count (R141). Here no chain
runs. -/
def Obligations.CuesTimeOutAndAreFreed : Prop :=
  (∀ (dt d ref : Nat) (r : Track) (s : State), s.scu.chain.running = false → s.scu.recordRef ref = some r →
    r.state = .sent → r.timer = some d →
    ∃ t, exec (.cueTimeout dt ref) s = .next t
      ∧ t.now = max (s.now + dt) (d * 1000)
      ∧ t.scu.tracker = (if s.cfg.opt.lateWindow = 0 then s.scu.tracker.filter (fun q => q.ref ≠ ref)
          else s.scu.tracker.map fun q => if q.ref = ref then
            { q with state := .timedOut, timer := some (t.now / 1000 + s.cfg.opt.lateWindow) } else q)
      ∧ t.scu.counters = { s.scu.counters with timedOut := min 65535 (s.scu.counters.timedOut + 1) }
      ∧ t.scu.slot1 = s.scu.slot1 ∧ t.scu.slot2 = s.scu.slot2
      ∧ { t with now := s.now, scu := s.scu } = s)
    ∧ (∀ (dt d ref : Nat) (r : Track) (s : State), s.scu.chain.running = false → s.scu.recordRef ref = some r →
      r.state = .timedOut → r.timer = some d →
      ∃ t, exec (.lateWindowExpiry dt ref) s = .next t
        ∧ t.now = max (s.now + dt) (d * 1000)
        ∧ t.scu.tracker = s.scu.tracker.filter (fun q => q.ref ≠ ref)
        ∧ t.scu.counters = s.scu.counters ∧ t.scu.slot1 = s.scu.slot1 ∧ t.scu.slot2 = s.scu.slot2
        ∧ { t with now := s.now, scu := s.scu } = s)

/-- When the reference falls silent the SCK selects anew (R150). Where the station of a held scene is live, the first
such scene in hold order names the new reference, priority 1; otherwise the lowest-numbered live fixed station is the
reference, priority 2 (R148, R149); the reference last SYNC is that station's, and acquisition begins anew with the
trim kept (R151). With no live fixed station the reference is none (R152): in holdover mode the state is HOLDOVER and
the clock runs on at its trim, in center mode the state is FREE and the trim 0. The reading is kept in every case. -/
def Obligations.SilentReferenceIsReplaced : Prop :=
  ∀ (dt heard : Nat) (r : Nat) (s : State), s.active = true → s.PeersSound → s.sck.reference = some r →
    s.sck.lastSync = some heard →
    ∃ t, exec (.referenceSilent dt) s = .next t
      ∧ t.now = max (s.now + dt) ((heard + 400) * 1000)
      ∧ t.showTime = s.sck.readingAt t.now
      ∧ (∀ (before after : List Nat) (x m : Nat), s.scu.heldScenes = before ++ x :: after →
          (∀ y ∈ before, ∀ n, ¬ s.LastSync t.now (s.cfg.station y) n) → s.LastSync t.now (s.cfg.station x) m →
          t.sck.reference = some (s.cfg.station x) ∧ t.sck.priority = some 1 ∧ t.sck.lastSync = some m)
      ∧ ((∀ y ∈ s.scu.heldScenes, ∀ n, ¬ s.LastSync t.now (s.cfg.station y) n) →
          ∀ c m, s.LastSync t.now c m → (∀ c' n, s.LastSync t.now c' n → c ≤ c') →
          t.sck.reference = some c ∧ t.sck.priority = some 2 ∧ t.sck.lastSync = some m)
      ∧ ((∃ c m, s.LastSync t.now c m) → t.sck.state = .acquire ∧ t.sck.awaited = true
          ∧ t.sck.inCount = 0 ∧ t.sck.outCount = 0 ∧ t.sck.trim = s.sck.trim)
      ∧ ((∀ c m, ¬ s.LastSync t.now c m) →
          t.sck.reference = none ∧ t.sck.priority = none ∧ t.sck.lastSync = none ∧ t.sck.awaited = false
          ∧ t.sck.inCount = 0 ∧ t.sck.outCount = 0
          ∧ (s.cfg.opt.clockMode = .holdover → t.sck.state = .holdover ∧ t.sck.trim = s.sck.trim)
          ∧ (s.cfg.opt.clockMode = .center → t.sck.state = .free ∧ t.sck.trim = 0))
      ∧ t.sck.running = s.sck.running ∧ t.sck.lastError = s.sck.lastError ∧ t.sck.lastScene = s.sck.lastScene
      ∧ { t with now := s.now, sck := s.sck } = s

/-! ### Sound -/

/-- At a sample period both outputs are within 16 bits; a voice that sounds and has more of its clip to play moves on
by one sample (R168), and the outputs are the mixes of the voices as they stood, divided and clamped (R173), where no
voice waits for its start. Outside the active part the outputs are 0 (R161). A voice that is not primed stands still
(R166), one whose buffer is empty counts an underrun (R177). At its clip's end a voice with loops left returns to the
loop start, and with none its request ends, as at the last sample of a fade-out (R168, R170); the fade moves by one
sample, from segment to segment, a fade-in ending after segment 15 (R169). A WAITING voice waits while its start is ahead
(R167); then it begins, at the offset of its lateness with an empty buffer, past the clip's end as the loops allow, or
is dropped beyond the window or the clip (R164, R165); at offset 0 it begins at the clip's first sample
with the buffer it has filled. That it then outputs its first sample in the same period, its position 1 after it, is
deduced (log entry 23); what an IDLE voice's buffer, primed flag and fade hold is the model's choice (log entry 9). The
mix of an output is the sum over the voices whose request's mask includes it of s × g × f × d (R173): s the first sample
in the buffer of a primed voice in PLAYING or FADING, g the gain times the clip's base gain divided by 256, f the fade
value, 128 with no fade, d the duck level for voices 1 to 3 while voice 0 is in PLAYING or FADING and 256 else (R172);
every other voice adds 0. -/
def Obligations.SamplePeriodMixesAndAdvances : Prop :=
  (∀ (dt : Nat) (s : State), s.active = true →
    ∃ t, exec (.samplePeriod dt) s = .next t
      ∧ (-32768 ≤ t.spe.front ∧ t.spe.front ≤ 32767 ∧ -32768 ≤ t.spe.rear ∧ t.spe.rear ≤ 32767)
      ∧ { t with now := s.now, spe := s.spe } = s ∧ t.now = s.now + dt
      ∧ ((∀ i, (s.spe.voice i).state ≠ .waiting) →
          t.spe.front = max (-32768) (min 32767 (s.spe.mix s.cfg Voice.toFront / 8388608))
          ∧ t.spe.rear = max (-32768) (min 32767 (s.spe.mix s.cfg Voice.toRear / 8388608))
          ∧ ∀ i, i < 4 → ∀ x rest, (s.spe.voice i).primed = true → (s.spe.voice i).state = .playing →
              (s.spe.voice i).buffer = x :: rest → (∀ f, (s.spe.voice i).fade = some f → f.out = false) →
              (s.spe.voice i).position + 1 < ((s.spe.voice i).clip s.cfg).length →
              (t.spe.voice i).position = (s.spe.voice i).position + 1 ∧ (t.spe.voice i).buffer = rest
                ∧ (t.spe.voice i).state = .playing ∧ (t.spe.voice i).current = (s.spe.voice i).current
                ∧ (t.spe.voice i).underruns = (s.spe.voice i).underruns))
    ∧ (∀ (dt : Nat) (s : State), s.active = false →
      exec (.samplePeriod dt) s = .next { s with now := s.now + dt, spe := { s.spe with front := 0, rear := 0 } })
    ∧ (∀ (dt i : Nat) (r : PlayRequest) (s : State), s.active = true → i < 4 → (s.spe.voice i).current = some r →
      ((s.spe.voice i).state = .playing ∨ (s.spe.voice i).state = .fading) →
      let v := s.spe.voice i
      let c := s.cfg.clip r.clip
      let segment := 2 * (s.cfg.fade r.fade).duration
      let faded : Prop := ∃ f, v.fade = some f ∧ f.out = true ∧ f.segment = 0 ∧ segment ≤ f.into + 1
      let played : Prop := c.length ≤ v.position + 1 ∧ v.loops = 0
      ∃ t, exec (.samplePeriod dt) s = .next t
        ∧ (let w := t.spe.voice i
          (v.primed = false → w.position = v.position ∧ w.fade = v.fade ∧ w.underruns = v.underruns
            ∧ w.state = v.state ∧ w.current = v.current ∧ w.queue = v.queue ∧ w.buffer = v.buffer)
          ∧ (v.primed = true → v.buffer = [] → w.position = v.position ∧ w.fade = v.fade ∧ w.loops = v.loops
            ∧ w.underruns = min 65535 (v.underruns + 1) ∧ w.state = v.state ∧ w.current = v.current
            ∧ w.queue = v.queue ∧ w.primed = true)
          ∧ (v.primed = true → v.buffer ≠ [] → faded ∨ played → Voice.RequestEnded v w)
          ∧ (∀ x rest, v.primed = true → v.buffer = x :: rest → ¬ faded → ¬ played →
            w.position = (if v.position + 1 < c.length then v.position + 1 else c.loopStart)
            ∧ w.loops = (if v.position + 1 < c.length ∨ v.loops = 255 then v.loops else v.loops - 1)
            ∧ w.state = v.state ∧ w.current = v.current ∧ w.queue = v.queue ∧ w.buffer = rest
            ∧ w.underruns = v.underruns
            ∧ (v.fade = none → w.fade = none)
            ∧ ∀ f, v.fade = some f → w.fade =
                if f.into + 1 < segment then some ⟨f.out, f.segment, f.into + 1⟩
                else if f.out = true then some ⟨true, f.segment - 1, 0⟩
                else if f.segment = 15 then none else some ⟨false, f.segment + 1, 0⟩)))
    ∧ (∀ (dt i start : Nat) (r : PlayRequest) (s : State), s.active = true → i < 4 →
      (s.spe.voice i).current = some r → (s.spe.voice i).state = .waiting → r.start = some start →
      let v := s.spe.voice i
      let c := s.cfg.clip r.clip
      let ahead := timeDiff start (s.elapse dt).showTime
      let late := (-ahead).toNat
      let offset := late * 32000 / 1000000
      let region := c.length - c.loopStart
      let wraps := (offset - c.length) / region + 1
      let dropped : Prop := s.cfg.opt.soundLate * 1000 < late
        ∨ (c.length ≤ offset ∧ (r.loops = 0 ∨ (r.loops ≠ 255 ∧ r.loops < wraps)))
      ∃ t, exec (.samplePeriod dt) s = .next t
        ∧ (let w := t.spe.voice i
          (0 < ahead → w.state = .waiting ∧ w.current = v.current ∧ w.queue = v.queue ∧ w.position = v.position
            ∧ w.buffer = v.buffer ∧ w.primed = v.primed)
          ∧ (ahead ≤ 0 → dropped → Voice.RequestEnded v w)
          ∧ (ahead ≤ 0 → ¬ dropped → 0 < offset → w.state = .playing ∧ w.current = v.current ∧ w.queue = v.queue
            ∧ w.position = (if offset < c.length then offset else c.loopStart + (offset - c.length) % region)
            ∧ w.loops = (if offset < c.length ∨ r.loops = 255 then r.loops else r.loops - wraps)
            ∧ w.fade = some ⟨false, 0, 0⟩ ∧ w.buffer = [] ∧ w.primed = false)
          ∧ (ahead ≤ 0 → ¬ dropped → offset = 0 → 0 < c.length →
            v.primed = false ∨ v.buffer = [] ∨ 1 < c.length →
            w.state = .playing ∧ w.current = v.current ∧ w.queue = v.queue ∧ w.loops = r.loops
            ∧ (v.primed = false ∨ v.buffer = [] →
              w.position = 0 ∧ w.fade = some ⟨false, 0, 0⟩ ∧ w.buffer = v.buffer)
            ∧ (∀ x rest, v.primed = true → v.buffer = x :: rest → 0 < (s.cfg.fade r.fade).duration →
              w.position = 1 ∧ w.fade = some ⟨false, 0, 1⟩ ∧ w.buffer = rest))))
    ∧ (∀ s : State,
      let duck : Nat := if s.spe.v0.state = .playing ∨ s.spe.v0.state = .fading then s.cfg.opt.duckLevel else 256
      let part (output : Mask) (d : Nat) (v : Voice) : Int :=
        match v.current, v.buffer with
        | some r, x :: _ =>
          if v.primed = true ∧ (v.state = .playing ∨ v.state = .fading) ∧ (r.mask = .both ∨ r.mask = output) then
            x * ((r.gain * (s.cfg.clip r.clip).baseGain / 256 : Nat) : Int)
              * (match v.fade with | none => 128 | some f => ((s.cfg.fade r.fade).value f.segment : Int)) * (d : Int)
          else 0
        | _, _ => 0
      let total (output : Mask) : Int :=
        part output 256 s.spe.v0 + part output duck s.spe.v1 + part output duck s.spe.v2 + part output duck s.spe.v3
      s.spe.mix s.cfg Voice.toFront = total .front ∧ s.spe.mix s.cfg Voice.toRear = total .rear)

/-- A transfer that completes brings its samples to the end of its voice's buffer, which is then primed, with its refill
none (R175); a disowned one brings nothing (R176). The voice asks again where its buffer holds 128 samples or fewer and
playback order goes on (R174). The link then serves the first voice that waits in the order last-served + 1, + 2 and so
on modulo 4, which becomes the last-served voice and whose next samples in playback order, 128 or fewer, it reads; with
no voice waiting it stays free, and the last-served voice stands (R175). -/
def Obligations.TransferReachesItsVoice : Prop :=
  ∀ (dt : Nat) (samples : List Int) (x : Transfer) (s : State), s.powered = true → s.spe.link = some x →
    x.voice < 4 →
    ∃ t, exec (.transferCompletion dt samples) s = .next t
      ∧ (x.disowned = false →
          (t.spe.voice x.voice).buffer = (s.spe.voice x.voice).buffer ++ samples.take x.indices.length
          ∧ (t.spe.voice x.voice).primed = true)
      ∧ (x.disowned = true → (t.spe.voice x.voice).buffer = (s.spe.voice x.voice).buffer
          ∧ (t.spe.voice x.voice).primed = (s.spe.voice x.voice).primed)
      ∧ (∀ i, i < 4 → i ≠ x.voice → (t.spe.voice i).buffer = (s.spe.voice i).buffer
          ∧ (t.spe.voice i).primed = (s.spe.voice i).primed)
      ∧ (∀ i, i < 4 → (t.spe.voice i).state = (s.spe.voice i).state
          ∧ (t.spe.voice i).position = (s.spe.voice i).position
          ∧ (t.spe.voice i).queue = (s.spe.voice i).queue ∧ (t.spe.voice i).current = (s.spe.voice i).current
          ∧ (t.spe.voice i).loops = (s.spe.voice i).loops ∧ (t.spe.voice i).fade = (s.spe.voice i).fade
          ∧ (t.spe.voice i).underruns = (s.spe.voice i).underruns
          ∧ (t.spe.voice i).refusals = (s.spe.voice i).refusals)
      ∧ (let waits (i : Nat) : Prop :=
          if i = x.voice ∧ x.disowned = false then
            (t.spe.voice i).buffer.length ≤ 128
              ∧ ∃ r, (t.spe.voice i).current = some r ∧ (t.spe.voice i).HasMore (s.cfg.clip r.clip)
          else (s.spe.voice i).refill = .requested
        ((∀ i, i < 4 → ¬ waits i) → t.spe.link = none ∧ t.spe.lastServed = s.spe.lastServed)
        ∧ (∀ k, 1 ≤ k → k ≤ 4 → waits ((s.spe.lastServed + k) % 4) →
            (∀ j, 1 ≤ j → j < k → ¬ waits ((s.spe.lastServed + j) % 4)) →
            let i := (s.spe.lastServed + k) % 4
            t.spe.lastServed = i ∧ (t.spe.voice i).refill = .inTransfer
              ∧ ∃ y, t.spe.link = some y ∧ y.voice = i ∧ y.disowned = false
                ∧ ∀ r, (t.spe.voice i).current = some r →
                  y.clip = r.clip ∧ (t.spe.voice i).NextSamples (s.cfg.clip r.clip) y.indices)
        ∧ (∀ i, i < 4 → (∀ y, t.spe.link = some y → y.voice ≠ i) →
            (i = x.voice → x.disowned = false →
              (waits i → (t.spe.voice i).refill = .requested) ∧ (¬ waits i → (t.spe.voice i).refill = .none))
            ∧ (i ≠ x.voice ∨ x.disowned = true → (t.spe.voice i).refill = (s.spe.voice i).refill)))
      ∧ t.spe.front = s.spe.front ∧ t.spe.rear = s.spe.rear
      ∧ { t with now := s.now, spe := s.spe } = s ∧ t.now = s.now + dt

/-! ### The service link -/

/-- A read command that reaches an IDLE parser of a powered part begins a data reply, in every load and motion state and
without waking a parked part, and changes nothing else (R200, R201). The reply of each is the list its rule gives, in its
order: STATUS the parts of R201, R82, R104 and R190; READ-ROUTE R23 with the ordinate while the position is KNOWN;
READ-PEERS R62 with the ages at this moment; READ-SEATS R122, READ-SCENES R145 with the times to go; READ-VOICES R180;
READ-CLOCK R160 with the reading and the candidates of this moment; READ-INCIDENTS R190, oldest first. The fields of a
record stand in the order of its table; that order and the names of fields that no rule spells are log entry 29's and
33's (DESIGN CHOICE). -/
def Obligations.ReadsReplyAndChangeNothing : Prop :=
  ∀ (dt : Nat) (s : State), s.powered = true → s.cfs.reply = none →
    let now := (s.now + dt) / 1000
    let replies (c : Instr) (items : List Item) : Prop :=
      exec c s = .next { s with now := s.now + dt, cfs := { s.cfs with reply := some (.data items) } }
    let togo (x : Timer) : Item := Item.opt (x.map (· - now))
    let age (x : Option Nat) : Option Nat := x.map (now - ·)
    let ready (x : Item) : Item := if s.cfs.load = .ready then x else .absent
    let scenes (xs : List Nat) : List Item := Item.nat xs.length :: xs.map Item.nat
    let request (r : PlayRequest) : List Item :=
      [Item.nat r.clip, (match r.start with | none => .name "IMMEDIATE" | some x => Item.nat x), Item.nat r.gain,
        Item.nat r.loops, Item.nat r.fade, .name (Mask.name r.mask), .name r.origin.name]
    replies (.status dt)
        ([.name s.cfs.load.name, Item.nameOrNone (s.cfs.faultCode.map FaultCode.name)]
          ++ (match s.cfs.faultItem with
            | none => [.name "none"]
            | some i => [.name i.where_.name, Item.opt i.index])
          ++ [.name s.cfs.startCause.name, Item.nameOrNone (s.cfs.wakeReason.map WakeReason.name),
            ready (Item.nat s.cfg.opt.station), ready (Item.nat s.cfg.opt.vehicleClass),
            ready (Item.nat s.cfg.opt.signature)]
          ++ [Item.nat s.sau.authority]
          ++ (match s.sau.source with
            | .peer => [.name "PEER"]
            | .target n => [.name "TARGET", Item.nat n]
            | .cap => [.name "CAP"]
            | .vmax => [.name "VMAX"]
            | .profile => [.name "PROFILE"]
            | .forced => [.name "FORCED"])
          ++ [Item.orNone s.sau.curve]
          ++ (match s.sau.ahead with
            | none => [.name "none", .absent, .absent, .absent, .absent]
            | some a => [Item.nat a.station, Item.nat a.distance, Item.nat a.gap, Item.nat a.speed,
                .name (if a.stale then "STALE" else "FRESH")])
          ++ Item.nat s.sau.targets.length :: s.sau.targets.flatMap (fun g =>
              [.name (match g.kind with | .entryStart => "ENTRY-START" | .holdEnd => "HOLD-END"), Item.nat g.entry,
                Item.nat g.distance, Item.nat g.speed, Item.nat g.curve])
          ++ [.name (Motion.name s.dsc.motion), Item.nat s.dsc.command, Item.nat s.dsc.speed,
            .name (if s.dsc.brakeReleased then "released" else "applied"), .num s.dsc.steeringSetPoint,
            (match s.dsc.channel with | none => .name "NONE" | some c => Item.nat c), Item.nat s.dsc.gain,
            .name (match s.dsc.lossMode with | .hold => "HOLD" | .center => "CENTER"), .num s.dsc.feedforward,
            .name (match s.dsc.guide with | .onWire => "ON-WIRE" | .offWire => "OFF-WIRE" | .unguided => "UNGUIDED")]
          ++ (if s.dsc.channel = none then [.absent, .absent] else
            match s.dsc.coils with
            | some c => [Item.nat c.left, Item.nat c.right]
            | none => [.absent, .absent])
          ++ [Item.optInt s.dsc.offset, Item.nat (s.dsc.loss / 1000)]
          ++ [Item.nat s.stc.latch]
          ++ (match s.stc.first with
            | some f => [f.cause.item, Item.nat f.origin]
            | none => [.name "none", .absent])
          ++ [Item.nat s.stc.asserted]
          ++ Item.nat s.stc.causes.length :: s.stc.causes.map (fun c => .name c.name))
      ∧ replies (.readRoute dt)
        [.name (if s.rsq.known then "KNOWN" else "LOST"), Item.nat s.rsq.entry, Item.nat (s.rsq.distance / 1000),
          .name (if s.rsq.released then "set" else "clear"), .name (if s.rsq.atEnd then "set" else "clear"),
          togo s.rsq.dwell, Item.orNone s.rsq.lastMarker, Item.orNone s.rsq.chainStart,
          if s.rsq.known then
            Item.nat (((s.cfg.entry s.rsq.entry).start + s.rsq.distance / 1000) % s.cfg.opt.routeLength)
          else .absent]
      ∧ replies (.readPeers dt)
        (Item.nat s.ptb.length :: s.ptb.flatMap (fun p =>
          [Item.nat p.station, .name (if p.isVehicle then "VEHICLE" else "FIXED"),
            .name (if p.foreign then "set" else "clear"), Item.nat (now - p.lastHeard),
            .name (if p.stale then "STALE" else "FRESH")]
          ++ Item.list (fun n => [.name n]) p.pins
          ++ [Item.opt (age p.lastSync)]
          ++ (match p.data with
            | none => [.absent]
            | some d => [Item.opt d.ordinate, Item.nat d.lane, Item.nat d.entry, Item.nat d.speed,
                .name (Motion.name d.motion), .name (Restraint.name d.restraint), Item.nat d.level]
                ++ scenes d.held ++ [Item.orNone d.claiming])))
      ∧ replies (.readSeats dt)
        (s.rm.seats.flatMap (fun k =>
          [.name k.state.name, .name (if k.lk then "engaged" else "disengaged"),
            .name (if k.bd then "engaged" else "disengaged"), togo k.confirm, togo k.contra])
          ++ [.name (Restraint.name s.rm.vehicle), .name (if s.rm.release then "active" else "inactive"),
            .name (if .restraint ∈ s.stc.causes then "active" else "inactive")])
      ∧ replies (.readScenes dt)
        ([s.scu.slot1, s.scu.slot2].flatMap (fun k =>
          [Item.orNone k.scene, .name k.state.name, togo k.window, Item.orNone k.blocking,
            Item.nameOrNone (k.order.map SlotOrder.name)])
          ++ [.name (if s.scu.chain.running then "RUNNING" else "NONE"), Item.orNone s.scu.chain.pending,
            .name s.scu.chain.reason.name, Item.nat s.scu.chain.distance, togo s.scu.chain.timer,
            Item.orNone s.scu.chain.watched, .name s.scu.chain.outcome.name, .name s.scu.chain.lastEnd.name]
          ++ Item.nat s.scu.tracker.length :: s.scu.tracker.flatMap (fun x =>
            [Item.nat x.ref, Item.nat x.scene, Item.nat x.cue, .name x.state.name, Item.nat x.queuedAt,
              Item.opt x.sentAt, .name (if x.suppressLate then "set" else "clear")]
            ++ (match x.link with
              | none => [.absent]
              | some l => [Item.nat l.clip, Item.nat l.voice, Item.nat l.gain])
            ++ [togo x.timer])
          ++ [s.scu.counters.done, s.scu.counters.busy, s.scu.counters.refused, s.scu.counters.fault,
            s.scu.counters.timedOut, s.scu.counters.late, s.scu.counters.dropped, s.scu.counters.superseded,
            s.scu.counters.notHeld, s.scu.counters.abandoned].map Item.nat)
      ∧ replies (.readVoices dt)
        ([s.spe.v0, s.spe.v1, s.spe.v2, s.spe.v3].flatMap (fun v =>
          .name v.state.name :: (match v.current with | none => [.name "none"] | some r => request r)
          ++ Item.nat v.queue.length :: v.queue.flatMap request
          ++ [Item.nat v.position, Item.nat v.loops]
          ++ (match v.fade with
            | none => [.name "none"]
            | some f => [.name (if f.out then "OUT" else "IN"), Item.nat f.segment, Item.nat f.into])
          ++ [Item.nat v.buffer.length, .name (if v.primed then "set" else "clear"), .name v.refill.name,
            Item.nat v.underruns, Item.nat v.refusals])
          ++ [Item.nat s.spe.lastServed, .name (if s.spe.ducking then "yes" else "no")])
      ∧ replies (.readClock dt)
        [Item.nat (s.sck.readingAt (s.now + dt)), .num s.sck.trim, .name (ClockState.name s.sck.state),
          ready (.name (match s.cfg.opt.clockMode with | .holdover => "HOLDOVER" | .center => "CENTER")),
          Item.orNone s.sck.reference, Item.orNone s.sck.priority, Item.orNone (age s.sck.lastSync),
          .name (if s.sck.awaited then "set" else "clear"), Item.nat s.sck.inCount, Item.nat s.sck.outCount,
          Item.optInt s.sck.lastError, Item.orNone s.sck.lastScene,
          Item.orNone ((s.elapse dt).candidate1 none), Item.orNone ((s.elapse dt).candidate2 none)]
      ∧ replies (.readIncidents dt)
        (Item.nat s.stc.incidents.length :: s.stc.incidents.flatMap (fun i =>
          [Item.nat i.seq, i.cause.item, Item.nat i.level, Item.nat i.origin, Item.nat i.time, Item.opt i.ordinate,
            Item.nat i.speed, .name (Restraint.name i.restraint), Item.opt i.gap] ++ scenes i.held)
          ++ [Item.nat s.stc.nextSeq])

/-- A command that arrives while the parser is REPLYING is discarded (R200): nothing but the time changes. CLEAR-INCIDENTS
empties the list and keeps the numbering (R190); RESTART is refused while the vehicle moves and otherwise promises a
start after its OK (R203); a line that names no command is refused with RANGE (R200); a reply that has been sent
leaves the parser IDLE. -/
def Obligations.ServiceCommandsReply : Prop :=
  (∀ (dt clip : Nat) (line : String) (c : Instr) (s : State), s.cfs.reply.isSome = true →
      c ∈ [.status dt, .readRoute dt, .readPeers dt, .readSeats dt, .readScenes dt, .readVoices dt, .readClock dt,
        .readIncidents dt, .clearIncidents dt, .serviceStopOn dt, .serviceStopOff dt, .park dt, .restart dt,
        .testClip dt clip, .unknownCommand dt line] →
      exec c s = .next { s with now := s.now + dt })
    ∧ (∀ (dt : Nat) (s : State), s.powered = true →
      (s.cfs.reply = none → exec (.clearIncidents dt) s = .next { s with
          now := s.now + dt, stc := { s.stc with incidents := [] }, cfs := { s.cfs with reply := some .ok } })
        ∧ (s.cfs.reply = none → (s.dsc.motion = .running ∨ s.dsc.motion = .stopping) →
            exec (.restart dt) s = .next { s with
              now := s.now + dt, cfs := { s.cfs with reply := some (.refused .busy) } })
        ∧ (s.cfs.reply = none → s.dsc.motion ≠ .running → s.dsc.motion ≠ .stopping →
            exec (.restart dt) s = .next { s with
              now := s.now + dt, cfs := { s.cfs with restarting := true, reply := some .ok } })
        ∧ (s.cfs.reply = none → ∀ line, parseLine line = none →
            exec (.unknownCommand dt line) s = .next { s with
              now := s.now + dt, cfs := { s.cfs with reply := some (.refused .range) } })
        ∧ (s.cfs.restarting = false → exec (.serviceReplySent dt) s = .next { s with
              now := s.now + dt, cfs := { s.cfs with reply := none } }))

/-- SERVICE-STOP (R202, R182): refused with STATE unless READY; while the part acts, ON raises SERVICE, level 1, with
its record, and OFF withdraws it, the latch staying; each replies OK, also where the cause stood as commanded, which
changes nothing else. A parked part wakes for either first (R199): ON then raises the cause, and OFF finds none. -/
def Obligations.ServiceStopRaisesAndWithdraws : Prop :=
  (∀ (dt : Nat) (s : State), s.powered = true → s.cfs.reply = none → s.cfs.load ≠ .ready →
    exec (.serviceStopOn dt) s = .next { s with
        now := s.now + dt, cfs := { s.cfs with reply := some (.refused .state) } }
      ∧ exec (.serviceStopOff dt) s = .next { s with
        now := s.now + dt, cfs := { s.cfs with reply := some (.refused .state) } })
    ∧ (∀ (dt : Nat) (s : State), s.active = true → s.cfs.reply = none → s.StopsSound →
      Cause.service ∉ s.stc.causes →
      ∃ t, exec (.serviceStopOn dt) s = .next t
        ∧ t.stc.causes = s.stc.causes ++ [.service] ∧ t.stc.latch = max s.stc.latch 1
        ∧ t.stc.incidents = (if s.stc.incidents.length < 16 then s.stc.incidents else s.stc.incidents.drop 1)
          ++ [(s.elapse dt).incidentNow (.local_ .service) 1 s.cfg.opt.station]
        ∧ (s.stc.asserted = 0 → s.ni.queue = [] → t.ni.queue = [.stop 1 9, .pos true])
        ∧ t.cfs = { s.cfs with reply := some .ok } ∧ t.cfg = s.cfg ∧ t.ptb = s.ptb ∧ t.now = s.now + dt)
    ∧ (∀ (dt : Nat) (s : State), s.parked = true → s.cfs.reply = none →
      ∃ t, exec (.serviceStopOn dt) s = .next t
        ∧ t.cfs = { s.cfs with startCause := .wake, wakeReason := some .service, reply := some .ok }
        ∧ t.dsc.motion = .lost ∧ t.stc.causes = [.service] ∧ t.stc.latch = 1)
    ∧ (∀ (dt : Nat) (s : State), s.active = true → s.cfs.reply = none → Cause.service ∈ s.stc.causes →
      exec (.serviceStopOn dt) s = .next { s with now := s.now + dt, cfs := { s.cfs with reply := some .ok } }
      ∧ ∃ t, exec (.serviceStopOff dt) s = .next t
        ∧ t.stc = { s.stc with causes := s.stc.causes.filter (· ≠ .service) }
        ∧ t.cfs = { s.cfs with reply := some .ok }
        ∧ { t with now := s.now, stc := s.stc, ni := s.ni, cfs := s.cfs } = s)
    ∧ (∀ (dt : Nat) (s : State), s.active = true → s.cfs.reply = none → Cause.service ∉ s.stc.causes →
      exec (.serviceStopOff dt) s = .next { s with now := s.now + dt, cfs := { s.cfs with reply := some .ok } })
    ∧ (∀ (dt : Nat) (s : State), s.parked = true → s.cfs.reply = none →
      ∃ t, exec (.serviceStopOff dt) s = .next t ∧ s.WokenByService t ∧ t.now = s.now + dt
        ∧ t.spe.v0.state = .idle)

/-- TEST-CLIP (R203): refused with STATE outside READY and while the vehicle may move, with RANGE for a clip outside
the directory; otherwise the clip is requested on voice 0, which takes it at once where it is IDLE, and where it is busy
has it at the end of its queue, in place of the newest request of a full one (R163). An accepted TEST-CLIP in PARKED first
wakes the part (R199). That a clip outside the directory is refused in PARKED without a wake is deduced (log entry 51). -/
def Obligations.TestClipPlaysOnVoiceZero : Prop :=
  (∀ (dt clip : Nat) (s : State), s.powered = true → s.cfs.reply = none →
    (s.cfs.load ≠ .ready ∨ (s.dsc.motion ≠ .held ∧ s.dsc.motion ≠ .lost ∧ s.dsc.motion ≠ .parked)) →
    exec (.testClip dt clip) s = .next { s with
      now := s.now + dt, cfs := { s.cfs with reply := some (.refused .state) } })
    ∧ (∀ (dt clip : Nat) (s : State), s.powered = true → s.cfs.reply = none → s.cfs.load = .ready →
      (s.dsc.motion = .held ∨ s.dsc.motion = .lost ∨ s.dsc.motion = .parked) →
      (clip = 0 ∨ s.cfg.clips.length < clip) →
      exec (.testClip dt clip) s = .next { s with
        now := s.now + dt, cfs := { s.cfs with reply := some (.refused .range) } })
    ∧ (∀ (dt clip : Nat) (s : State), s.active = true → s.cfs.reply = none →
      (s.dsc.motion = .held ∨ s.dsc.motion = .lost) → 1 ≤ clip → clip ≤ s.cfg.clips.length →
      s.spe.v0.state = .idle →
      ∃ t, exec (.testClip dt clip) s = .next t
        ∧ t.spe.v0.state = .playing ∧ t.spe.v0.current = some ⟨clip, none, 256, 0, 0, .both, .service⟩
        ∧ t.spe.v0.position = 0 ∧ t.spe.v0.queue = s.spe.v0.queue
        ∧ t.spe.v1.current = s.spe.v1.current ∧ t.spe.v2.current = s.spe.v2.current
        ∧ t.spe.v3.current = s.spe.v3.current
        ∧ t.cfs = { s.cfs with reply := some .ok }
        ∧ { t with now := s.now, spe := s.spe, cfs := s.cfs } = s)
    ∧ (∀ (dt clip : Nat) (s : State), s.active = true → s.cfs.reply = none →
      (s.dsc.motion = .held ∨ s.dsc.motion = .lost) → 1 ≤ clip → clip ≤ s.cfg.clips.length →
      s.spe.v0.state ≠ .idle →
      exec (.testClip dt clip) s = .next { s with
        now := s.now + dt, cfs := { s.cfs with reply := some .ok }
        spe := { s.spe with v0 := { s.spe.v0 with
          queue := (if s.spe.v0.queue.length < 4 then s.spe.v0.queue else s.spe.v0.queue.dropLast)
            ++ [⟨clip, none, 256, 0, 0, .both, .service⟩] } } })
    ∧ (∀ (dt clip : Nat) (s : State), s.parked = true → s.cfs.reply = none → 1 ≤ clip →
      clip ≤ s.cfg.clips.length →
      ∃ t, exec (.testClip dt clip) s = .next t ∧ s.WokenByService t ∧ t.now = s.now + dt
        ∧ t.spe.v0.state = .playing ∧ t.spe.v0.current = some ⟨clip, none, 256, 0, 0, .both, .service⟩
        ∧ t.spe.v0.position = 0 ∧ t.spe.v0.queue = [])

/-! ### Invariants -/

/-- Every command keeps DriveSafe: the brake line is released in RUNNING and STOPPING alone, the command is 0 outside
them and never above the authority (R93, R95, R96). -/
def Obligations.DriveStaysSafe : Prop :=
  ∀ s t : State, s.DriveSafe → step s = .next t → t.DriveSafe

/-- Every command keeps AuthoritySafe: an authority above 0 needs an acting part, a KNOWN position, SECURE restraints
and a latch below 2 (R74, R75); together with what it rests on, the sound stops and the load states and timers. -/
def Obligations.AuthorityStaysSafe : Prop :=
  ∀ s t : State, s.AuthoritySafe ∧ s.StopsSound ∧ s.LifeSound → step s = .next t →
    t.AuthoritySafe ∧ t.StopsSound ∧ t.LifeSound

/-- While the part acts the motion state is LOST exactly while the position is (R91), and in HELD at a KNOWN position a
DWELL hold is released or its timer runs (R19); together with the load states and timers they rest on. -/
def Obligations.PositionStaysAgreed : Prop :=
  ∀ s t : State, s.PositionAgrees ∧ s.DwellSound ∧ s.LifeSound → step s = .next t →
    t.PositionAgrees ∧ t.DwellSound ∧ t.LifeSound

/-- Every command leaves the release output active exactly while the four conditions of R120 hold and the part acts;
together with the load states and timers it rests on. -/
def Obligations.ReleaseStaysSafe : Prop :=
  ∀ s t : State, s.ReleaseSafe ∧ s.LifeSound → step s = .next t → t.ReleaseSafe ∧ t.LifeSound

/-- The causes stand once each, the asserted level never exceeds the latch, the latch never exceeds 2 and the ring
holds at most 16 records (R181, R183, R188). -/
def Obligations.StopsStaySound : Prop :=
  ∀ s t : State, s.StopsSound → step s = .next t → t.StopsSound

/-- The peer table holds at most 24 records, one for each station (R45). -/
def Obligations.PeersStaySound : Prop :=
  ∀ s t : State, s.PeersSound → step s = .next t → t.PeersSound

/-- The transmit queue holds at most 6 frames, S before C before P, with at most one POS (R36), and no play queue ever
holds more than 4 requests (R163). -/
def Obligations.QueuesStaySound : Prop :=
  (∀ s t : State, s.QueueSound → step s = .next t → t.QueueSound)
    ∧ (∀ s t : State, s.VoicesSound → step s = .next t → t.VoicesSound)

/-- The slots hold scenes exactly outside FREE and never the same scene (R123), and the tracker at most 8 records, one
for each pair (R138). -/
def Obligations.SlotsAndTrackerStaySound : Prop :=
  ∀ s t : State, s.SlotsSound ∧ s.TrackerSound → step s = .next t → t.SlotsSound ∧ t.TrackerSound

/-- A part that is READY runs on a configuration that passed the load's checks (R194, R195). -/
def Obligations.ConfigurationStaysSound : Prop :=
  ∀ s t : State, s.ConfigSound → step s = .next t → t.ConfigSound
end

