-- ==== Sys2Proof/Laws/State.lean ====
section
/-! SUPPORT. What each update of State leaves and sets: one lemma per field per update, true by rfl, so that
no later proof unfolds a record update. -/

namespace Sys2Proof.Machine

@[simp] theorem State.setPowered_powered (s : State) (x : Bool) : (s.setPowered x).powered = x := rfl
@[simp] theorem State.setPowered_now (s : State) (x : Bool) : (s.setPowered x).now = s.now := rfl
@[simp] theorem State.setPowered_choices (s : State) (x : Bool) : (s.setPowered x).choices = s.choices := rfl
@[simp] theorem State.setPowered_cfg (s : State) (x : Bool) : (s.setPowered x).cfg = s.cfg := rfl
@[simp] theorem State.setPowered_cfs (s : State) (x : Bool) : (s.setPowered x).cfs = s.cfs := rfl
@[simp] theorem State.setPowered_ni (s : State) (x : Bool) : (s.setPowered x).ni = s.ni := rfl
@[simp] theorem State.setPowered_ptb (s : State) (x : Bool) : (s.setPowered x).ptb = s.ptb := rfl
@[simp] theorem State.setPowered_sau (s : State) (x : Bool) : (s.setPowered x).sau = s.sau := rfl
@[simp] theorem State.setPowered_dsc (s : State) (x : Bool) : (s.setPowered x).dsc = s.dsc := rfl
@[simp] theorem State.setPowered_rm (s : State) (x : Bool) : (s.setPowered x).rm = s.rm := rfl
@[simp] theorem State.setPowered_rsq (s : State) (x : Bool) : (s.setPowered x).rsq = s.rsq := rfl
@[simp] theorem State.setPowered_scu (s : State) (x : Bool) : (s.setPowered x).scu = s.scu := rfl
@[simp] theorem State.setPowered_sck (s : State) (x : Bool) : (s.setPowered x).sck = s.sck := rfl
@[simp] theorem State.setPowered_spe (s : State) (x : Bool) : (s.setPowered x).spe = s.spe := rfl
@[simp] theorem State.setPowered_stc (s : State) (x : Bool) : (s.setPowered x).stc = s.stc := rfl
@[simp] theorem State.setPowered_pending (s : State) (x : Bool) : (s.setPowered x).pending = s.pending := rfl

@[simp] theorem State.setNow_powered (s : State) (x : Nat) : (s.setNow x).powered = s.powered := rfl
@[simp] theorem State.setNow_now (s : State) (x : Nat) : (s.setNow x).now = x := rfl
@[simp] theorem State.setNow_choices (s : State) (x : Nat) : (s.setNow x).choices = s.choices := rfl
@[simp] theorem State.setNow_cfg (s : State) (x : Nat) : (s.setNow x).cfg = s.cfg := rfl
@[simp] theorem State.setNow_cfs (s : State) (x : Nat) : (s.setNow x).cfs = s.cfs := rfl
@[simp] theorem State.setNow_ni (s : State) (x : Nat) : (s.setNow x).ni = s.ni := rfl
@[simp] theorem State.setNow_ptb (s : State) (x : Nat) : (s.setNow x).ptb = s.ptb := rfl
@[simp] theorem State.setNow_sau (s : State) (x : Nat) : (s.setNow x).sau = s.sau := rfl
@[simp] theorem State.setNow_dsc (s : State) (x : Nat) : (s.setNow x).dsc = s.dsc := rfl
@[simp] theorem State.setNow_rm (s : State) (x : Nat) : (s.setNow x).rm = s.rm := rfl
@[simp] theorem State.setNow_rsq (s : State) (x : Nat) : (s.setNow x).rsq = s.rsq := rfl
@[simp] theorem State.setNow_scu (s : State) (x : Nat) : (s.setNow x).scu = s.scu := rfl
@[simp] theorem State.setNow_sck (s : State) (x : Nat) : (s.setNow x).sck = s.sck := rfl
@[simp] theorem State.setNow_spe (s : State) (x : Nat) : (s.setNow x).spe = s.spe := rfl
@[simp] theorem State.setNow_stc (s : State) (x : Nat) : (s.setNow x).stc = s.stc := rfl
@[simp] theorem State.setNow_pending (s : State) (x : Nat) : (s.setNow x).pending = s.pending := rfl

@[simp] theorem State.setChoices_powered (s : State) (x : Nat) : (s.setChoices x).powered = s.powered := rfl
@[simp] theorem State.setChoices_now (s : State) (x : Nat) : (s.setChoices x).now = s.now := rfl
@[simp] theorem State.setChoices_choices (s : State) (x : Nat) : (s.setChoices x).choices = x := rfl
@[simp] theorem State.setChoices_cfg (s : State) (x : Nat) : (s.setChoices x).cfg = s.cfg := rfl
@[simp] theorem State.setChoices_cfs (s : State) (x : Nat) : (s.setChoices x).cfs = s.cfs := rfl
@[simp] theorem State.setChoices_ni (s : State) (x : Nat) : (s.setChoices x).ni = s.ni := rfl
@[simp] theorem State.setChoices_ptb (s : State) (x : Nat) : (s.setChoices x).ptb = s.ptb := rfl
@[simp] theorem State.setChoices_sau (s : State) (x : Nat) : (s.setChoices x).sau = s.sau := rfl
@[simp] theorem State.setChoices_dsc (s : State) (x : Nat) : (s.setChoices x).dsc = s.dsc := rfl
@[simp] theorem State.setChoices_rm (s : State) (x : Nat) : (s.setChoices x).rm = s.rm := rfl
@[simp] theorem State.setChoices_rsq (s : State) (x : Nat) : (s.setChoices x).rsq = s.rsq := rfl
@[simp] theorem State.setChoices_scu (s : State) (x : Nat) : (s.setChoices x).scu = s.scu := rfl
@[simp] theorem State.setChoices_sck (s : State) (x : Nat) : (s.setChoices x).sck = s.sck := rfl
@[simp] theorem State.setChoices_spe (s : State) (x : Nat) : (s.setChoices x).spe = s.spe := rfl
@[simp] theorem State.setChoices_stc (s : State) (x : Nat) : (s.setChoices x).stc = s.stc := rfl
@[simp] theorem State.setChoices_pending (s : State) (x : Nat) : (s.setChoices x).pending = s.pending := rfl

@[simp] theorem State.setCfg_powered (s : State) (x : Configuration) : (s.setCfg x).powered = s.powered := rfl
@[simp] theorem State.setCfg_now (s : State) (x : Configuration) : (s.setCfg x).now = s.now := rfl
@[simp] theorem State.setCfg_choices (s : State) (x : Configuration) : (s.setCfg x).choices = s.choices := rfl
@[simp] theorem State.setCfg_cfg (s : State) (x : Configuration) : (s.setCfg x).cfg = x := rfl
@[simp] theorem State.setCfg_cfs (s : State) (x : Configuration) : (s.setCfg x).cfs = s.cfs := rfl
@[simp] theorem State.setCfg_ni (s : State) (x : Configuration) : (s.setCfg x).ni = s.ni := rfl
@[simp] theorem State.setCfg_ptb (s : State) (x : Configuration) : (s.setCfg x).ptb = s.ptb := rfl
@[simp] theorem State.setCfg_sau (s : State) (x : Configuration) : (s.setCfg x).sau = s.sau := rfl
@[simp] theorem State.setCfg_dsc (s : State) (x : Configuration) : (s.setCfg x).dsc = s.dsc := rfl
@[simp] theorem State.setCfg_rm (s : State) (x : Configuration) : (s.setCfg x).rm = s.rm := rfl
@[simp] theorem State.setCfg_rsq (s : State) (x : Configuration) : (s.setCfg x).rsq = s.rsq := rfl
@[simp] theorem State.setCfg_scu (s : State) (x : Configuration) : (s.setCfg x).scu = s.scu := rfl
@[simp] theorem State.setCfg_sck (s : State) (x : Configuration) : (s.setCfg x).sck = s.sck := rfl
@[simp] theorem State.setCfg_spe (s : State) (x : Configuration) : (s.setCfg x).spe = s.spe := rfl
@[simp] theorem State.setCfg_stc (s : State) (x : Configuration) : (s.setCfg x).stc = s.stc := rfl
@[simp] theorem State.setCfg_pending (s : State) (x : Configuration) : (s.setCfg x).pending = s.pending := rfl

@[simp] theorem State.setCfs_powered (s : State) (x : Cfs) : (s.setCfs x).powered = s.powered := rfl
@[simp] theorem State.setCfs_now (s : State) (x : Cfs) : (s.setCfs x).now = s.now := rfl
@[simp] theorem State.setCfs_choices (s : State) (x : Cfs) : (s.setCfs x).choices = s.choices := rfl
@[simp] theorem State.setCfs_cfg (s : State) (x : Cfs) : (s.setCfs x).cfg = s.cfg := rfl
@[simp] theorem State.setCfs_cfs (s : State) (x : Cfs) : (s.setCfs x).cfs = x := rfl
@[simp] theorem State.setCfs_ni (s : State) (x : Cfs) : (s.setCfs x).ni = s.ni := rfl
@[simp] theorem State.setCfs_ptb (s : State) (x : Cfs) : (s.setCfs x).ptb = s.ptb := rfl
@[simp] theorem State.setCfs_sau (s : State) (x : Cfs) : (s.setCfs x).sau = s.sau := rfl
@[simp] theorem State.setCfs_dsc (s : State) (x : Cfs) : (s.setCfs x).dsc = s.dsc := rfl
@[simp] theorem State.setCfs_rm (s : State) (x : Cfs) : (s.setCfs x).rm = s.rm := rfl
@[simp] theorem State.setCfs_rsq (s : State) (x : Cfs) : (s.setCfs x).rsq = s.rsq := rfl
@[simp] theorem State.setCfs_scu (s : State) (x : Cfs) : (s.setCfs x).scu = s.scu := rfl
@[simp] theorem State.setCfs_sck (s : State) (x : Cfs) : (s.setCfs x).sck = s.sck := rfl
@[simp] theorem State.setCfs_spe (s : State) (x : Cfs) : (s.setCfs x).spe = s.spe := rfl
@[simp] theorem State.setCfs_stc (s : State) (x : Cfs) : (s.setCfs x).stc = s.stc := rfl
@[simp] theorem State.setCfs_pending (s : State) (x : Cfs) : (s.setCfs x).pending = s.pending := rfl

@[simp] theorem State.setNi_powered (s : State) (x : Ni) : (s.setNi x).powered = s.powered := rfl
@[simp] theorem State.setNi_now (s : State) (x : Ni) : (s.setNi x).now = s.now := rfl
@[simp] theorem State.setNi_choices (s : State) (x : Ni) : (s.setNi x).choices = s.choices := rfl
@[simp] theorem State.setNi_cfg (s : State) (x : Ni) : (s.setNi x).cfg = s.cfg := rfl
@[simp] theorem State.setNi_cfs (s : State) (x : Ni) : (s.setNi x).cfs = s.cfs := rfl
@[simp] theorem State.setNi_ni (s : State) (x : Ni) : (s.setNi x).ni = x := rfl
@[simp] theorem State.setNi_ptb (s : State) (x : Ni) : (s.setNi x).ptb = s.ptb := rfl
@[simp] theorem State.setNi_sau (s : State) (x : Ni) : (s.setNi x).sau = s.sau := rfl
@[simp] theorem State.setNi_dsc (s : State) (x : Ni) : (s.setNi x).dsc = s.dsc := rfl
@[simp] theorem State.setNi_rm (s : State) (x : Ni) : (s.setNi x).rm = s.rm := rfl
@[simp] theorem State.setNi_rsq (s : State) (x : Ni) : (s.setNi x).rsq = s.rsq := rfl
@[simp] theorem State.setNi_scu (s : State) (x : Ni) : (s.setNi x).scu = s.scu := rfl
@[simp] theorem State.setNi_sck (s : State) (x : Ni) : (s.setNi x).sck = s.sck := rfl
@[simp] theorem State.setNi_spe (s : State) (x : Ni) : (s.setNi x).spe = s.spe := rfl
@[simp] theorem State.setNi_stc (s : State) (x : Ni) : (s.setNi x).stc = s.stc := rfl
@[simp] theorem State.setNi_pending (s : State) (x : Ni) : (s.setNi x).pending = s.pending := rfl

@[simp] theorem State.setPtb_powered (s : State) (x : List Peer) : (s.setPtb x).powered = s.powered := rfl
@[simp] theorem State.setPtb_now (s : State) (x : List Peer) : (s.setPtb x).now = s.now := rfl
@[simp] theorem State.setPtb_choices (s : State) (x : List Peer) : (s.setPtb x).choices = s.choices := rfl
@[simp] theorem State.setPtb_cfg (s : State) (x : List Peer) : (s.setPtb x).cfg = s.cfg := rfl
@[simp] theorem State.setPtb_cfs (s : State) (x : List Peer) : (s.setPtb x).cfs = s.cfs := rfl
@[simp] theorem State.setPtb_ni (s : State) (x : List Peer) : (s.setPtb x).ni = s.ni := rfl
@[simp] theorem State.setPtb_ptb (s : State) (x : List Peer) : (s.setPtb x).ptb = x := rfl
@[simp] theorem State.setPtb_sau (s : State) (x : List Peer) : (s.setPtb x).sau = s.sau := rfl
@[simp] theorem State.setPtb_dsc (s : State) (x : List Peer) : (s.setPtb x).dsc = s.dsc := rfl
@[simp] theorem State.setPtb_rm (s : State) (x : List Peer) : (s.setPtb x).rm = s.rm := rfl
@[simp] theorem State.setPtb_rsq (s : State) (x : List Peer) : (s.setPtb x).rsq = s.rsq := rfl
@[simp] theorem State.setPtb_scu (s : State) (x : List Peer) : (s.setPtb x).scu = s.scu := rfl
@[simp] theorem State.setPtb_sck (s : State) (x : List Peer) : (s.setPtb x).sck = s.sck := rfl
@[simp] theorem State.setPtb_spe (s : State) (x : List Peer) : (s.setPtb x).spe = s.spe := rfl
@[simp] theorem State.setPtb_stc (s : State) (x : List Peer) : (s.setPtb x).stc = s.stc := rfl
@[simp] theorem State.setPtb_pending (s : State) (x : List Peer) : (s.setPtb x).pending = s.pending := rfl

@[simp] theorem State.setSau_powered (s : State) (x : Sau) : (s.setSau x).powered = s.powered := rfl
@[simp] theorem State.setSau_now (s : State) (x : Sau) : (s.setSau x).now = s.now := rfl
@[simp] theorem State.setSau_choices (s : State) (x : Sau) : (s.setSau x).choices = s.choices := rfl
@[simp] theorem State.setSau_cfg (s : State) (x : Sau) : (s.setSau x).cfg = s.cfg := rfl
@[simp] theorem State.setSau_cfs (s : State) (x : Sau) : (s.setSau x).cfs = s.cfs := rfl
@[simp] theorem State.setSau_ni (s : State) (x : Sau) : (s.setSau x).ni = s.ni := rfl
@[simp] theorem State.setSau_ptb (s : State) (x : Sau) : (s.setSau x).ptb = s.ptb := rfl
@[simp] theorem State.setSau_sau (s : State) (x : Sau) : (s.setSau x).sau = x := rfl
@[simp] theorem State.setSau_dsc (s : State) (x : Sau) : (s.setSau x).dsc = s.dsc := rfl
@[simp] theorem State.setSau_rm (s : State) (x : Sau) : (s.setSau x).rm = s.rm := rfl
@[simp] theorem State.setSau_rsq (s : State) (x : Sau) : (s.setSau x).rsq = s.rsq := rfl
@[simp] theorem State.setSau_scu (s : State) (x : Sau) : (s.setSau x).scu = s.scu := rfl
@[simp] theorem State.setSau_sck (s : State) (x : Sau) : (s.setSau x).sck = s.sck := rfl
@[simp] theorem State.setSau_spe (s : State) (x : Sau) : (s.setSau x).spe = s.spe := rfl
@[simp] theorem State.setSau_stc (s : State) (x : Sau) : (s.setSau x).stc = s.stc := rfl
@[simp] theorem State.setSau_pending (s : State) (x : Sau) : (s.setSau x).pending = s.pending := rfl

@[simp] theorem State.setDsc_powered (s : State) (x : Dsc) : (s.setDsc x).powered = s.powered := rfl
@[simp] theorem State.setDsc_now (s : State) (x : Dsc) : (s.setDsc x).now = s.now := rfl
@[simp] theorem State.setDsc_choices (s : State) (x : Dsc) : (s.setDsc x).choices = s.choices := rfl
@[simp] theorem State.setDsc_cfg (s : State) (x : Dsc) : (s.setDsc x).cfg = s.cfg := rfl
@[simp] theorem State.setDsc_cfs (s : State) (x : Dsc) : (s.setDsc x).cfs = s.cfs := rfl
@[simp] theorem State.setDsc_ni (s : State) (x : Dsc) : (s.setDsc x).ni = s.ni := rfl
@[simp] theorem State.setDsc_ptb (s : State) (x : Dsc) : (s.setDsc x).ptb = s.ptb := rfl
@[simp] theorem State.setDsc_sau (s : State) (x : Dsc) : (s.setDsc x).sau = s.sau := rfl
@[simp] theorem State.setDsc_dsc (s : State) (x : Dsc) : (s.setDsc x).dsc = x := rfl
@[simp] theorem State.setDsc_rm (s : State) (x : Dsc) : (s.setDsc x).rm = s.rm := rfl
@[simp] theorem State.setDsc_rsq (s : State) (x : Dsc) : (s.setDsc x).rsq = s.rsq := rfl
@[simp] theorem State.setDsc_scu (s : State) (x : Dsc) : (s.setDsc x).scu = s.scu := rfl
@[simp] theorem State.setDsc_sck (s : State) (x : Dsc) : (s.setDsc x).sck = s.sck := rfl
@[simp] theorem State.setDsc_spe (s : State) (x : Dsc) : (s.setDsc x).spe = s.spe := rfl
@[simp] theorem State.setDsc_stc (s : State) (x : Dsc) : (s.setDsc x).stc = s.stc := rfl
@[simp] theorem State.setDsc_pending (s : State) (x : Dsc) : (s.setDsc x).pending = s.pending := rfl

@[simp] theorem State.setRm_powered (s : State) (x : Rm) : (s.setRm x).powered = s.powered := rfl
@[simp] theorem State.setRm_now (s : State) (x : Rm) : (s.setRm x).now = s.now := rfl
@[simp] theorem State.setRm_choices (s : State) (x : Rm) : (s.setRm x).choices = s.choices := rfl
@[simp] theorem State.setRm_cfg (s : State) (x : Rm) : (s.setRm x).cfg = s.cfg := rfl
@[simp] theorem State.setRm_cfs (s : State) (x : Rm) : (s.setRm x).cfs = s.cfs := rfl
@[simp] theorem State.setRm_ni (s : State) (x : Rm) : (s.setRm x).ni = s.ni := rfl
@[simp] theorem State.setRm_ptb (s : State) (x : Rm) : (s.setRm x).ptb = s.ptb := rfl
@[simp] theorem State.setRm_sau (s : State) (x : Rm) : (s.setRm x).sau = s.sau := rfl
@[simp] theorem State.setRm_dsc (s : State) (x : Rm) : (s.setRm x).dsc = s.dsc := rfl
@[simp] theorem State.setRm_rm (s : State) (x : Rm) : (s.setRm x).rm = x := rfl
@[simp] theorem State.setRm_rsq (s : State) (x : Rm) : (s.setRm x).rsq = s.rsq := rfl
@[simp] theorem State.setRm_scu (s : State) (x : Rm) : (s.setRm x).scu = s.scu := rfl
@[simp] theorem State.setRm_sck (s : State) (x : Rm) : (s.setRm x).sck = s.sck := rfl
@[simp] theorem State.setRm_spe (s : State) (x : Rm) : (s.setRm x).spe = s.spe := rfl
@[simp] theorem State.setRm_stc (s : State) (x : Rm) : (s.setRm x).stc = s.stc := rfl
@[simp] theorem State.setRm_pending (s : State) (x : Rm) : (s.setRm x).pending = s.pending := rfl

@[simp] theorem State.setRsq_powered (s : State) (x : Rsq) : (s.setRsq x).powered = s.powered := rfl
@[simp] theorem State.setRsq_now (s : State) (x : Rsq) : (s.setRsq x).now = s.now := rfl
@[simp] theorem State.setRsq_choices (s : State) (x : Rsq) : (s.setRsq x).choices = s.choices := rfl
@[simp] theorem State.setRsq_cfg (s : State) (x : Rsq) : (s.setRsq x).cfg = s.cfg := rfl
@[simp] theorem State.setRsq_cfs (s : State) (x : Rsq) : (s.setRsq x).cfs = s.cfs := rfl
@[simp] theorem State.setRsq_ni (s : State) (x : Rsq) : (s.setRsq x).ni = s.ni := rfl
@[simp] theorem State.setRsq_ptb (s : State) (x : Rsq) : (s.setRsq x).ptb = s.ptb := rfl
@[simp] theorem State.setRsq_sau (s : State) (x : Rsq) : (s.setRsq x).sau = s.sau := rfl
@[simp] theorem State.setRsq_dsc (s : State) (x : Rsq) : (s.setRsq x).dsc = s.dsc := rfl
@[simp] theorem State.setRsq_rm (s : State) (x : Rsq) : (s.setRsq x).rm = s.rm := rfl
@[simp] theorem State.setRsq_rsq (s : State) (x : Rsq) : (s.setRsq x).rsq = x := rfl
@[simp] theorem State.setRsq_scu (s : State) (x : Rsq) : (s.setRsq x).scu = s.scu := rfl
@[simp] theorem State.setRsq_sck (s : State) (x : Rsq) : (s.setRsq x).sck = s.sck := rfl
@[simp] theorem State.setRsq_spe (s : State) (x : Rsq) : (s.setRsq x).spe = s.spe := rfl
@[simp] theorem State.setRsq_stc (s : State) (x : Rsq) : (s.setRsq x).stc = s.stc := rfl
@[simp] theorem State.setRsq_pending (s : State) (x : Rsq) : (s.setRsq x).pending = s.pending := rfl

@[simp] theorem State.setScu_powered (s : State) (x : Scu) : (s.setScu x).powered = s.powered := rfl
@[simp] theorem State.setScu_now (s : State) (x : Scu) : (s.setScu x).now = s.now := rfl
@[simp] theorem State.setScu_choices (s : State) (x : Scu) : (s.setScu x).choices = s.choices := rfl
@[simp] theorem State.setScu_cfg (s : State) (x : Scu) : (s.setScu x).cfg = s.cfg := rfl
@[simp] theorem State.setScu_cfs (s : State) (x : Scu) : (s.setScu x).cfs = s.cfs := rfl
@[simp] theorem State.setScu_ni (s : State) (x : Scu) : (s.setScu x).ni = s.ni := rfl
@[simp] theorem State.setScu_ptb (s : State) (x : Scu) : (s.setScu x).ptb = s.ptb := rfl
@[simp] theorem State.setScu_sau (s : State) (x : Scu) : (s.setScu x).sau = s.sau := rfl
@[simp] theorem State.setScu_dsc (s : State) (x : Scu) : (s.setScu x).dsc = s.dsc := rfl
@[simp] theorem State.setScu_rm (s : State) (x : Scu) : (s.setScu x).rm = s.rm := rfl
@[simp] theorem State.setScu_rsq (s : State) (x : Scu) : (s.setScu x).rsq = s.rsq := rfl
@[simp] theorem State.setScu_scu (s : State) (x : Scu) : (s.setScu x).scu = x := rfl
@[simp] theorem State.setScu_sck (s : State) (x : Scu) : (s.setScu x).sck = s.sck := rfl
@[simp] theorem State.setScu_spe (s : State) (x : Scu) : (s.setScu x).spe = s.spe := rfl
@[simp] theorem State.setScu_stc (s : State) (x : Scu) : (s.setScu x).stc = s.stc := rfl
@[simp] theorem State.setScu_pending (s : State) (x : Scu) : (s.setScu x).pending = s.pending := rfl

@[simp] theorem State.setSck_powered (s : State) (x : Sck) : (s.setSck x).powered = s.powered := rfl
@[simp] theorem State.setSck_now (s : State) (x : Sck) : (s.setSck x).now = s.now := rfl
@[simp] theorem State.setSck_choices (s : State) (x : Sck) : (s.setSck x).choices = s.choices := rfl
@[simp] theorem State.setSck_cfg (s : State) (x : Sck) : (s.setSck x).cfg = s.cfg := rfl
@[simp] theorem State.setSck_cfs (s : State) (x : Sck) : (s.setSck x).cfs = s.cfs := rfl
@[simp] theorem State.setSck_ni (s : State) (x : Sck) : (s.setSck x).ni = s.ni := rfl
@[simp] theorem State.setSck_ptb (s : State) (x : Sck) : (s.setSck x).ptb = s.ptb := rfl
@[simp] theorem State.setSck_sau (s : State) (x : Sck) : (s.setSck x).sau = s.sau := rfl
@[simp] theorem State.setSck_dsc (s : State) (x : Sck) : (s.setSck x).dsc = s.dsc := rfl
@[simp] theorem State.setSck_rm (s : State) (x : Sck) : (s.setSck x).rm = s.rm := rfl
@[simp] theorem State.setSck_rsq (s : State) (x : Sck) : (s.setSck x).rsq = s.rsq := rfl
@[simp] theorem State.setSck_scu (s : State) (x : Sck) : (s.setSck x).scu = s.scu := rfl
@[simp] theorem State.setSck_sck (s : State) (x : Sck) : (s.setSck x).sck = x := rfl
@[simp] theorem State.setSck_spe (s : State) (x : Sck) : (s.setSck x).spe = s.spe := rfl
@[simp] theorem State.setSck_stc (s : State) (x : Sck) : (s.setSck x).stc = s.stc := rfl
@[simp] theorem State.setSck_pending (s : State) (x : Sck) : (s.setSck x).pending = s.pending := rfl

@[simp] theorem State.setSpe_powered (s : State) (x : Spe) : (s.setSpe x).powered = s.powered := rfl
@[simp] theorem State.setSpe_now (s : State) (x : Spe) : (s.setSpe x).now = s.now := rfl
@[simp] theorem State.setSpe_choices (s : State) (x : Spe) : (s.setSpe x).choices = s.choices := rfl
@[simp] theorem State.setSpe_cfg (s : State) (x : Spe) : (s.setSpe x).cfg = s.cfg := rfl
@[simp] theorem State.setSpe_cfs (s : State) (x : Spe) : (s.setSpe x).cfs = s.cfs := rfl
@[simp] theorem State.setSpe_ni (s : State) (x : Spe) : (s.setSpe x).ni = s.ni := rfl
@[simp] theorem State.setSpe_ptb (s : State) (x : Spe) : (s.setSpe x).ptb = s.ptb := rfl
@[simp] theorem State.setSpe_sau (s : State) (x : Spe) : (s.setSpe x).sau = s.sau := rfl
@[simp] theorem State.setSpe_dsc (s : State) (x : Spe) : (s.setSpe x).dsc = s.dsc := rfl
@[simp] theorem State.setSpe_rm (s : State) (x : Spe) : (s.setSpe x).rm = s.rm := rfl
@[simp] theorem State.setSpe_rsq (s : State) (x : Spe) : (s.setSpe x).rsq = s.rsq := rfl
@[simp] theorem State.setSpe_scu (s : State) (x : Spe) : (s.setSpe x).scu = s.scu := rfl
@[simp] theorem State.setSpe_sck (s : State) (x : Spe) : (s.setSpe x).sck = s.sck := rfl
@[simp] theorem State.setSpe_spe (s : State) (x : Spe) : (s.setSpe x).spe = x := rfl
@[simp] theorem State.setSpe_stc (s : State) (x : Spe) : (s.setSpe x).stc = s.stc := rfl
@[simp] theorem State.setSpe_pending (s : State) (x : Spe) : (s.setSpe x).pending = s.pending := rfl

@[simp] theorem State.setStc_powered (s : State) (x : Stc) : (s.setStc x).powered = s.powered := rfl
@[simp] theorem State.setStc_now (s : State) (x : Stc) : (s.setStc x).now = s.now := rfl
@[simp] theorem State.setStc_choices (s : State) (x : Stc) : (s.setStc x).choices = s.choices := rfl
@[simp] theorem State.setStc_cfg (s : State) (x : Stc) : (s.setStc x).cfg = s.cfg := rfl
@[simp] theorem State.setStc_cfs (s : State) (x : Stc) : (s.setStc x).cfs = s.cfs := rfl
@[simp] theorem State.setStc_ni (s : State) (x : Stc) : (s.setStc x).ni = s.ni := rfl
@[simp] theorem State.setStc_ptb (s : State) (x : Stc) : (s.setStc x).ptb = s.ptb := rfl
@[simp] theorem State.setStc_sau (s : State) (x : Stc) : (s.setStc x).sau = s.sau := rfl
@[simp] theorem State.setStc_dsc (s : State) (x : Stc) : (s.setStc x).dsc = s.dsc := rfl
@[simp] theorem State.setStc_rm (s : State) (x : Stc) : (s.setStc x).rm = s.rm := rfl
@[simp] theorem State.setStc_rsq (s : State) (x : Stc) : (s.setStc x).rsq = s.rsq := rfl
@[simp] theorem State.setStc_scu (s : State) (x : Stc) : (s.setStc x).scu = s.scu := rfl
@[simp] theorem State.setStc_sck (s : State) (x : Stc) : (s.setStc x).sck = s.sck := rfl
@[simp] theorem State.setStc_spe (s : State) (x : Stc) : (s.setStc x).spe = s.spe := rfl
@[simp] theorem State.setStc_stc (s : State) (x : Stc) : (s.setStc x).stc = x := rfl
@[simp] theorem State.setStc_pending (s : State) (x : Stc) : (s.setStc x).pending = s.pending := rfl

@[simp] theorem State.setPending_powered (s : State) (x : List Instr) : (s.setPending x).powered = s.powered := rfl
@[simp] theorem State.setPending_now (s : State) (x : List Instr) : (s.setPending x).now = s.now := rfl
@[simp] theorem State.setPending_choices (s : State) (x : List Instr) : (s.setPending x).choices = s.choices := rfl
@[simp] theorem State.setPending_cfg (s : State) (x : List Instr) : (s.setPending x).cfg = s.cfg := rfl
@[simp] theorem State.setPending_cfs (s : State) (x : List Instr) : (s.setPending x).cfs = s.cfs := rfl
@[simp] theorem State.setPending_ni (s : State) (x : List Instr) : (s.setPending x).ni = s.ni := rfl
@[simp] theorem State.setPending_ptb (s : State) (x : List Instr) : (s.setPending x).ptb = s.ptb := rfl
@[simp] theorem State.setPending_sau (s : State) (x : List Instr) : (s.setPending x).sau = s.sau := rfl
@[simp] theorem State.setPending_dsc (s : State) (x : List Instr) : (s.setPending x).dsc = s.dsc := rfl
@[simp] theorem State.setPending_rm (s : State) (x : List Instr) : (s.setPending x).rm = s.rm := rfl
@[simp] theorem State.setPending_rsq (s : State) (x : List Instr) : (s.setPending x).rsq = s.rsq := rfl
@[simp] theorem State.setPending_scu (s : State) (x : List Instr) : (s.setPending x).scu = s.scu := rfl
@[simp] theorem State.setPending_sck (s : State) (x : List Instr) : (s.setPending x).sck = s.sck := rfl
@[simp] theorem State.setPending_spe (s : State) (x : List Instr) : (s.setPending x).spe = s.spe := rfl
@[simp] theorem State.setPending_stc (s : State) (x : List Instr) : (s.setPending x).stc = s.stc := rfl
@[simp] theorem State.setPending_pending (s : State) (x : List Instr) : (s.setPending x).pending = x := rfl

end Sys2Proof.Machine
end

