-- ==== Sys2Proof/Laws/Frames.lean ====
section
/-! SUPPORT. What each shared operation leaves alone: one lemma per operation, for every part of the state that it
does not act on. The operations of cues, sound, clock, drive, stops, peers, slots and route. -/

namespace Sys2Proof.Machine

@[simp] theorem State.elapse_frame (dt : Nat) (s : State) : s.elapse dt = s.setNow (s.now + dt) := rfl

@[simp] theorem State.settled_frame (s : State) : s.settled = s.setChoices (s.choices + 1) := rfl

/-- Whatever holds after each of the two orders holds after the open one (R33). -/
theorem State.inEitherOrder_of {P : State → Prop} (f g : State → State) (s : State)
    (hf : P (g (f s.settled))) (hg : P (f (g s.settled))) : P (s.inEitherOrder f g) := by
  simp only [State.inEitherOrder]; split <;> assumption

/-- Whatever holds after each of the six orders holds after the open one (R186). -/
theorem State.inAnyOrder_of {P : State → Prop} (f g h : State → State) (s : State)
    (h0 : P (h (g (f s.settled)))) (h1 : P (g (h (f s.settled)))) (h2 : P (h (f (g s.settled))))
    (h3 : P (f (h (g s.settled)))) (h4 : P (g (f (h s.settled)))) (h5 : P (f (g (h s.settled)))) :
    P (s.inAnyOrder f g h) := by
  simp only [State.inAnyOrder]; split <;> assumption

@[simp] theorem State.requestPos_frame (urgent : Bool) (s : State) :
    (s.requestPos urgent).powered = s.powered
      ∧ (s.requestPos urgent).now = s.now
      ∧ (s.requestPos urgent).choices = s.choices
      ∧ (s.requestPos urgent).cfg = s.cfg
      ∧ (s.requestPos urgent).cfs = s.cfs
      ∧ (s.requestPos urgent).ptb = s.ptb
      ∧ (s.requestPos urgent).sau = s.sau
      ∧ (s.requestPos urgent).dsc = s.dsc
      ∧ (s.requestPos urgent).rm = s.rm
      ∧ (s.requestPos urgent).rsq = s.rsq
      ∧ (s.requestPos urgent).scu = s.scu
      ∧ (s.requestPos urgent).sck = s.sck
      ∧ (s.requestPos urgent).spe = s.spe
      ∧ (s.requestPos urgent).stc = s.stc
      ∧ (s.requestPos urgent).pending = s.pending := by
  simp only [State.requestPos]; (repeat' split) <;> simp

@[simp] theorem State.putFrame_frame (f : Waiting) (s : State) :
    (s.putFrame f).1.powered = s.powered
      ∧ (s.putFrame f).1.now = s.now
      ∧ (s.putFrame f).1.choices = s.choices
      ∧ (s.putFrame f).1.cfg = s.cfg
      ∧ (s.putFrame f).1.cfs = s.cfs
      ∧ (s.putFrame f).1.ptb = s.ptb
      ∧ (s.putFrame f).1.sau = s.sau
      ∧ (s.putFrame f).1.dsc = s.dsc
      ∧ (s.putFrame f).1.rm = s.rm
      ∧ (s.putFrame f).1.rsq = s.rsq
      ∧ (s.putFrame f).1.scu = s.scu
      ∧ (s.putFrame f).1.sck = s.sck
      ∧ (s.putFrame f).1.spe = s.spe
      ∧ (s.putFrame f).1.stc = s.stc
      ∧ (s.putFrame f).1.pending = s.pending := by
  simp only [State.putFrame]; (repeat' split) <;> simp

@[simp] theorem State.setChain_frame (s : State) (c : Chain) :
    (s.setChain c).powered = s.powered
      ∧ (s.setChain c).now = s.now
      ∧ (s.setChain c).choices = s.choices
      ∧ (s.setChain c).cfg = s.cfg
      ∧ (s.setChain c).cfs = s.cfs
      ∧ (s.setChain c).ni = s.ni
      ∧ (s.setChain c).ptb = s.ptb
      ∧ (s.setChain c).sau = s.sau
      ∧ (s.setChain c).dsc = s.dsc
      ∧ (s.setChain c).rm = s.rm
      ∧ (s.setChain c).rsq = s.rsq
      ∧ (s.setChain c).sck = s.sck
      ∧ (s.setChain c).spe = s.spe
      ∧ (s.setChain c).stc = s.stc
      ∧ (s.setChain c).pending = s.pending := by
  simp only [State.setChain]; (repeat' split) <;> simp

@[simp] theorem State.setCounters_frame (s : State) (c : Counters) :
    (s.setCounters c).powered = s.powered
      ∧ (s.setCounters c).now = s.now
      ∧ (s.setCounters c).choices = s.choices
      ∧ (s.setCounters c).cfg = s.cfg
      ∧ (s.setCounters c).cfs = s.cfs
      ∧ (s.setCounters c).ni = s.ni
      ∧ (s.setCounters c).ptb = s.ptb
      ∧ (s.setCounters c).sau = s.sau
      ∧ (s.setCounters c).dsc = s.dsc
      ∧ (s.setCounters c).rm = s.rm
      ∧ (s.setCounters c).rsq = s.rsq
      ∧ (s.setCounters c).sck = s.sck
      ∧ (s.setCounters c).spe = s.spe
      ∧ (s.setCounters c).stc = s.stc
      ∧ (s.setCounters c).pending = s.pending := by
  simp only [State.setCounters]; (repeat' split) <;> simp

@[simp] theorem State.abandonChain_frame (e : ChainEnd) (s : State) :
    (s.abandonChain e).powered = s.powered
      ∧ (s.abandonChain e).now = s.now
      ∧ (s.abandonChain e).choices = s.choices
      ∧ (s.abandonChain e).cfg = s.cfg
      ∧ (s.abandonChain e).cfs = s.cfs
      ∧ (s.abandonChain e).ni = s.ni
      ∧ (s.abandonChain e).ptb = s.ptb
      ∧ (s.abandonChain e).sau = s.sau
      ∧ (s.abandonChain e).dsc = s.dsc
      ∧ (s.abandonChain e).rm = s.rm
      ∧ (s.abandonChain e).rsq = s.rsq
      ∧ (s.abandonChain e).sck = s.sck
      ∧ (s.abandonChain e).spe = s.spe
      ∧ (s.abandonChain e).stc = s.stc
      ∧ (s.abandonChain e).pending = s.pending := by
  simp only [State.abandonChain]; (repeat' split) <;> simp

@[simp] theorem State.issue_frame (w : CueWord) (s : State) :
    (s.issue w).powered = s.powered
      ∧ (s.issue w).now = s.now
      ∧ (s.issue w).choices = s.choices
      ∧ (s.issue w).cfg = s.cfg
      ∧ (s.issue w).cfs = s.cfs
      ∧ (s.issue w).ptb = s.ptb
      ∧ (s.issue w).sau = s.sau
      ∧ (s.issue w).dsc = s.dsc
      ∧ (s.issue w).rm = s.rm
      ∧ (s.issue w).rsq = s.rsq
      ∧ (s.issue w).sck = s.sck
      ∧ (s.issue w).spe = s.spe
      ∧ (s.issue w).stc = s.stc
      ∧ (s.issue w).pending = s.pending := by
  simp only [State.issue]; (repeat' split) <;> simp

@[simp] theorem State.becomePending_frame (i : Nat) (s : State) :
    (s.becomePending i).powered = s.powered
      ∧ (s.becomePending i).now = s.now
      ∧ (s.becomePending i).choices = s.choices
      ∧ (s.becomePending i).cfg = s.cfg
      ∧ (s.becomePending i).cfs = s.cfs
      ∧ (s.becomePending i).ni = s.ni
      ∧ (s.becomePending i).ptb = s.ptb
      ∧ (s.becomePending i).sau = s.sau
      ∧ (s.becomePending i).dsc = s.dsc
      ∧ (s.becomePending i).rm = s.rm
      ∧ (s.becomePending i).rsq = s.rsq
      ∧ (s.becomePending i).sck = s.sck
      ∧ (s.becomePending i).spe = s.spe
      ∧ (s.becomePending i).stc = s.stc
      ∧ (s.becomePending i).pending = s.pending := by
  simp only [State.becomePending]; (repeat' split) <;> simp

@[simp] theorem State.nextPending_frame (i : Nat) (s : State) :
    (s.nextPending i).powered = s.powered
      ∧ (s.nextPending i).now = s.now
      ∧ (s.nextPending i).choices = s.choices
      ∧ (s.nextPending i).cfg = s.cfg
      ∧ (s.nextPending i).cfs = s.cfs
      ∧ (s.nextPending i).ni = s.ni
      ∧ (s.nextPending i).ptb = s.ptb
      ∧ (s.nextPending i).sau = s.sau
      ∧ (s.nextPending i).dsc = s.dsc
      ∧ (s.nextPending i).rm = s.rm
      ∧ (s.nextPending i).rsq = s.rsq
      ∧ (s.nextPending i).sck = s.sck
      ∧ (s.nextPending i).spe = s.spe
      ∧ (s.nextPending i).stc = s.stc
      ∧ (s.nextPending i).pending = s.pending := by
  simp only [State.nextPending]; (repeat' split) <;> simp

@[simp] theorem State.runChain_frame (n : Nat) (met : Bool) (s : State) :
    (s.runChain n met).powered = s.powered
      ∧ (s.runChain n met).now = s.now
      ∧ (s.runChain n met).choices = s.choices
      ∧ (s.runChain n met).cfg = s.cfg
      ∧ (s.runChain n met).cfs = s.cfs
      ∧ (s.runChain n met).ptb = s.ptb
      ∧ (s.runChain n met).sau = s.sau
      ∧ (s.runChain n met).dsc = s.dsc
      ∧ (s.runChain n met).rm = s.rm
      ∧ (s.runChain n met).rsq = s.rsq
      ∧ (s.runChain n met).sck = s.sck
      ∧ (s.runChain n met).spe = s.spe
      ∧ (s.runChain n met).stc = s.stc
      ∧ (s.runChain n met).pending = s.pending := by
  induction n generalizing met s with
  | zero => simp [State.runChain]
  | succ n ih =>
    simp only [State.runChain]; (repeat' split) <;> simp [ih]

@[simp] theorem State.testChain_frame (s : State) :
    s.testChain.powered = s.powered
      ∧ s.testChain.now = s.now
      ∧ s.testChain.choices = s.choices
      ∧ s.testChain.cfg = s.cfg
      ∧ s.testChain.cfs = s.cfs
      ∧ s.testChain.ptb = s.ptb
      ∧ s.testChain.sau = s.sau
      ∧ s.testChain.dsc = s.dsc
      ∧ s.testChain.rm = s.rm
      ∧ s.testChain.rsq = s.rsq
      ∧ s.testChain.sck = s.sck
      ∧ s.testChain.spe = s.spe
      ∧ s.testChain.stc = s.stc
      ∧ s.testChain.pending = s.pending := by
  simp only [State.testChain]; (repeat' split) <;> simp

@[simp] theorem State.retryChain_frame (r : WaitReason) (s : State) :
    (s.retryChain r).powered = s.powered
      ∧ (s.retryChain r).now = s.now
      ∧ (s.retryChain r).choices = s.choices
      ∧ (s.retryChain r).cfg = s.cfg
      ∧ (s.retryChain r).cfs = s.cfs
      ∧ (s.retryChain r).ptb = s.ptb
      ∧ (s.retryChain r).sau = s.sau
      ∧ (s.retryChain r).dsc = s.dsc
      ∧ (s.retryChain r).rm = s.rm
      ∧ (s.retryChain r).rsq = s.rsq
      ∧ (s.retryChain r).sck = s.sck
      ∧ (s.retryChain r).spe = s.spe
      ∧ (s.retryChain r).stc = s.stc
      ∧ (s.retryChain r).pending = s.pending := by
  simp only [State.retryChain]; (repeat' split) <;> simp

@[simp] theorem State.recordFreed_frame (s : State) :
    s.recordFreed.powered = s.powered
      ∧ s.recordFreed.now = s.now
      ∧ s.recordFreed.choices = s.choices
      ∧ s.recordFreed.cfg = s.cfg
      ∧ s.recordFreed.cfs = s.cfs
      ∧ s.recordFreed.ptb = s.ptb
      ∧ s.recordFreed.sau = s.sau
      ∧ s.recordFreed.dsc = s.dsc
      ∧ s.recordFreed.rm = s.rm
      ∧ s.recordFreed.rsq = s.rsq
      ∧ s.recordFreed.sck = s.sck
      ∧ s.recordFreed.spe = s.spe
      ∧ s.recordFreed.stc = s.stc
      ∧ s.recordFreed.pending = s.pending := by
  simp only [State.recordFreed]; (repeat' split) <;> simp

@[simp] theorem State.startChain_frame (i : Nat) (s : State) :
    (s.startChain i).powered = s.powered
      ∧ (s.startChain i).now = s.now
      ∧ (s.startChain i).choices = s.choices
      ∧ (s.startChain i).cfg = s.cfg
      ∧ (s.startChain i).cfs = s.cfs
      ∧ (s.startChain i).ptb = s.ptb
      ∧ (s.startChain i).sau = s.sau
      ∧ (s.startChain i).dsc = s.dsc
      ∧ (s.startChain i).rm = s.rm
      ∧ (s.startChain i).rsq = s.rsq
      ∧ (s.startChain i).sck = s.sck
      ∧ (s.startChain i).spe = s.spe
      ∧ (s.startChain i).stc = s.stc
      ∧ (s.startChain i).pending = s.pending := by
  simp only [State.startChain]; (repeat' split) <;> simp

@[simp] theorem State.chainPulse_frame (s : State) :
    s.chainPulse.powered = s.powered
      ∧ s.chainPulse.now = s.now
      ∧ s.chainPulse.choices = s.choices
      ∧ s.chainPulse.cfg = s.cfg
      ∧ s.chainPulse.cfs = s.cfs
      ∧ s.chainPulse.ptb = s.ptb
      ∧ s.chainPulse.sau = s.sau
      ∧ s.chainPulse.dsc = s.dsc
      ∧ s.chainPulse.rm = s.rm
      ∧ s.chainPulse.rsq = s.rsq
      ∧ s.chainPulse.sck = s.sck
      ∧ s.chainPulse.spe = s.spe
      ∧ s.chainPulse.stc = s.stc
      ∧ s.chainPulse.pending = s.pending := by
  simp only [State.chainPulse]; (repeat' split) <;> simp

@[simp] theorem State.reportDropped_frame (f : Option Waiting) (s : State) :
    (s.reportDropped f).powered = s.powered
      ∧ (s.reportDropped f).now = s.now
      ∧ (s.reportDropped f).choices = s.choices
      ∧ (s.reportDropped f).cfg = s.cfg
      ∧ (s.reportDropped f).cfs = s.cfs
      ∧ (s.reportDropped f).ptb = s.ptb
      ∧ (s.reportDropped f).sau = s.sau
      ∧ (s.reportDropped f).dsc = s.dsc
      ∧ (s.reportDropped f).rm = s.rm
      ∧ (s.reportDropped f).rsq = s.rsq
      ∧ (s.reportDropped f).sck = s.sck
      ∧ (s.reportDropped f).spe = s.spe
      ∧ (s.reportDropped f).stc = s.stc
      ∧ (s.reportDropped f).pending = s.pending := by
  simp only [State.reportDropped]; (repeat' split) <;> simp

@[simp] theorem State.requestFrame_frame (f : Waiting) (s : State) :
    (s.requestFrame f).powered = s.powered
      ∧ (s.requestFrame f).now = s.now
      ∧ (s.requestFrame f).choices = s.choices
      ∧ (s.requestFrame f).cfg = s.cfg
      ∧ (s.requestFrame f).cfs = s.cfs
      ∧ (s.requestFrame f).ptb = s.ptb
      ∧ (s.requestFrame f).sau = s.sau
      ∧ (s.requestFrame f).dsc = s.dsc
      ∧ (s.requestFrame f).rm = s.rm
      ∧ (s.requestFrame f).rsq = s.rsq
      ∧ (s.requestFrame f).sck = s.sck
      ∧ (s.requestFrame f).spe = s.spe
      ∧ (s.requestFrame f).stc = s.stc
      ∧ (s.requestFrame f).pending = s.pending := by
  simp only [State.requestFrame]; (repeat' split) <;> simp

@[simp] theorem State.play_frame (i : Nat) (r : PlayRequest) (s : State) :
    (s.play i r).powered = s.powered
      ∧ (s.play i r).now = s.now
      ∧ (s.play i r).choices = s.choices
      ∧ (s.play i r).cfg = s.cfg
      ∧ (s.play i r).cfs = s.cfs
      ∧ (s.play i r).ni = s.ni
      ∧ (s.play i r).ptb = s.ptb
      ∧ (s.play i r).sau = s.sau
      ∧ (s.play i r).dsc = s.dsc
      ∧ (s.play i r).rm = s.rm
      ∧ (s.play i r).rsq = s.rsq
      ∧ (s.play i r).scu = s.scu
      ∧ (s.play i r).sck = s.sck
      ∧ (s.play i r).stc = s.stc
      ∧ (s.play i r).pending = s.pending := by
  simp only [State.play]; (repeat' split) <;> simp

@[simp] theorem State.announcementEnd_frame (s : State) :
    s.announcementEnd.powered = s.powered
      ∧ s.announcementEnd.now = s.now
      ∧ s.announcementEnd.choices = s.choices
      ∧ s.announcementEnd.cfg = s.cfg
      ∧ s.announcementEnd.cfs = s.cfs
      ∧ s.announcementEnd.ni = s.ni
      ∧ s.announcementEnd.ptb = s.ptb
      ∧ s.announcementEnd.sau = s.sau
      ∧ s.announcementEnd.dsc = s.dsc
      ∧ s.announcementEnd.rm = s.rm
      ∧ s.announcementEnd.rsq = s.rsq
      ∧ s.announcementEnd.scu = s.scu
      ∧ s.announcementEnd.sck = s.sck
      ∧ s.announcementEnd.stc = s.stc
      ∧ s.announcementEnd.pending = s.pending := by
  simp only [State.announcementEnd]; (repeat' split) <;> simp

@[simp] theorem State.select_frame (handled : Option Nat) (s : State) :
    (s.select handled).powered = s.powered
      ∧ (s.select handled).now = s.now
      ∧ (s.select handled).choices = s.choices
      ∧ (s.select handled).cfg = s.cfg
      ∧ (s.select handled).cfs = s.cfs
      ∧ (s.select handled).ni = s.ni
      ∧ (s.select handled).ptb = s.ptb
      ∧ (s.select handled).sau = s.sau
      ∧ (s.select handled).dsc = s.dsc
      ∧ (s.select handled).rm = s.rm
      ∧ (s.select handled).rsq = s.rsq
      ∧ (s.select handled).scu = s.scu
      ∧ (s.select handled).spe = s.spe
      ∧ (s.select handled).stc = s.stc
      ∧ (s.select handled).pending = s.pending := by
  simp only [State.select]; (repeat' split) <;> simp

@[simp] theorem State.selectAtSilence_frame (s : State) :
    s.selectAtSilence.powered = s.powered
      ∧ s.selectAtSilence.now = s.now
      ∧ s.selectAtSilence.choices = s.choices
      ∧ s.selectAtSilence.cfg = s.cfg
      ∧ s.selectAtSilence.cfs = s.cfs
      ∧ s.selectAtSilence.ni = s.ni
      ∧ s.selectAtSilence.ptb = s.ptb
      ∧ s.selectAtSilence.sau = s.sau
      ∧ s.selectAtSilence.dsc = s.dsc
      ∧ s.selectAtSilence.rm = s.rm
      ∧ s.selectAtSilence.rsq = s.rsq
      ∧ s.selectAtSilence.scu = s.scu
      ∧ s.selectAtSilence.spe = s.spe
      ∧ s.selectAtSilence.stc = s.stc
      ∧ s.selectAtSilence.pending = s.pending := by
  simp only [State.selectAtSilence]; (repeat' split) <;> simp

@[simp] theorem State.applySync_frame (time scene : Nat) (s : State) :
    (s.applySync time scene).powered = s.powered
      ∧ (s.applySync time scene).now = s.now
      ∧ (s.applySync time scene).choices = s.choices
      ∧ (s.applySync time scene).cfg = s.cfg
      ∧ (s.applySync time scene).cfs = s.cfs
      ∧ (s.applySync time scene).ni = s.ni
      ∧ (s.applySync time scene).ptb = s.ptb
      ∧ (s.applySync time scene).sau = s.sau
      ∧ (s.applySync time scene).dsc = s.dsc
      ∧ (s.applySync time scene).rm = s.rm
      ∧ (s.applySync time scene).rsq = s.rsq
      ∧ (s.applySync time scene).scu = s.scu
      ∧ (s.applySync time scene).spe = s.spe
      ∧ (s.applySync time scene).stc = s.stc
      ∧ (s.applySync time scene).pending = s.pending := by
  simp only [State.applySync]; (repeat' split) <;> simp

@[simp] theorem State.handleSync_frame (src time scene : Nat) (s : State) :
    (s.handleSync src time scene).powered = s.powered
      ∧ (s.handleSync src time scene).now = s.now
      ∧ (s.handleSync src time scene).choices = s.choices
      ∧ (s.handleSync src time scene).cfg = s.cfg
      ∧ (s.handleSync src time scene).cfs = s.cfs
      ∧ (s.handleSync src time scene).ni = s.ni
      ∧ (s.handleSync src time scene).ptb = s.ptb
      ∧ (s.handleSync src time scene).sau = s.sau
      ∧ (s.handleSync src time scene).dsc = s.dsc
      ∧ (s.handleSync src time scene).rm = s.rm
      ∧ (s.handleSync src time scene).rsq = s.rsq
      ∧ (s.handleSync src time scene).scu = s.scu
      ∧ (s.handleSync src time scene).spe = s.spe
      ∧ (s.handleSync src time scene).stc = s.stc
      ∧ (s.handleSync src time scene).pending = s.pending := by
  simp only [State.handleSync]; (repeat' split) <;> simp

@[simp] theorem State.evalRelease_frame (s : State) :
    s.evalRelease.powered = s.powered
      ∧ s.evalRelease.now = s.now
      ∧ s.evalRelease.choices = s.choices
      ∧ s.evalRelease.cfg = s.cfg
      ∧ s.evalRelease.cfs = s.cfs
      ∧ s.evalRelease.ni = s.ni
      ∧ s.evalRelease.ptb = s.ptb
      ∧ s.evalRelease.sau = s.sau
      ∧ s.evalRelease.dsc = s.dsc
      ∧ s.evalRelease.rsq = s.rsq
      ∧ s.evalRelease.scu = s.scu
      ∧ s.evalRelease.sck = s.sck
      ∧ s.evalRelease.spe = s.spe
      ∧ s.evalRelease.stc = s.stc
      ∧ s.evalRelease.pending = s.pending := by
  simp only [State.evalRelease]; (repeat' split) <;> simp

@[simp] theorem State.startDwell_frame (s : State) :
    s.startDwell.powered = s.powered
      ∧ s.startDwell.now = s.now
      ∧ s.startDwell.choices = s.choices
      ∧ s.startDwell.cfg = s.cfg
      ∧ s.startDwell.cfs = s.cfs
      ∧ s.startDwell.ni = s.ni
      ∧ s.startDwell.ptb = s.ptb
      ∧ s.startDwell.sau = s.sau
      ∧ s.startDwell.dsc = s.dsc
      ∧ s.startDwell.rm = s.rm
      ∧ s.startDwell.scu = s.scu
      ∧ s.startDwell.sck = s.sck
      ∧ s.startDwell.spe = s.spe
      ∧ s.startDwell.stc = s.stc
      ∧ s.startDwell.pending = s.pending := by
  simp only [State.startDwell]; (repeat' split) <;> simp

@[simp] theorem State.setMotion_frame (m : Motion) (s : State) :
    (s.setMotion m).powered = s.powered
      ∧ (s.setMotion m).now = s.now
      ∧ (s.setMotion m).choices = s.choices
      ∧ (s.setMotion m).cfg = s.cfg
      ∧ (s.setMotion m).cfs = s.cfs
      ∧ (s.setMotion m).ptb = s.ptb
      ∧ (s.setMotion m).sau = s.sau
      ∧ (s.setMotion m).rsq = s.rsq
      ∧ (s.setMotion m).scu = s.scu
      ∧ (s.setMotion m).sck = s.sck
      ∧ (s.setMotion m).spe = s.spe
      ∧ (s.setMotion m).stc = s.stc
      ∧ (s.setMotion m).pending = s.pending := by
  simp only [State.setMotion]; (repeat' split) <;> simp

@[simp] theorem State.enterHeld_frame (s : State) :
    s.enterHeld.powered = s.powered
      ∧ s.enterHeld.now = s.now
      ∧ s.enterHeld.choices = s.choices
      ∧ s.enterHeld.cfg = s.cfg
      ∧ s.enterHeld.cfs = s.cfs
      ∧ s.enterHeld.ptb = s.ptb
      ∧ s.enterHeld.sau = s.sau
      ∧ s.enterHeld.scu = s.scu
      ∧ s.enterHeld.sck = s.sck
      ∧ s.enterHeld.spe = s.spe
      ∧ s.enterHeld.stc = s.stc
      ∧ s.enterHeld.pending = s.pending := by
  simp only [State.enterHeld]; (repeat' split) <;> simp

@[simp] theorem State.handAuthority_frame (a : Nat) (src : LimitSource) (s : State) :
    (s.handAuthority a src).powered = s.powered
      ∧ (s.handAuthority a src).now = s.now
      ∧ (s.handAuthority a src).choices = s.choices
      ∧ (s.handAuthority a src).cfg = s.cfg
      ∧ (s.handAuthority a src).cfs = s.cfs
      ∧ (s.handAuthority a src).ni = s.ni
      ∧ (s.handAuthority a src).ptb = s.ptb
      ∧ (s.handAuthority a src).rm = s.rm
      ∧ (s.handAuthority a src).rsq = s.rsq
      ∧ (s.handAuthority a src).scu = s.scu
      ∧ (s.handAuthority a src).sck = s.sck
      ∧ (s.handAuthority a src).spe = s.spe
      ∧ (s.handAuthority a src).stc = s.stc
      ∧ (s.handAuthority a src).pending = s.pending := by
  simp only [State.handAuthority]; (repeat' split) <;> simp

@[simp] theorem State.forceAuthority_frame (s : State) :
    s.forceAuthority.powered = s.powered
      ∧ s.forceAuthority.now = s.now
      ∧ s.forceAuthority.choices = s.choices
      ∧ s.forceAuthority.cfg = s.cfg
      ∧ s.forceAuthority.cfs = s.cfs
      ∧ s.forceAuthority.ni = s.ni
      ∧ s.forceAuthority.ptb = s.ptb
      ∧ s.forceAuthority.rm = s.rm
      ∧ s.forceAuthority.rsq = s.rsq
      ∧ s.forceAuthority.scu = s.scu
      ∧ s.forceAuthority.sck = s.sck
      ∧ s.forceAuthority.spe = s.spe
      ∧ s.forceAuthority.stc = s.stc
      ∧ s.forceAuthority.pending = s.pending := by
  simp only [State.forceAuthority]; (repeat' split) <;> simp

@[simp] theorem State.capLowering_frame (cap : Nat) (s : State) :
    (s.capLowering cap).powered = s.powered
      ∧ (s.capLowering cap).now = s.now
      ∧ (s.capLowering cap).choices = s.choices
      ∧ (s.capLowering cap).cfg = s.cfg
      ∧ (s.capLowering cap).cfs = s.cfs
      ∧ (s.capLowering cap).ni = s.ni
      ∧ (s.capLowering cap).ptb = s.ptb
      ∧ (s.capLowering cap).rm = s.rm
      ∧ (s.capLowering cap).rsq = s.rsq
      ∧ (s.capLowering cap).scu = s.scu
      ∧ (s.capLowering cap).sck = s.sck
      ∧ (s.capLowering cap).spe = s.spe
      ∧ (s.capLowering cap).stc = s.stc
      ∧ (s.capLowering cap).pending = s.pending := by
  simp only [State.capLowering]; (repeat' split) <;> simp

@[simp] theorem State.driveRise_frame (level : Nat) (s : State) :
    (s.driveRise level).powered = s.powered
      ∧ (s.driveRise level).now = s.now
      ∧ (s.driveRise level).choices = s.choices
      ∧ (s.driveRise level).cfg = s.cfg
      ∧ (s.driveRise level).cfs = s.cfs
      ∧ (s.driveRise level).ptb = s.ptb
      ∧ (s.driveRise level).sau = s.sau
      ∧ (s.driveRise level).scu = s.scu
      ∧ (s.driveRise level).sck = s.sck
      ∧ (s.driveRise level).spe = s.spe
      ∧ (s.driveRise level).stc = s.stc
      ∧ (s.driveRise level).pending = s.pending := by
  simp only [State.driveRise]; (repeat' split) <;> simp

@[simp] theorem State.driveFall_frame (level : Nat) (s : State) :
    (s.driveFall level).powered = s.powered
      ∧ (s.driveFall level).now = s.now
      ∧ (s.driveFall level).choices = s.choices
      ∧ (s.driveFall level).cfg = s.cfg
      ∧ (s.driveFall level).cfs = s.cfs
      ∧ (s.driveFall level).ptb = s.ptb
      ∧ (s.driveFall level).sau = s.sau
      ∧ (s.driveFall level).scu = s.scu
      ∧ (s.driveFall level).sck = s.sck
      ∧ (s.driveFall level).spe = s.spe
      ∧ (s.driveFall level).stc = s.stc
      ∧ (s.driveFall level).pending = s.pending := by
  simp only [State.driveFall]; (repeat' split) <;> simp

@[simp] theorem State.authorityRise_frame (was level : Nat) (s : State) :
    (s.authorityRise was level).powered = s.powered
      ∧ (s.authorityRise was level).now = s.now
      ∧ (s.authorityRise was level).choices = s.choices
      ∧ (s.authorityRise was level).cfg = s.cfg
      ∧ (s.authorityRise was level).cfs = s.cfs
      ∧ (s.authorityRise was level).ni = s.ni
      ∧ (s.authorityRise was level).ptb = s.ptb
      ∧ (s.authorityRise was level).rm = s.rm
      ∧ (s.authorityRise was level).rsq = s.rsq
      ∧ (s.authorityRise was level).scu = s.scu
      ∧ (s.authorityRise was level).sck = s.sck
      ∧ (s.authorityRise was level).spe = s.spe
      ∧ (s.authorityRise was level).stc = s.stc
      ∧ (s.authorityRise was level).pending = s.pending := by
  simp only [State.authorityRise]; (repeat' split) <;> simp

@[simp] theorem State.periodTransition_frame (s : State) :
    s.periodTransition.powered = s.powered
      ∧ s.periodTransition.now = s.now
      ∧ s.periodTransition.choices = s.choices
      ∧ s.periodTransition.cfg = s.cfg
      ∧ s.periodTransition.cfs = s.cfs
      ∧ s.periodTransition.ptb = s.ptb
      ∧ s.periodTransition.sau = s.sau
      ∧ s.periodTransition.scu = s.scu
      ∧ s.periodTransition.sck = s.sck
      ∧ s.periodTransition.spe = s.spe
      ∧ s.periodTransition.stc = s.stc
      ∧ s.periodTransition.pending = s.pending := by
  simp only [State.periodTransition]; (repeat' split) <;> simp

@[simp] theorem State.readFeedforward_frame (s : State) :
    s.readFeedforward.powered = s.powered
      ∧ s.readFeedforward.now = s.now
      ∧ s.readFeedforward.choices = s.choices
      ∧ s.readFeedforward.cfg = s.cfg
      ∧ s.readFeedforward.cfs = s.cfs
      ∧ s.readFeedforward.ni = s.ni
      ∧ s.readFeedforward.ptb = s.ptb
      ∧ s.readFeedforward.sau = s.sau
      ∧ s.readFeedforward.rm = s.rm
      ∧ s.readFeedforward.rsq = s.rsq
      ∧ s.readFeedforward.scu = s.scu
      ∧ s.readFeedforward.sck = s.sck
      ∧ s.readFeedforward.spe = s.spe
      ∧ s.readFeedforward.stc = s.stc
      ∧ s.readFeedforward.pending = s.pending := by
  simp only [State.readFeedforward]; (repeat' split) <;> simp

@[simp] theorem State.writeIncident_frame (cause : StopCause) (level origin : Nat) (s : State) :
    (s.writeIncident cause level origin).powered = s.powered
      ∧ (s.writeIncident cause level origin).now = s.now
      ∧ (s.writeIncident cause level origin).choices = s.choices
      ∧ (s.writeIncident cause level origin).cfg = s.cfg
      ∧ (s.writeIncident cause level origin).cfs = s.cfs
      ∧ (s.writeIncident cause level origin).ni = s.ni
      ∧ (s.writeIncident cause level origin).ptb = s.ptb
      ∧ (s.writeIncident cause level origin).sau = s.sau
      ∧ (s.writeIncident cause level origin).dsc = s.dsc
      ∧ (s.writeIncident cause level origin).rm = s.rm
      ∧ (s.writeIncident cause level origin).rsq = s.rsq
      ∧ (s.writeIncident cause level origin).scu = s.scu
      ∧ (s.writeIncident cause level origin).sck = s.sck
      ∧ (s.writeIncident cause level origin).spe = s.spe
      ∧ (s.writeIncident cause level origin).pending = s.pending := by
  simp only [State.writeIncident]; (repeat' split) <;> simp

@[simp] theorem State.notifyRise_frame (was level : Nat) (s : State) :
    (s.notifyRise was level).powered = s.powered
      ∧ (s.notifyRise was level).now = s.now
      ∧ (s.notifyRise was level).choices = s.choices
      ∧ (s.notifyRise was level).cfg = s.cfg
      ∧ (s.notifyRise was level).cfs = s.cfs
      ∧ (s.notifyRise was level).ptb = s.ptb
      ∧ (s.notifyRise was level).sck = s.sck
      ∧ (s.notifyRise was level).stc = s.stc
      ∧ (s.notifyRise was level).pending = s.pending := by
  simp only [State.notifyRise]; (repeat' split) <;> simp

@[simp] theorem State.raiseLatch_frame (level : Nat) (cause : StopCause) (origin : Nat) (s : State) :
    (s.raiseLatch level cause origin).powered = s.powered
      ∧ (s.raiseLatch level cause origin).now = s.now
      ∧ (s.raiseLatch level cause origin).choices = s.choices
      ∧ (s.raiseLatch level cause origin).cfg = s.cfg
      ∧ (s.raiseLatch level cause origin).cfs = s.cfs
      ∧ (s.raiseLatch level cause origin).ptb = s.ptb
      ∧ (s.raiseLatch level cause origin).sck = s.sck
      ∧ (s.raiseLatch level cause origin).pending = s.pending := by
  simp only [State.raiseLatch]; (repeat' split) <;> simp

@[simp] theorem State.frameLevel_frame (level : Nat) (cause : StopCause) (origin : Nat) (s : State) :
    (s.frameLevel level cause origin).powered = s.powered
      ∧ (s.frameLevel level cause origin).now = s.now
      ∧ (s.frameLevel level cause origin).choices = s.choices
      ∧ (s.frameLevel level cause origin).cfg = s.cfg
      ∧ (s.frameLevel level cause origin).cfs = s.cfs
      ∧ (s.frameLevel level cause origin).ptb = s.ptb
      ∧ (s.frameLevel level cause origin).sck = s.sck
      ∧ (s.frameLevel level cause origin).pending = s.pending := by
  simp only [State.frameLevel]; (repeat' split) <;> simp

@[simp] theorem State.levelRises_frame (c : Cause) (s : State) :
    (s.levelRises c).powered = s.powered
      ∧ (s.levelRises c).now = s.now
      ∧ (s.levelRises c).choices = s.choices
      ∧ (s.levelRises c).cfg = s.cfg
      ∧ (s.levelRises c).cfs = s.cfs
      ∧ (s.levelRises c).ptb = s.ptb
      ∧ (s.levelRises c).sck = s.sck
      ∧ (s.levelRises c).pending = s.pending := by
  simp only [State.levelRises]; (repeat' split) <;> simp

@[simp] theorem State.raise_frame (c : Cause) (s : State) :
    (s.raise c).powered = s.powered
      ∧ (s.raise c).now = s.now
      ∧ (s.raise c).choices = s.choices
      ∧ (s.raise c).cfg = s.cfg
      ∧ (s.raise c).cfs = s.cfs
      ∧ (s.raise c).ptb = s.ptb
      ∧ (s.raise c).sck = s.sck
      ∧ (s.raise c).pending = s.pending := by
  simp only [State.raise]; (repeat' split) <;> simp

@[simp] theorem State.withdraw_frame (c : Cause) (s : State) :
    (s.withdraw c).powered = s.powered
      ∧ (s.withdraw c).now = s.now
      ∧ (s.withdraw c).choices = s.choices
      ∧ (s.withdraw c).cfg = s.cfg
      ∧ (s.withdraw c).cfs = s.cfs
      ∧ (s.withdraw c).ptb = s.ptb
      ∧ (s.withdraw c).sau = s.sau
      ∧ (s.withdraw c).dsc = s.dsc
      ∧ (s.withdraw c).rm = s.rm
      ∧ (s.withdraw c).rsq = s.rsq
      ∧ (s.withdraw c).scu = s.scu
      ∧ (s.withdraw c).sck = s.sck
      ∧ (s.withdraw c).spe = s.spe
      ∧ (s.withdraw c).pending = s.pending := by
  simp only [State.withdraw]; (repeat' split) <;> simp

@[simp] theorem State.mapPeer_frame (station : Nat) (f : Peer → Peer) (s : State) :
    (s.mapPeer station f).powered = s.powered
      ∧ (s.mapPeer station f).now = s.now
      ∧ (s.mapPeer station f).choices = s.choices
      ∧ (s.mapPeer station f).cfg = s.cfg
      ∧ (s.mapPeer station f).cfs = s.cfs
      ∧ (s.mapPeer station f).ni = s.ni
      ∧ (s.mapPeer station f).sau = s.sau
      ∧ (s.mapPeer station f).dsc = s.dsc
      ∧ (s.mapPeer station f).rm = s.rm
      ∧ (s.mapPeer station f).rsq = s.rsq
      ∧ (s.mapPeer station f).scu = s.scu
      ∧ (s.mapPeer station f).sck = s.sck
      ∧ (s.mapPeer station f).spe = s.spe
      ∧ (s.mapPeer station f).stc = s.stc
      ∧ (s.mapPeer station f).pending = s.pending := by
  simp only [State.mapPeer]; (repeat' split) <;> simp

@[simp] theorem State.foreignAfter_frame (before : Bool) (s : State) :
    (s.foreignAfter before).powered = s.powered
      ∧ (s.foreignAfter before).now = s.now
      ∧ (s.foreignAfter before).choices = s.choices
      ∧ (s.foreignAfter before).cfg = s.cfg
      ∧ (s.foreignAfter before).cfs = s.cfs
      ∧ (s.foreignAfter before).ptb = s.ptb
      ∧ (s.foreignAfter before).sck = s.sck
      ∧ (s.foreignAfter before).pending = s.pending := by
  simp only [State.foreignAfter]; (repeat' split) <;> simp

/-- A removal only ever withdraws the FOREIGN cause (R61). -/
theorem State.foreignSeen_filter (f : Peer → Bool) (s : State) :
    (s.setPtb (s.ptb.filter f)).foreignSeen = true → s.foreignSeen = true := by
  simp only [State.foreignSeen, State.setPtb_ptb, List.any_eq_true, List.mem_filter]
  rintro ⟨p, ⟨h, -⟩, hp⟩; exact ⟨p, h, hp⟩

/-- A step after which a FOREIGN record is present only if one was before withdraws the cause at most. -/
theorem State.foreignAfter_withdraws (before : Bool) (s : State) (h : s.foreignSeen = true → before = true) :
    s.foreignAfter before = s ∨ s.foreignAfter before = s.withdraw .foreign := by
  simp only [State.foreignAfter]; split
  · simp_all
  · split <;> simp

/-- What a removal leaves alone, where the SCU told of it leaves it alone. -/
theorem State.removeWith_frame (tell : Nat → State → State) (station : Nat) (s : State)
    (h : ∀ n t, (tell n t).powered = t.powered ∧ (tell n t).now = t.now ∧ (tell n t).choices = t.choices ∧ (tell n t).cfg = t.cfg ∧ (tell n t).cfs = t.cfs ∧ (tell n t).sau = t.sau ∧ (tell n t).dsc = t.dsc ∧ (tell n t).rm = t.rm ∧ (tell n t).rsq = t.rsq ∧ (tell n t).spe = t.spe ∧ (tell n t).pending = t.pending) :
    (s.removeWith tell station).powered = s.powered
      ∧ (s.removeWith tell station).now = s.now
      ∧ (s.removeWith tell station).choices = s.choices
      ∧ (s.removeWith tell station).cfg = s.cfg
      ∧ (s.removeWith tell station).cfs = s.cfs
      ∧ (s.removeWith tell station).sau = s.sau
      ∧ (s.removeWith tell station).dsc = s.dsc
      ∧ (s.removeWith tell station).rm = s.rm
      ∧ (s.removeWith tell station).rsq = s.rsq
      ∧ (s.removeWith tell station).spe = s.spe
      ∧ (s.removeWith tell station).pending = s.pending := by
  simp only [State.removeWith]
  split
  · simp
  · next p hp =>
    have w := State.foreignAfter_withdraws s.foreignSeen
      (s.setPtb (s.ptb.filter fun r => r.station ≠ station)) (State.foreignSeen_filter _ s)
    rcases w with w | w <;> rw [w] <;> split <;> simp [h]

/-- What a pin move leaves alone, where the SCU told of a removal leaves it alone. -/
theorem State.pinWith_frame (tell : Nat → State → State) (f : Pin) (station : Option Nat) (s : State)
    (h : ∀ n t, (tell n t).powered = t.powered ∧ (tell n t).now = t.now ∧ (tell n t).choices = t.choices ∧ (tell n t).cfg = t.cfg ∧ (tell n t).cfs = t.cfs ∧ (tell n t).sau = t.sau ∧ (tell n t).dsc = t.dsc ∧ (tell n t).rm = t.rm ∧ (tell n t).rsq = t.rsq ∧ (tell n t).spe = t.spe ∧ (tell n t).pending = t.pending) :
    (s.pinWith tell f station).powered = s.powered
      ∧ (s.pinWith tell f station).now = s.now
      ∧ (s.pinWith tell f station).choices = s.choices
      ∧ (s.pinWith tell f station).cfg = s.cfg
      ∧ (s.pinWith tell f station).cfs = s.cfs
      ∧ (s.pinWith tell f station).sau = s.sau
      ∧ (s.pinWith tell f station).dsc = s.dsc
      ∧ (s.pinWith tell f station).rm = s.rm
      ∧ (s.pinWith tell f station).rsq = s.rsq
      ∧ (s.pinWith tell f station).spe = s.spe
      ∧ (s.pinWith tell f station).pending = s.pending := by
  simp only [State.pinWith]
  (repeat' split) <;> simp [State.removeWith_frame tell _ _ h]

@[simp] theorem State.slotNotice_frame (s : State) :
    s.slotNotice.powered = s.powered
      ∧ s.slotNotice.now = s.now
      ∧ s.slotNotice.choices = s.choices
      ∧ s.slotNotice.cfg = s.cfg
      ∧ s.slotNotice.cfs = s.cfs
      ∧ s.slotNotice.ptb = s.ptb
      ∧ s.slotNotice.sau = s.sau
      ∧ s.slotNotice.dsc = s.dsc
      ∧ s.slotNotice.rm = s.rm
      ∧ s.slotNotice.rsq = s.rsq
      ∧ s.slotNotice.scu = s.scu
      ∧ s.slotNotice.spe = s.spe
      ∧ s.slotNotice.stc = s.stc
      ∧ s.slotNotice.pending = s.pending := by
  simp only [State.slotNotice]; (repeat' split) <;> simp

@[simp] theorem State.enterClaiming_frame (k : SlotId) (x : Nat) (s : State) :
    (s.enterClaiming k x).powered = s.powered
      ∧ (s.enterClaiming k x).now = s.now
      ∧ (s.enterClaiming k x).choices = s.choices
      ∧ (s.enterClaiming k x).cfg = s.cfg
      ∧ (s.enterClaiming k x).cfs = s.cfs
      ∧ (s.enterClaiming k x).ptb = s.ptb
      ∧ (s.enterClaiming k x).sau = s.sau
      ∧ (s.enterClaiming k x).dsc = s.dsc
      ∧ (s.enterClaiming k x).rm = s.rm
      ∧ (s.enterClaiming k x).rsq = s.rsq
      ∧ (s.enterClaiming k x).spe = s.spe
      ∧ (s.enterClaiming k x).stc = s.stc
      ∧ (s.enterClaiming k x).pending = s.pending := by
  simp only [State.enterClaiming]; (repeat' split) <;> simp

/-- What a lifted block leaves alone, where the SCU told of a removal leaves it alone. -/
theorem State.liftWith_frame (tell : Nat → State → State) (k : SlotId) (s : State)
    (h : ∀ n t, (tell n t).powered = t.powered ∧ (tell n t).now = t.now ∧ (tell n t).choices = t.choices ∧ (tell n t).cfg = t.cfg ∧ (tell n t).cfs = t.cfs ∧ (tell n t).sau = t.sau ∧ (tell n t).dsc = t.dsc ∧ (tell n t).rm = t.rm ∧ (tell n t).rsq = t.rsq ∧ (tell n t).spe = t.spe ∧ (tell n t).pending = t.pending) :
    (s.liftWith tell k).powered = s.powered
      ∧ (s.liftWith tell k).now = s.now
      ∧ (s.liftWith tell k).choices = s.choices
      ∧ (s.liftWith tell k).cfg = s.cfg
      ∧ (s.liftWith tell k).cfs = s.cfs
      ∧ (s.liftWith tell k).sau = s.sau
      ∧ (s.liftWith tell k).dsc = s.dsc
      ∧ (s.liftWith tell k).rm = s.rm
      ∧ (s.liftWith tell k).rsq = s.rsq
      ∧ (s.liftWith tell k).spe = s.spe
      ∧ (s.liftWith tell k).pending = s.pending := by
  simp only [State.liftWith]
  (repeat' split) <;> simp [State.pinWith_frame tell _ _ _ h]

@[simp] theorem State.tellGone_frame (n station : Nat) (s : State) :
    (s.tellGone n station).powered = s.powered
      ∧ (s.tellGone n station).now = s.now
      ∧ (s.tellGone n station).choices = s.choices
      ∧ (s.tellGone n station).cfg = s.cfg
      ∧ (s.tellGone n station).cfs = s.cfs
      ∧ (s.tellGone n station).sau = s.sau
      ∧ (s.tellGone n station).dsc = s.dsc
      ∧ (s.tellGone n station).rm = s.rm
      ∧ (s.tellGone n station).rsq = s.rsq
      ∧ (s.tellGone n station).spe = s.spe
      ∧ (s.tellGone n station).pending = s.pending := by
  induction n generalizing station s with
  | zero => simp [State.tellGone]
  | succ n ih =>
    simp only [State.tellGone]; (repeat' split) <;> simp [State.liftWith_frame (State.tellGone n) _ _ ih]

@[simp] theorem State.tellScu_frame (station : Nat) (s : State) :
    (s.tellScu station).powered = s.powered
      ∧ (s.tellScu station).now = s.now
      ∧ (s.tellScu station).choices = s.choices
      ∧ (s.tellScu station).cfg = s.cfg
      ∧ (s.tellScu station).cfs = s.cfs
      ∧ (s.tellScu station).sau = s.sau
      ∧ (s.tellScu station).dsc = s.dsc
      ∧ (s.tellScu station).rm = s.rm
      ∧ (s.tellScu station).rsq = s.rsq
      ∧ (s.tellScu station).spe = s.spe
      ∧ (s.tellScu station).pending = s.pending := by
  simp only [State.tellScu]; (repeat' split) <;> simp

@[simp] theorem State.removePeer_frame (station : Nat) (s : State) :
    (s.removePeer station).powered = s.powered
      ∧ (s.removePeer station).now = s.now
      ∧ (s.removePeer station).choices = s.choices
      ∧ (s.removePeer station).cfg = s.cfg
      ∧ (s.removePeer station).cfs = s.cfs
      ∧ (s.removePeer station).sau = s.sau
      ∧ (s.removePeer station).dsc = s.dsc
      ∧ (s.removePeer station).rm = s.rm
      ∧ (s.removePeer station).rsq = s.rsq
      ∧ (s.removePeer station).spe = s.spe
      ∧ (s.removePeer station).pending = s.pending :=
  State.removeWith_frame _ _ _ fun _ _ => by simp

@[simp] theorem State.pin_frame (f : Pin) (station : Option Nat) (s : State) :
    (s.pin f station).powered = s.powered
      ∧ (s.pin f station).now = s.now
      ∧ (s.pin f station).choices = s.choices
      ∧ (s.pin f station).cfg = s.cfg
      ∧ (s.pin f station).cfs = s.cfs
      ∧ (s.pin f station).sau = s.sau
      ∧ (s.pin f station).dsc = s.dsc
      ∧ (s.pin f station).rm = s.rm
      ∧ (s.pin f station).rsq = s.rsq
      ∧ (s.pin f station).spe = s.spe
      ∧ (s.pin f station).pending = s.pending :=
  State.pinWith_frame _ _ _ _ fun _ _ => by simp

@[simp] theorem State.liftBlock_frame (k : SlotId) (s : State) :
    (s.liftBlock k).powered = s.powered
      ∧ (s.liftBlock k).now = s.now
      ∧ (s.liftBlock k).choices = s.choices
      ∧ (s.liftBlock k).cfg = s.cfg
      ∧ (s.liftBlock k).cfs = s.cfs
      ∧ (s.liftBlock k).sau = s.sau
      ∧ (s.liftBlock k).dsc = s.dsc
      ∧ (s.liftBlock k).rm = s.rm
      ∧ (s.liftBlock k).rsq = s.rsq
      ∧ (s.liftBlock k).spe = s.spe
      ∧ (s.liftBlock k).pending = s.pending :=
  State.liftWith_frame _ _ _ fun _ _ => by simp

@[simp] theorem State.enterWaiting_frame (k : SlotId) (x station : Nat) (s : State) :
    (s.enterWaiting k x station).powered = s.powered
      ∧ (s.enterWaiting k x station).now = s.now
      ∧ (s.enterWaiting k x station).choices = s.choices
      ∧ (s.enterWaiting k x station).cfg = s.cfg
      ∧ (s.enterWaiting k x station).cfs = s.cfs
      ∧ (s.enterWaiting k x station).sau = s.sau
      ∧ (s.enterWaiting k x station).dsc = s.dsc
      ∧ (s.enterWaiting k x station).rm = s.rm
      ∧ (s.enterWaiting k x station).rsq = s.rsq
      ∧ (s.enterWaiting k x station).spe = s.spe
      ∧ (s.enterWaiting k x station).pending = s.pending := by
  simp only [State.enterWaiting]; (repeat' split) <;> simp

@[simp] theorem State.freeSlot_frame (frame : Bool) (k : SlotId) (s : State) :
    (s.freeSlot frame k).powered = s.powered
      ∧ (s.freeSlot frame k).now = s.now
      ∧ (s.freeSlot frame k).choices = s.choices
      ∧ (s.freeSlot frame k).cfg = s.cfg
      ∧ (s.freeSlot frame k).cfs = s.cfs
      ∧ (s.freeSlot frame k).sau = s.sau
      ∧ (s.freeSlot frame k).dsc = s.dsc
      ∧ (s.freeSlot frame k).rm = s.rm
      ∧ (s.freeSlot frame k).rsq = s.rsq
      ∧ (s.freeSlot frame k).spe = s.spe
      ∧ (s.freeSlot frame k).pending = s.pending := by
  simp only [State.freeSlot]; (repeat' split) <;> simp

@[simp] theorem State.claimAction_frame (x : Nat) (s : State) :
    (s.claimAction x).powered = s.powered
      ∧ (s.claimAction x).now = s.now
      ∧ (s.claimAction x).choices = s.choices
      ∧ (s.claimAction x).cfg = s.cfg
      ∧ (s.claimAction x).cfs = s.cfs
      ∧ (s.claimAction x).pending = s.pending := by
  simp only [State.claimAction]; (repeat' split) <;> simp

@[simp] theorem State.freeAction_frame (x : Nat) (s : State) :
    (s.freeAction x).powered = s.powered
      ∧ (s.freeAction x).now = s.now
      ∧ (s.freeAction x).choices = s.choices
      ∧ (s.freeAction x).cfg = s.cfg
      ∧ (s.freeAction x).cfs = s.cfs
      ∧ (s.freeAction x).sau = s.sau
      ∧ (s.freeAction x).dsc = s.dsc
      ∧ (s.freeAction x).rm = s.rm
      ∧ (s.freeAction x).rsq = s.rsq
      ∧ (s.freeAction x).spe = s.spe
      ∧ (s.freeAction x).pending = s.pending := by
  simp only [State.freeAction]; (repeat' split) <;> simp

@[simp] theorem State.claimHeard_frame (src x : Nat) (k : SlotId) (s : State) :
    (s.claimHeard src x k).powered = s.powered
      ∧ (s.claimHeard src x k).now = s.now
      ∧ (s.claimHeard src x k).choices = s.choices
      ∧ (s.claimHeard src x k).cfg = s.cfg
      ∧ (s.claimHeard src x k).cfs = s.cfs
      ∧ (s.claimHeard src x k).sau = s.sau
      ∧ (s.claimHeard src x k).dsc = s.dsc
      ∧ (s.claimHeard src x k).rm = s.rm
      ∧ (s.claimHeard src x k).rsq = s.rsq
      ∧ (s.claimHeard src x k).spe = s.spe
      ∧ (s.claimHeard src x k).pending = s.pending := by
  simp only [State.claimHeard]; (repeat' split) <;> simp

@[simp] theorem State.freeHeard_frame (src x : Nat) (k : SlotId) (s : State) :
    (s.freeHeard src x k).powered = s.powered
      ∧ (s.freeHeard src x k).now = s.now
      ∧ (s.freeHeard src x k).choices = s.choices
      ∧ (s.freeHeard src x k).cfg = s.cfg
      ∧ (s.freeHeard src x k).cfs = s.cfs
      ∧ (s.freeHeard src x k).sau = s.sau
      ∧ (s.freeHeard src x k).dsc = s.dsc
      ∧ (s.freeHeard src x k).rm = s.rm
      ∧ (s.freeHeard src x k).rsq = s.rsq
      ∧ (s.freeHeard src x k).spe = s.spe
      ∧ (s.freeHeard src x k).pending = s.pending := by
  simp only [State.freeHeard]; (repeat' split) <;> simp

@[simp] theorem State.posHeard_frame (src : Nat) (held : List Nat) (claiming : Option Nat) (k : SlotId) (s : State) :
    (s.posHeard src held claiming k).powered = s.powered
      ∧ (s.posHeard src held claiming k).now = s.now
      ∧ (s.posHeard src held claiming k).choices = s.choices
      ∧ (s.posHeard src held claiming k).cfg = s.cfg
      ∧ (s.posHeard src held claiming k).cfs = s.cfs
      ∧ (s.posHeard src held claiming k).pending = s.pending := by
  simp only [State.posHeard]; (repeat' split) <;> simp

@[simp] theorem State.windowExpired_frame (k : SlotId) (s : State) :
    (s.windowExpired k).powered = s.powered
      ∧ (s.windowExpired k).now = s.now
      ∧ (s.windowExpired k).choices = s.choices
      ∧ (s.windowExpired k).cfg = s.cfg
      ∧ (s.windowExpired k).cfs = s.cfs
      ∧ (s.windowExpired k).sau = s.sau
      ∧ (s.windowExpired k).dsc = s.dsc
      ∧ (s.windowExpired k).rm = s.rm
      ∧ (s.windowExpired k).rsq = s.rsq
      ∧ (s.windowExpired k).spe = s.spe
      ∧ (s.windowExpired k).pending = s.pending := by
  simp only [State.windowExpired]; (repeat' split) <;> simp

@[simp] theorem State.makeRoom_frame (s : State) :
    s.makeRoom.powered = s.powered
      ∧ s.makeRoom.now = s.now
      ∧ s.makeRoom.choices = s.choices
      ∧ s.makeRoom.cfg = s.cfg
      ∧ s.makeRoom.cfs = s.cfs
      ∧ s.makeRoom.sau = s.sau
      ∧ s.makeRoom.dsc = s.dsc
      ∧ s.makeRoom.rm = s.rm
      ∧ s.makeRoom.rsq = s.rsq
      ∧ s.makeRoom.spe = s.spe
      ∧ s.makeRoom.pending = s.pending := by
  simp only [State.makeRoom]; (repeat' split) <;> simp

@[simp] theorem State.addPeer_frame (station : Nat) (foreign : Bool) (s : State) :
    (s.addPeer station foreign).powered = s.powered
      ∧ (s.addPeer station foreign).now = s.now
      ∧ (s.addPeer station foreign).choices = s.choices
      ∧ (s.addPeer station foreign).cfg = s.cfg
      ∧ (s.addPeer station foreign).cfs = s.cfs
      ∧ (s.addPeer station foreign).pending = s.pending := by
  simp only [State.addPeer]; (repeat' split) <;> simp

/-- A first hearing by an own-signature frame only ever withdraws the FOREIGN cause (R48, R61). -/
@[simp] theorem State.addPeer_own_frame (station : Nat) (s : State) :
    (s.addPeer station false).powered = s.powered
      ∧ (s.addPeer station false).now = s.now
      ∧ (s.addPeer station false).choices = s.choices
      ∧ (s.addPeer station false).cfg = s.cfg
      ∧ (s.addPeer station false).cfs = s.cfs
      ∧ (s.addPeer station false).sau = s.sau
      ∧ (s.addPeer station false).dsc = s.dsc
      ∧ (s.addPeer station false).rm = s.rm
      ∧ (s.addPeer station false).rsq = s.rsq
      ∧ (s.addPeer station false).spe = s.spe
      ∧ (s.addPeer station false).pending = s.pending := by
  simp only [State.addPeer]
  split
  · have w := State.foreignAfter_withdraws s.makeRoom.foreignSeen
      (s.makeRoom.setPtb (s.makeRoom.ptb ++ [Peer.first station s.makeRoom.ms false])) (by
        simp [State.foreignSeen, Peer.foreignVehicle, Peer.first])
    rcases w with w | w <;> rw [w] <;> simp
  · simp

@[simp] theorem State.hearOwn_frame (station : Nat) (s : State) :
    (s.hearOwn station).powered = s.powered
      ∧ (s.hearOwn station).now = s.now
      ∧ (s.hearOwn station).choices = s.choices
      ∧ (s.hearOwn station).cfg = s.cfg
      ∧ (s.hearOwn station).cfs = s.cfs
      ∧ (s.hearOwn station).sau = s.sau
      ∧ (s.hearOwn station).dsc = s.dsc
      ∧ (s.hearOwn station).rm = s.rm
      ∧ (s.hearOwn station).rsq = s.rsq
      ∧ (s.hearOwn station).spe = s.spe
      ∧ (s.hearOwn station).pending = s.pending := by
  simp only [State.hearOwn]
  split
  · have w := State.foreignAfter_withdraws s.foreignSeen
      (s.mapPeer station fun p => ⟨p.station, false, s.ms, false, p.pinAhead, p.pin1, p.pin2, p.lastSync, p.data⟩) (by
        simp only [State.foreignSeen, State.mapPeer, State.setPtb_ptb, List.any_eq_true, List.mem_map]
        rintro ⟨p, ⟨q, hq, rfl⟩, hp⟩
        refine ⟨q, hq, ?_⟩
        split at hp <;> simp_all [Peer.foreignVehicle])
    rcases w with w | w <;> rw [w] <;> simp
  · simp

@[simp] theorem State.hearForeign_frame (station : Nat) (s : State) :
    (s.hearForeign station).powered = s.powered
      ∧ (s.hearForeign station).now = s.now
      ∧ (s.hearForeign station).choices = s.choices
      ∧ (s.hearForeign station).cfg = s.cfg
      ∧ (s.hearForeign station).cfs = s.cfs
      ∧ (s.hearForeign station).pending = s.pending := by
  simp only [State.hearForeign]; (repeat' split) <;> simp

@[simp] theorem State.hearPos_frame (src : Nat) (b : PosBody) (s : State) :
    (s.hearPos src b).powered = s.powered
      ∧ (s.hearPos src b).now = s.now
      ∧ (s.hearPos src b).choices = s.choices
      ∧ (s.hearPos src b).cfg = s.cfg
      ∧ (s.hearPos src b).cfs = s.cfs
      ∧ (s.hearPos src b).pending = s.pending := by
  simp only [State.hearPos]; (repeat' split) <;> simp

@[simp] theorem State.hearSync_frame (src : Nat) (s : State) :
    (s.hearSync src).powered = s.powered
      ∧ (s.hearSync src).now = s.now
      ∧ (s.hearSync src).choices = s.choices
      ∧ (s.hearSync src).cfg = s.cfg
      ∧ (s.hearSync src).cfs = s.cfs
      ∧ (s.hearSync src).sau = s.sau
      ∧ (s.hearSync src).dsc = s.dsc
      ∧ (s.hearSync src).rm = s.rm
      ∧ (s.hearSync src).rsq = s.rsq
      ∧ (s.hearSync src).spe = s.spe
      ∧ (s.hearSync src).pending = s.pending := by
  simp only [State.hearSync]; (repeat' split) <;> simp

@[simp] theorem State.staleNow_frame (station : Nat) (s : State) :
    (s.staleNow station).powered = s.powered
      ∧ (s.staleNow station).now = s.now
      ∧ (s.staleNow station).choices = s.choices
      ∧ (s.staleNow station).cfg = s.cfg
      ∧ (s.staleNow station).cfs = s.cfs
      ∧ (s.staleNow station).sau = s.sau
      ∧ (s.staleNow station).dsc = s.dsc
      ∧ (s.staleNow station).rm = s.rm
      ∧ (s.staleNow station).rsq = s.rsq
      ∧ (s.staleNow station).spe = s.spe
      ∧ (s.staleNow station).pending = s.pending := by
  simp only [State.staleNow]; (repeat' split) <;> simp

@[simp] theorem State.dropNow_frame (station : Nat) (s : State) :
    (s.dropNow station).powered = s.powered
      ∧ (s.dropNow station).now = s.now
      ∧ (s.dropNow station).choices = s.choices
      ∧ (s.dropNow station).cfg = s.cfg
      ∧ (s.dropNow station).cfs = s.cfs
      ∧ (s.dropNow station).sau = s.sau
      ∧ (s.dropNow station).dsc = s.dsc
      ∧ (s.dropNow station).rm = s.rm
      ∧ (s.dropNow station).rsq = s.rsq
      ∧ (s.dropNow station).spe = s.spe
      ∧ (s.dropNow station).pending = s.pending := by
  simp only [State.dropNow]; (repeat' split) <;> simp

@[simp] theorem State.placeAt_frame (i d : Nat) (s : State) :
    (s.placeAt i d).powered = s.powered
      ∧ (s.placeAt i d).now = s.now
      ∧ (s.placeAt i d).choices = s.choices
      ∧ (s.placeAt i d).cfg = s.cfg
      ∧ (s.placeAt i d).cfs = s.cfs
      ∧ (s.placeAt i d).ni = s.ni
      ∧ (s.placeAt i d).ptb = s.ptb
      ∧ (s.placeAt i d).sau = s.sau
      ∧ (s.placeAt i d).dsc = s.dsc
      ∧ (s.placeAt i d).rm = s.rm
      ∧ (s.placeAt i d).scu = s.scu
      ∧ (s.placeAt i d).sck = s.sck
      ∧ (s.placeAt i d).spe = s.spe
      ∧ (s.placeAt i d).stc = s.stc
      ∧ (s.placeAt i d).pending = s.pending := by
  simp only [State.placeAt]; (repeat' split) <;> simp

@[simp] theorem State.guideAction_frame (s : State) :
    s.guideAction.powered = s.powered
      ∧ s.guideAction.now = s.now
      ∧ s.guideAction.choices = s.choices
      ∧ s.guideAction.cfg = s.cfg
      ∧ s.guideAction.cfs = s.cfs
      ∧ s.guideAction.ni = s.ni
      ∧ s.guideAction.ptb = s.ptb
      ∧ s.guideAction.sau = s.sau
      ∧ s.guideAction.rm = s.rm
      ∧ s.guideAction.rsq = s.rsq
      ∧ s.guideAction.scu = s.scu
      ∧ s.guideAction.sck = s.sck
      ∧ s.guideAction.spe = s.spe
      ∧ s.guideAction.stc = s.stc
      ∧ s.guideAction.pending = s.pending := by
  simp only [State.guideAction]; (repeat' split) <;> simp

@[simp] theorem State.soundAction_frame (s : State) :
    s.soundAction.powered = s.powered
      ∧ s.soundAction.now = s.now
      ∧ s.soundAction.choices = s.choices
      ∧ s.soundAction.cfg = s.cfg
      ∧ s.soundAction.cfs = s.cfs
      ∧ s.soundAction.ni = s.ni
      ∧ s.soundAction.ptb = s.ptb
      ∧ s.soundAction.sau = s.sau
      ∧ s.soundAction.dsc = s.dsc
      ∧ s.soundAction.rm = s.rm
      ∧ s.soundAction.rsq = s.rsq
      ∧ s.soundAction.scu = s.scu
      ∧ s.soundAction.sck = s.sck
      ∧ s.soundAction.stc = s.stc
      ∧ s.soundAction.pending = s.pending := by
  simp only [State.soundAction]; (repeat' split) <;> simp

@[simp] theorem State.sceneAction_frame (s : State) :
    s.sceneAction.powered = s.powered
      ∧ s.sceneAction.now = s.now
      ∧ s.sceneAction.choices = s.choices
      ∧ s.sceneAction.cfg = s.cfg
      ∧ s.sceneAction.cfs = s.cfs
      ∧ s.sceneAction.pending = s.pending := by
  simp only [State.sceneAction]; (repeat' split) <;> simp

@[simp] theorem State.chainAction_frame (s : State) :
    s.chainAction.powered = s.powered
      ∧ s.chainAction.now = s.now
      ∧ s.chainAction.choices = s.choices
      ∧ s.chainAction.cfg = s.cfg
      ∧ s.chainAction.cfs = s.cfs
      ∧ s.chainAction.ptb = s.ptb
      ∧ s.chainAction.sau = s.sau
      ∧ s.chainAction.dsc = s.dsc
      ∧ s.chainAction.rm = s.rm
      ∧ s.chainAction.sck = s.sck
      ∧ s.chainAction.spe = s.spe
      ∧ s.chainAction.stc = s.stc
      ∧ s.chainAction.pending = s.pending := by
  simp only [State.chainAction]; (repeat' split) <;> simp

@[simp] theorem State.clearFlags_frame (s : State) :
    s.clearFlags.powered = s.powered
      ∧ s.clearFlags.now = s.now
      ∧ s.clearFlags.choices = s.choices
      ∧ s.clearFlags.cfg = s.cfg
      ∧ s.clearFlags.cfs = s.cfs
      ∧ s.clearFlags.ni = s.ni
      ∧ s.clearFlags.ptb = s.ptb
      ∧ s.clearFlags.sau = s.sau
      ∧ s.clearFlags.dsc = s.dsc
      ∧ s.clearFlags.rm = s.rm
      ∧ s.clearFlags.scu = s.scu
      ∧ s.clearFlags.sck = s.sck
      ∧ s.clearFlags.spe = s.spe
      ∧ s.clearFlags.stc = s.stc
      ∧ s.clearFlags.pending = s.pending := by
  simp only [State.clearFlags]; (repeat' split) <;> simp

@[simp] theorem State.sceneTest_frame (s : State) :
    s.sceneTest.powered = s.powered
      ∧ s.sceneTest.now = s.now
      ∧ s.sceneTest.choices = s.choices
      ∧ s.sceneTest.cfg = s.cfg
      ∧ s.sceneTest.cfs = s.cfs
      ∧ s.sceneTest.ni = s.ni
      ∧ s.sceneTest.ptb = s.ptb
      ∧ s.sceneTest.sau = s.sau
      ∧ s.sceneTest.dsc = s.dsc
      ∧ s.sceneTest.rm = s.rm
      ∧ s.sceneTest.scu = s.scu
      ∧ s.sceneTest.sck = s.sck
      ∧ s.sceneTest.spe = s.spe
      ∧ s.sceneTest.stc = s.stc
      ∧ s.sceneTest.pending = s.pending := by
  simp only [State.sceneTest]; (repeat' split) <;> simp

@[simp] theorem State.evalHold_frame (s : State) :
    s.evalHold.powered = s.powered
      ∧ s.evalHold.now = s.now
      ∧ s.evalHold.choices = s.choices
      ∧ s.evalHold.cfg = s.cfg
      ∧ s.evalHold.cfs = s.cfs
      ∧ s.evalHold.ni = s.ni
      ∧ s.evalHold.ptb = s.ptb
      ∧ s.evalHold.sau = s.sau
      ∧ s.evalHold.dsc = s.dsc
      ∧ s.evalHold.rm = s.rm
      ∧ s.evalHold.scu = s.scu
      ∧ s.evalHold.sck = s.sck
      ∧ s.evalHold.spe = s.spe
      ∧ s.evalHold.stc = s.stc
      ∧ s.evalHold.pending = s.pending := by
  simp only [State.evalHold]; (repeat' split) <;> simp

@[simp] theorem State.enterEntry_frame (i d : Nat) (s : State) :
    (s.enterEntry i d).powered = s.powered
      ∧ (s.enterEntry i d).now = s.now
      ∧ (s.enterEntry i d).choices = s.choices
      ∧ (s.enterEntry i d).cfg = s.cfg
      ∧ (s.enterEntry i d).cfs = s.cfs
      ∧ (s.enterEntry i d).pending = s.pending := by
  simp only [State.enterEntry]; (repeat' split) <;> simp

@[simp] theorem State.advance_frame (passed inTime : Bool) (carry : Nat) (s : State) :
    (s.advance passed inTime carry).powered = s.powered
      ∧ (s.advance passed inTime carry).now = s.now
      ∧ (s.advance passed inTime carry).choices = s.choices
      ∧ (s.advance passed inTime carry).cfg = s.cfg
      ∧ (s.advance passed inTime carry).cfs = s.cfs
      ∧ (s.advance passed inTime carry).pending = s.pending := by
  simp only [State.advance]; (repeat' split) <;> simp

@[simp] theorem State.authorityLost_frame (s : State) :
    s.authorityLost.powered = s.powered
      ∧ s.authorityLost.now = s.now
      ∧ s.authorityLost.choices = s.choices
      ∧ s.authorityLost.cfg = s.cfg
      ∧ s.authorityLost.cfs = s.cfs
      ∧ s.authorityLost.ni = s.ni
      ∧ s.authorityLost.ptb = s.ptb
      ∧ s.authorityLost.rm = s.rm
      ∧ s.authorityLost.rsq = s.rsq
      ∧ s.authorityLost.scu = s.scu
      ∧ s.authorityLost.sck = s.sck
      ∧ s.authorityLost.spe = s.spe
      ∧ s.authorityLost.stc = s.stc
      ∧ s.authorityLost.pending = s.pending := by
  simp only [State.authorityLost]; (repeat' split) <;> simp

@[simp] theorem State.positionFault_frame (s : State) :
    s.positionFault.powered = s.powered
      ∧ s.positionFault.now = s.now
      ∧ s.positionFault.choices = s.choices
      ∧ s.positionFault.cfg = s.cfg
      ∧ s.positionFault.cfs = s.cfs
      ∧ s.positionFault.ptb = s.ptb
      ∧ s.positionFault.sck = s.sck
      ∧ s.positionFault.pending = s.pending := by
  simp only [State.positionFault]; (repeat' split) <;> simp

@[simp] theorem State.runEnds_frame (n : Nat) (s : State) :
    (s.runEnds n).powered = s.powered
      ∧ (s.runEnds n).now = s.now
      ∧ (s.runEnds n).choices = s.choices
      ∧ (s.runEnds n).cfg = s.cfg
      ∧ (s.runEnds n).cfs = s.cfs
      ∧ (s.runEnds n).pending = s.pending := by
  induction n generalizing s with
  | zero => simp [State.runEnds]
  | succ n ih => simp only [State.runEnds]; split <;> simp [ih]

@[simp] theorem State.settleEnds_frame (s : State) :
    s.settleEnds.powered = s.powered
      ∧ s.settleEnds.now = s.now
      ∧ s.settleEnds.choices = s.choices
      ∧ s.settleEnds.cfg = s.cfg
      ∧ s.settleEnds.cfs = s.cfs
      ∧ s.settleEnds.pending = s.pending := by
  simp only [State.settleEnds]; (repeat' split) <;> simp

@[simp] theorem State.actOnRelease_frame (s : State) :
    s.actOnRelease.powered = s.powered
      ∧ s.actOnRelease.now = s.now
      ∧ s.actOnRelease.choices = s.choices
      ∧ s.actOnRelease.cfg = s.cfg
      ∧ s.actOnRelease.cfs = s.cfs
      ∧ s.actOnRelease.pending = s.pending := by
  simp only [State.actOnRelease]; (repeat' split) <;> simp

@[simp] theorem State.afterSlots_frame (before : Scu) (s : State) :
    (s.afterSlots before).powered = s.powered
      ∧ (s.afterSlots before).now = s.now
      ∧ (s.afterSlots before).choices = s.choices
      ∧ (s.afterSlots before).cfg = s.cfg
      ∧ (s.afterSlots before).cfs = s.cfs
      ∧ (s.afterSlots before).pending = s.pending := by
  simp only [State.afterSlots]; (repeat' split) <;> simp

@[simp] theorem State.routePulse_frame (s : State) :
    s.routePulse.powered = s.powered
      ∧ s.routePulse.now = s.now
      ∧ s.routePulse.choices = s.choices
      ∧ s.routePulse.cfg = s.cfg
      ∧ s.routePulse.cfs = s.cfs
      ∧ s.routePulse.pending = s.pending := by
  simp only [State.routePulse]; (repeat' split) <;> simp

@[simp] theorem State.disagreement_frame (s : State) :
    s.disagreement.powered = s.powered
      ∧ s.disagreement.now = s.now
      ∧ s.disagreement.choices = s.choices
      ∧ s.disagreement.cfg = s.cfg
      ∧ s.disagreement.cfs = s.cfs
      ∧ s.disagreement.pending = s.pending := by
  simp only [State.disagreement]; (repeat' split) <;> simp

@[simp] theorem State.inTimeRead_frame (s : State) :
    s.inTimeRead.powered = s.powered
      ∧ s.inTimeRead.now = s.now
      ∧ s.inTimeRead.choices = s.choices
      ∧ s.inTimeRead.cfg = s.cfg
      ∧ s.inTimeRead.cfs = s.cfs
      ∧ s.inTimeRead.pending = s.pending := by
  simp only [State.inTimeRead]; (repeat' split) <;> simp

@[simp] theorem State.readMarker_frame (id : Nat) (s : State) :
    (s.readMarker id).powered = s.powered
      ∧ (s.readMarker id).now = s.now
      ∧ (s.readMarker id).choices = s.choices
      ∧ (s.readMarker id).cfg = s.cfg
      ∧ (s.readMarker id).cfs = s.cfs
      ∧ (s.readMarker id).pending = s.pending := by
  simp only [State.readMarker]; (repeat' split) <;> simp

@[simp] theorem State.driveFix_frame (s : State) :
    s.driveFix.powered = s.powered
      ∧ s.driveFix.now = s.now
      ∧ s.driveFix.choices = s.choices
      ∧ s.driveFix.cfg = s.cfg
      ∧ s.driveFix.cfs = s.cfs
      ∧ s.driveFix.ptb = s.ptb
      ∧ s.driveFix.sau = s.sau
      ∧ s.driveFix.scu = s.scu
      ∧ s.driveFix.sck = s.sck
      ∧ s.driveFix.spe = s.spe
      ∧ s.driveFix.stc = s.stc
      ∧ s.driveFix.pending = s.pending := by
  simp only [State.driveFix]; (repeat' split) <;> simp

@[simp] theorem State.relocate_frame (entry distance : Nat) (s : State) :
    (s.relocate entry distance).powered = s.powered
      ∧ (s.relocate entry distance).now = s.now
      ∧ (s.relocate entry distance).choices = s.choices
      ∧ (s.relocate entry distance).cfg = s.cfg
      ∧ (s.relocate entry distance).cfs = s.cfs
      ∧ (s.relocate entry distance).pending = s.pending := by
  simp only [State.relocate]; (repeat' split) <;> simp

end Sys2Proof.Machine
end

