-- ==== Sys2Proof/Laws/FramesMore.lean ====
section
/-! SUPPORT. What each operation of the restraints, the authority, starts, parking, reception and the commands leaves
alone. -/

namespace Sys2Proof.Machine

@[simp] theorem State.setVehicle_frame (x : Restraint) (s : State) :
    (s.setVehicle x).powered = s.powered
      ∧ (s.setVehicle x).now = s.now
      ∧ (s.setVehicle x).choices = s.choices
      ∧ (s.setVehicle x).cfg = s.cfg
      ∧ (s.setVehicle x).cfs = s.cfs
      ∧ (s.setVehicle x).ptb = s.ptb
      ∧ (s.setVehicle x).rsq = s.rsq
      ∧ (s.setVehicle x).scu = s.scu
      ∧ (s.setVehicle x).sck = s.sck
      ∧ (s.setVehicle x).spe = s.spe
      ∧ (s.setVehicle x).stc = s.stc
      ∧ (s.setVehicle x).pending = s.pending := by
  simp only [State.setVehicle]; (repeat' split) <;> simp

@[simp] theorem State.enterAlarm_frame (s : State) :
    s.enterAlarm.powered = s.powered
      ∧ s.enterAlarm.now = s.now
      ∧ s.enterAlarm.cfg = s.cfg
      ∧ s.enterAlarm.cfs = s.cfs
      ∧ s.enterAlarm.ptb = s.ptb
      ∧ s.enterAlarm.sck = s.sck
      ∧ s.enterAlarm.pending = s.pending := by
  simp only [State.enterAlarm, State.inEitherOrder]; (repeat' split) <;> simp

@[simp] theorem State.checkingTest_frame (s : State) :
    s.checkingTest.powered = s.powered
      ∧ s.checkingTest.now = s.now
      ∧ s.checkingTest.choices = s.choices
      ∧ s.checkingTest.cfg = s.cfg
      ∧ s.checkingTest.cfs = s.cfs
      ∧ s.checkingTest.ptb = s.ptb
      ∧ s.checkingTest.rsq = s.rsq
      ∧ s.checkingTest.scu = s.scu
      ∧ s.checkingTest.sck = s.sck
      ∧ s.checkingTest.spe = s.spe
      ∧ s.checkingTest.stc = s.stc
      ∧ s.checkingTest.pending = s.pending := by
  simp only [State.checkingTest]; (repeat' split) <;> simp

@[simp] theorem State.alarmTest_frame (level : Nat) (s : State) :
    (s.alarmTest level).powered = s.powered
      ∧ (s.alarmTest level).now = s.now
      ∧ (s.alarmTest level).choices = s.choices
      ∧ (s.alarmTest level).cfg = s.cfg
      ∧ (s.alarmTest level).cfs = s.cfs
      ∧ (s.alarmTest level).ptb = s.ptb
      ∧ (s.alarmTest level).rsq = s.rsq
      ∧ (s.alarmTest level).scu = s.scu
      ∧ (s.alarmTest level).sck = s.sck
      ∧ (s.alarmTest level).stc = s.stc
      ∧ (s.alarmTest level).pending = s.pending := by
  simp only [State.alarmTest]; (repeat' split) <;> simp

@[simp] theorem State.seatTest_frame (s : State) :
    s.seatTest.powered = s.powered
      ∧ s.seatTest.now = s.now
      ∧ s.seatTest.choices = s.choices
      ∧ s.seatTest.cfg = s.cfg
      ∧ s.seatTest.cfs = s.cfs
      ∧ s.seatTest.ptb = s.ptb
      ∧ s.seatTest.rsq = s.rsq
      ∧ s.seatTest.scu = s.scu
      ∧ s.seatTest.sck = s.sck
      ∧ s.seatTest.pending = s.pending := by
  simp only [State.seatTest]; (repeat' split) <;> simp

@[simp] theorem State.seatLoss_frame (s : State) :
    s.seatLoss.powered = s.powered
      ∧ s.seatLoss.now = s.now
      ∧ s.seatLoss.cfg = s.cfg
      ∧ s.seatLoss.cfs = s.cfs
      ∧ s.seatLoss.ptb = s.ptb
      ∧ s.seatLoss.sck = s.sck
      ∧ s.seatLoss.pending = s.pending := by
  simp only [State.seatLoss]; (repeat' split) <;> simp

@[simp] theorem State.setSeat_frame (i : Nat) (k : Seat) (s : State) :
    (s.setSeat i k).powered = s.powered
      ∧ (s.setSeat i k).now = s.now
      ∧ (s.setSeat i k).choices = s.choices
      ∧ (s.setSeat i k).cfg = s.cfg
      ∧ (s.setSeat i k).cfs = s.cfs
      ∧ (s.setSeat i k).ni = s.ni
      ∧ (s.setSeat i k).ptb = s.ptb
      ∧ (s.setSeat i k).sau = s.sau
      ∧ (s.setSeat i k).dsc = s.dsc
      ∧ (s.setSeat i k).rsq = s.rsq
      ∧ (s.setSeat i k).scu = s.scu
      ∧ (s.setSeat i k).sck = s.sck
      ∧ (s.setSeat i k).spe = s.spe
      ∧ (s.setSeat i k).stc = s.stc
      ∧ (s.setSeat i k).pending = s.pending := by
  simp only [State.setSeat]; (repeat' split) <;> simp

@[simp] theorem State.seatChange_frame (i : Nat) (s : State) :
    (s.seatChange i).powered = s.powered
      ∧ (s.seatChange i).now = s.now
      ∧ (s.seatChange i).cfg = s.cfg
      ∧ (s.seatChange i).cfs = s.cfs
      ∧ (s.seatChange i).ptb = s.ptb
      ∧ (s.seatChange i).sck = s.sck
      ∧ (s.seatChange i).pending = s.pending := by
  simp only [State.seatChange]; (repeat' split) <;> simp

@[simp] theorem State.seatChanges_frame (l : List Nat) (s : State) :
    (s.seatChanges l).powered = s.powered
      ∧ (s.seatChanges l).now = s.now
      ∧ (s.seatChanges l).cfg = s.cfg
      ∧ (s.seatChanges l).cfs = s.cfs
      ∧ (s.seatChanges l).ptb = s.ptb
      ∧ (s.seatChanges l).sck = s.sck
      ∧ (s.seatChanges l).pending = s.pending := by
  induction l generalizing s with
  | nil => simp [State.seatChanges]
  | cons i l ih => simp [State.seatChanges, ih]

@[simp] theorem State.confirmed_frame (i : Nat) (s : State) :
    (s.confirmed i).powered = s.powered
      ∧ (s.confirmed i).now = s.now
      ∧ (s.confirmed i).choices = s.choices
      ∧ (s.confirmed i).cfg = s.cfg
      ∧ (s.confirmed i).cfs = s.cfs
      ∧ (s.confirmed i).ptb = s.ptb
      ∧ (s.confirmed i).rsq = s.rsq
      ∧ (s.confirmed i).scu = s.scu
      ∧ (s.confirmed i).sck = s.sck
      ∧ (s.confirmed i).pending = s.pending := by
  simp only [State.confirmed]; (repeat' split) <;> simp

@[simp] theorem State.contradicted_frame (i : Nat) (s : State) :
    (s.contradicted i).powered = s.powered
      ∧ (s.contradicted i).now = s.now
      ∧ (s.contradicted i).choices = s.choices
      ∧ (s.contradicted i).cfg = s.cfg
      ∧ (s.contradicted i).cfs = s.cfs
      ∧ (s.contradicted i).ptb = s.ptb
      ∧ (s.contradicted i).rsq = s.rsq
      ∧ (s.contradicted i).scu = s.scu
      ∧ (s.contradicted i).sck = s.sck
      ∧ (s.contradicted i).pending = s.pending := by
  simp only [State.contradicted]; (repeat' split) <;> simp

@[simp] theorem State.releaseVehicle_frame (s : State) :
    s.releaseVehicle.powered = s.powered
      ∧ s.releaseVehicle.now = s.now
      ∧ s.releaseVehicle.choices = s.choices
      ∧ s.releaseVehicle.cfg = s.cfg
      ∧ s.releaseVehicle.cfs = s.cfs
      ∧ s.releaseVehicle.ptb = s.ptb
      ∧ s.releaseVehicle.rsq = s.rsq
      ∧ s.releaseVehicle.scu = s.scu
      ∧ s.releaseVehicle.sck = s.sck
      ∧ s.releaseVehicle.pending = s.pending := by
  simp only [State.releaseVehicle]; (repeat' split) <;> simp

@[simp] theorem State.grantUnlock_frame (src : Nat) (s : State) :
    (s.grantUnlock src).powered = s.powered
      ∧ (s.grantUnlock src).now = s.now
      ∧ (s.grantUnlock src).choices = s.choices
      ∧ (s.grantUnlock src).cfg = s.cfg
      ∧ (s.grantUnlock src).cfs = s.cfs
      ∧ (s.grantUnlock src).ptb = s.ptb
      ∧ (s.grantUnlock src).rsq = s.rsq
      ∧ (s.grantUnlock src).scu = s.scu
      ∧ (s.grantUnlock src).sck = s.sck
      ∧ (s.grantUnlock src).pending = s.pending := by
  simp only [State.grantUnlock]; (repeat' split) <;> simp

@[simp] theorem State.grantLock_frame (s : State) :
    s.grantLock.powered = s.powered
      ∧ s.grantLock.now = s.now
      ∧ s.grantLock.choices = s.choices
      ∧ s.grantLock.cfg = s.cfg
      ∧ s.grantLock.cfs = s.cfs
      ∧ s.grantLock.ptb = s.ptb
      ∧ s.grantLock.rsq = s.rsq
      ∧ s.grantLock.scu = s.scu
      ∧ s.grantLock.sck = s.sck
      ∧ s.grantLock.spe = s.spe
      ∧ s.grantLock.stc = s.stc
      ∧ s.grantLock.pending = s.pending := by
  simp only [State.grantLock]; (repeat' split) <;> simp

@[simp] theorem State.grantDispatch_frame (src : Nat) (s : State) :
    (s.grantDispatch src).powered = s.powered
      ∧ (s.grantDispatch src).now = s.now
      ∧ (s.grantDispatch src).choices = s.choices
      ∧ (s.grantDispatch src).cfg = s.cfg
      ∧ (s.grantDispatch src).cfs = s.cfs
      ∧ (s.grantDispatch src).pending = s.pending := by
  simp only [State.grantDispatch]; (repeat' split) <;> simp

@[simp] theorem State.computeAuthority_frame (s : State) :
    s.computeAuthority.powered = s.powered
      ∧ s.computeAuthority.now = s.now
      ∧ s.computeAuthority.choices = s.choices
      ∧ s.computeAuthority.cfg = s.cfg
      ∧ s.computeAuthority.cfs = s.cfs
      ∧ s.computeAuthority.dsc = s.dsc
      ∧ s.computeAuthority.rm = s.rm
      ∧ s.computeAuthority.rsq = s.rsq
      ∧ s.computeAuthority.spe = s.spe
      ∧ s.computeAuthority.pending = s.pending := by
  simp only [State.computeAuthority]; (repeat' split) <;> simp

@[simp] theorem State.netBegins_frame (s : State) :
    s.netBegins.powered = s.powered
      ∧ s.netBegins.now = s.now
      ∧ s.netBegins.choices = s.choices
      ∧ s.netBegins.cfg = s.cfg
      ∧ s.netBegins.cfs = s.cfs
      ∧ s.netBegins.ptb = s.ptb
      ∧ s.netBegins.sau = s.sau
      ∧ s.netBegins.dsc = s.dsc
      ∧ s.netBegins.rm = s.rm
      ∧ s.netBegins.rsq = s.rsq
      ∧ s.netBegins.scu = s.scu
      ∧ s.netBegins.sck = s.sck
      ∧ s.netBegins.spe = s.spe
      ∧ s.netBegins.stc = s.stc
      ∧ s.netBegins.pending = s.pending := by
  simp only [State.netBegins]; (repeat' split) <;> simp

@[simp] theorem State.ready_frame (c : Configuration) (s : State) :
    (s.ready c).powered = s.powered
      ∧ (s.ready c).now = s.now
      ∧ (s.ready c).choices = s.choices
      ∧ (s.ready c).ptb = s.ptb
      ∧ (s.ready c).sau = s.sau
      ∧ (s.ready c).rsq = s.rsq
      ∧ (s.ready c).scu = s.scu
      ∧ (s.ready c).spe = s.spe
      ∧ (s.ready c).stc = s.stc
      ∧ (s.ready c).pending = s.pending := by
  simp only [State.ready]; (repeat' split) <;> simp

@[simp] theorem State.configFault_frame (code : FaultCode) (item : FaultItem) (s : State) :
    (s.configFault code item).powered = s.powered
      ∧ (s.configFault code item).now = s.now
      ∧ (s.configFault code item).choices = s.choices
      ∧ (s.configFault code item).cfg = s.cfg
      ∧ (s.configFault code item).ni = s.ni
      ∧ (s.configFault code item).ptb = s.ptb
      ∧ (s.configFault code item).sau = s.sau
      ∧ (s.configFault code item).rm = s.rm
      ∧ (s.configFault code item).rsq = s.rsq
      ∧ (s.configFault code item).scu = s.scu
      ∧ (s.configFault code item).sck = s.sck
      ∧ (s.configFault code item).spe = s.spe
      ∧ (s.configFault code item).stc = s.stc
      ∧ (s.configFault code item).pending = s.pending := by
  simp only [State.configFault]; (repeat' split) <;> simp

@[simp] theorem State.endLoad_frame (memory : List Byte) (s : State) :
    (s.endLoad memory).powered = s.powered
      ∧ (s.endLoad memory).now = s.now
      ∧ (s.endLoad memory).choices = s.choices
      ∧ (s.endLoad memory).ptb = s.ptb
      ∧ (s.endLoad memory).sau = s.sau
      ∧ (s.endLoad memory).rsq = s.rsq
      ∧ (s.endLoad memory).scu = s.scu
      ∧ (s.endLoad memory).spe = s.spe
      ∧ (s.endLoad memory).stc = s.stc
      ∧ (s.endLoad memory).pending = s.pending := by
  simp only [State.endLoad]; (repeat' split) <;> simp

@[simp] theorem State.parkAll_frame (s : State) :
    s.parkAll.powered = s.powered
      ∧ s.parkAll.now = s.now
      ∧ s.parkAll.choices = s.choices
      ∧ s.parkAll.cfg = s.cfg
      ∧ s.parkAll.cfs = s.cfs
      ∧ s.parkAll.pending = s.pending := by
  simp only [State.parkAll]; (repeat' split) <;> simp

@[simp] theorem State.wake_frame (r : WakeReason) (s : State) :
    (s.wake r).powered = s.powered
      ∧ (s.wake r).now = s.now
      ∧ (s.wake r).choices = s.choices
      ∧ (s.wake r).cfg = s.cfg
      ∧ (s.wake r).pending = s.pending := by
  simp only [State.wake]; (repeat' split) <;> simp

@[simp] theorem State.withdrawLatched_frame (s : State) :
    s.withdrawLatched.powered = s.powered
      ∧ s.withdrawLatched.now = s.now
      ∧ s.withdrawLatched.choices = s.choices
      ∧ s.withdrawLatched.cfg = s.cfg
      ∧ s.withdrawLatched.cfs = s.cfs
      ∧ s.withdrawLatched.ptb = s.ptb
      ∧ s.withdrawLatched.sau = s.sau
      ∧ s.withdrawLatched.dsc = s.dsc
      ∧ s.withdrawLatched.rm = s.rm
      ∧ s.withdrawLatched.rsq = s.rsq
      ∧ s.withdrawLatched.scu = s.scu
      ∧ s.withdrawLatched.sck = s.sck
      ∧ s.withdrawLatched.spe = s.spe
      ∧ s.withdrawLatched.pending = s.pending := by
  simp only [State.withdrawLatched]; (repeat' split) <;> simp

@[simp] theorem State.driveAfterFall_frame (level : Nat) (s : State) :
    (s.driveAfterFall level).powered = s.powered
      ∧ (s.driveAfterFall level).now = s.now
      ∧ (s.driveAfterFall level).choices = s.choices
      ∧ (s.driveAfterFall level).cfg = s.cfg
      ∧ (s.driveAfterFall level).cfs = s.cfs
      ∧ (s.driveAfterFall level).pending = s.pending := by
  simp only [State.driveAfterFall]; (repeat' split) <;> simp

@[simp] theorem State.chainAfterFall_frame (level : Nat) (s : State) :
    (s.chainAfterFall level).powered = s.powered
      ∧ (s.chainAfterFall level).now = s.now
      ∧ (s.chainAfterFall level).choices = s.choices
      ∧ (s.chainAfterFall level).cfg = s.cfg
      ∧ (s.chainAfterFall level).cfs = s.cfs
      ∧ (s.chainAfterFall level).ptb = s.ptb
      ∧ (s.chainAfterFall level).sau = s.sau
      ∧ (s.chainAfterFall level).dsc = s.dsc
      ∧ (s.chainAfterFall level).rm = s.rm
      ∧ (s.chainAfterFall level).rsq = s.rsq
      ∧ (s.chainAfterFall level).sck = s.sck
      ∧ (s.chainAfterFall level).spe = s.spe
      ∧ (s.chainAfterFall level).stc = s.stc
      ∧ (s.chainAfterFall level).pending = s.pending := by
  simp only [State.chainAfterFall]; (repeat' split) <;> simp

@[simp] theorem State.notifyFall_frame (level : Nat) (s : State) :
    (s.notifyFall level).powered = s.powered
      ∧ (s.notifyFall level).now = s.now
      ∧ (s.notifyFall level).cfg = s.cfg
      ∧ (s.notifyFall level).cfs = s.cfs
      ∧ (s.notifyFall level).pending = s.pending := by
  simp only [State.notifyFall, State.inAnyOrder]; (repeat' split) <;> simp

@[simp] theorem State.setLatch_frame (s : State) :
    s.setLatch.powered = s.powered
      ∧ s.setLatch.now = s.now
      ∧ s.setLatch.choices = s.choices
      ∧ s.setLatch.cfg = s.cfg
      ∧ s.setLatch.cfs = s.cfs
      ∧ s.setLatch.ni = s.ni
      ∧ s.setLatch.ptb = s.ptb
      ∧ s.setLatch.sau = s.sau
      ∧ s.setLatch.dsc = s.dsc
      ∧ s.setLatch.rm = s.rm
      ∧ s.setLatch.rsq = s.rsq
      ∧ s.setLatch.scu = s.scu
      ∧ s.setLatch.sck = s.sck
      ∧ s.setLatch.spe = s.spe
      ∧ s.setLatch.pending = s.pending := by
  simp only [State.setLatch]; (repeat' split) <;> simp

@[simp] theorem State.resume_frame (s : State) :
    s.resume.powered = s.powered
      ∧ s.resume.now = s.now
      ∧ s.resume.cfg = s.cfg
      ∧ s.resume.cfs = s.cfs
      ∧ s.resume.pending = s.pending := by
  simp only [State.resume]; (repeat' split) <;> simp

@[simp] theorem State.playLink_frame (b : CuestBody) (t : Track) (s : State) :
    (s.playLink b t).powered = s.powered
      ∧ (s.playLink b t).now = s.now
      ∧ (s.playLink b t).choices = s.choices
      ∧ (s.playLink b t).cfg = s.cfg
      ∧ (s.playLink b t).cfs = s.cfs
      ∧ (s.playLink b t).ni = s.ni
      ∧ (s.playLink b t).ptb = s.ptb
      ∧ (s.playLink b t).sau = s.sau
      ∧ (s.playLink b t).dsc = s.dsc
      ∧ (s.playLink b t).rm = s.rm
      ∧ (s.playLink b t).rsq = s.rsq
      ∧ (s.playLink b t).scu = s.scu
      ∧ (s.playLink b t).sck = s.sck
      ∧ (s.playLink b t).stc = s.stc
      ∧ (s.playLink b t).pending = s.pending := by
  simp only [State.playLink]; (repeat' split) <;> simp

@[simp] theorem State.cueStatus_frame (src : Nat) (b : CuestBody) (s : State) :
    (s.cueStatus src b).powered = s.powered
      ∧ (s.cueStatus src b).now = s.now
      ∧ (s.cueStatus src b).choices = s.choices
      ∧ (s.cueStatus src b).cfg = s.cfg
      ∧ (s.cueStatus src b).cfs = s.cfs
      ∧ (s.cueStatus src b).ptb = s.ptb
      ∧ (s.cueStatus src b).sau = s.sau
      ∧ (s.cueStatus src b).dsc = s.dsc
      ∧ (s.cueStatus src b).rm = s.rm
      ∧ (s.cueStatus src b).rsq = s.rsq
      ∧ (s.cueStatus src b).sck = s.sck
      ∧ (s.cueStatus src b).stc = s.stc
      ∧ (s.cueStatus src b).pending = s.pending := by
  simp only [State.cueStatus]; (repeat' split) <;> simp

@[simp] theorem State.cueTimedOut_frame (ref : Nat) (s : State) :
    (s.cueTimedOut ref).powered = s.powered
      ∧ (s.cueTimedOut ref).now = s.now
      ∧ (s.cueTimedOut ref).choices = s.choices
      ∧ (s.cueTimedOut ref).cfg = s.cfg
      ∧ (s.cueTimedOut ref).cfs = s.cfs
      ∧ (s.cueTimedOut ref).ptb = s.ptb
      ∧ (s.cueTimedOut ref).sau = s.sau
      ∧ (s.cueTimedOut ref).dsc = s.dsc
      ∧ (s.cueTimedOut ref).rm = s.rm
      ∧ (s.cueTimedOut ref).rsq = s.rsq
      ∧ (s.cueTimedOut ref).sck = s.sck
      ∧ (s.cueTimedOut ref).spe = s.spe
      ∧ (s.cueTimedOut ref).stc = s.stc
      ∧ (s.cueTimedOut ref).pending = s.pending := by
  simp only [State.cueTimedOut]; (repeat' split) <;> simp

@[simp] theorem State.hear_frame (src : Nat) (s : State) :
    (s.hear src).powered = s.powered
      ∧ (s.hear src).now = s.now
      ∧ (s.hear src).choices = s.choices
      ∧ (s.hear src).cfg = s.cfg
      ∧ (s.hear src).cfs = s.cfs
      ∧ (s.hear src).sau = s.sau
      ∧ (s.hear src).dsc = s.dsc
      ∧ (s.hear src).rm = s.rm
      ∧ (s.hear src).rsq = s.rsq
      ∧ (s.hear src).spe = s.spe
      ∧ (s.hear src).pending = s.pending := by
  simp only [State.hear]; (repeat' split) <;> simp

@[simp] theorem State.deliverPos_frame (src : Nat) (b : PosBody) (s : State) :
    (s.deliverPos src b).powered = s.powered
      ∧ (s.deliverPos src b).now = s.now
      ∧ (s.deliverPos src b).cfg = s.cfg
      ∧ (s.deliverPos src b).cfs = s.cfs
      ∧ (s.deliverPos src b).pending = s.pending := by
  simp only [State.deliverPos, State.inEitherOrder]; (repeat' split) <;> simp

@[simp] theorem State.deliverStop_frame (src level code : Nat) (s : State) :
    (s.deliverStop src level code).powered = s.powered
      ∧ (s.deliverStop src level code).now = s.now
      ∧ (s.deliverStop src level code).cfg = s.cfg
      ∧ (s.deliverStop src level code).cfs = s.cfs
      ∧ (s.deliverStop src level code).pending = s.pending := by
  simp only [State.deliverStop, State.inEitherOrder]; (repeat' split) <;> simp

@[simp] theorem State.deliverResume_frame (src : Nat) (s : State) :
    (s.deliverResume src).powered = s.powered
      ∧ (s.deliverResume src).now = s.now
      ∧ (s.deliverResume src).cfg = s.cfg
      ∧ (s.deliverResume src).cfs = s.cfs
      ∧ (s.deliverResume src).pending = s.pending := by
  simp only [State.deliverResume, State.inEitherOrder]; (repeat' split) <;> simp

@[simp] theorem State.claimAtSlots_frame (src x : Nat) (s : State) :
    (s.claimAtSlots src x).powered = s.powered
      ∧ (s.claimAtSlots src x).now = s.now
      ∧ (s.claimAtSlots src x).choices = s.choices
      ∧ (s.claimAtSlots src x).cfg = s.cfg
      ∧ (s.claimAtSlots src x).cfs = s.cfs
      ∧ (s.claimAtSlots src x).sau = s.sau
      ∧ (s.claimAtSlots src x).dsc = s.dsc
      ∧ (s.claimAtSlots src x).rm = s.rm
      ∧ (s.claimAtSlots src x).rsq = s.rsq
      ∧ (s.claimAtSlots src x).spe = s.spe
      ∧ (s.claimAtSlots src x).pending = s.pending := by
  simp only [State.claimAtSlots]; (repeat' split) <;> simp

@[simp] theorem State.freeAtSlots_frame (src x : Nat) (s : State) :
    (s.freeAtSlots src x).powered = s.powered
      ∧ (s.freeAtSlots src x).now = s.now
      ∧ (s.freeAtSlots src x).choices = s.choices
      ∧ (s.freeAtSlots src x).cfg = s.cfg
      ∧ (s.freeAtSlots src x).cfs = s.cfs
      ∧ (s.freeAtSlots src x).sau = s.sau
      ∧ (s.freeAtSlots src x).dsc = s.dsc
      ∧ (s.freeAtSlots src x).rm = s.rm
      ∧ (s.freeAtSlots src x).rsq = s.rsq
      ∧ (s.freeAtSlots src x).spe = s.spe
      ∧ (s.freeAtSlots src x).pending = s.pending := by
  simp only [State.freeAtSlots]; (repeat' split) <;> simp

@[simp] theorem State.deliverClaim_frame (src x : Nat) (s : State) :
    (s.deliverClaim src x).powered = s.powered
      ∧ (s.deliverClaim src x).now = s.now
      ∧ (s.deliverClaim src x).cfg = s.cfg
      ∧ (s.deliverClaim src x).cfs = s.cfs
      ∧ (s.deliverClaim src x).sau = s.sau
      ∧ (s.deliverClaim src x).dsc = s.dsc
      ∧ (s.deliverClaim src x).rm = s.rm
      ∧ (s.deliverClaim src x).rsq = s.rsq
      ∧ (s.deliverClaim src x).spe = s.spe
      ∧ (s.deliverClaim src x).pending = s.pending := by
  simp only [State.deliverClaim, State.inEitherOrder]; (repeat' split) <;> simp

@[simp] theorem State.deliverFree_frame (src x : Nat) (s : State) :
    (s.deliverFree src x).powered = s.powered
      ∧ (s.deliverFree src x).now = s.now
      ∧ (s.deliverFree src x).cfg = s.cfg
      ∧ (s.deliverFree src x).cfs = s.cfs
      ∧ (s.deliverFree src x).sau = s.sau
      ∧ (s.deliverFree src x).dsc = s.dsc
      ∧ (s.deliverFree src x).rm = s.rm
      ∧ (s.deliverFree src x).rsq = s.rsq
      ∧ (s.deliverFree src x).spe = s.spe
      ∧ (s.deliverFree src x).pending = s.pending := by
  simp only [State.deliverFree, State.inEitherOrder]; (repeat' split) <;> simp

@[simp] theorem State.deliverCuest_frame (src : Nat) (b : CuestBody) (s : State) :
    (s.deliverCuest src b).powered = s.powered
      ∧ (s.deliverCuest src b).now = s.now
      ∧ (s.deliverCuest src b).cfg = s.cfg
      ∧ (s.deliverCuest src b).cfs = s.cfs
      ∧ (s.deliverCuest src b).sau = s.sau
      ∧ (s.deliverCuest src b).dsc = s.dsc
      ∧ (s.deliverCuest src b).rm = s.rm
      ∧ (s.deliverCuest src b).rsq = s.rsq
      ∧ (s.deliverCuest src b).pending = s.pending := by
  simp only [State.deliverCuest, State.inEitherOrder]; (repeat' split) <;> simp

@[simp] theorem State.deliverSync_frame (src time scene : Nat) (s : State) :
    (s.deliverSync src time scene).powered = s.powered
      ∧ (s.deliverSync src time scene).now = s.now
      ∧ (s.deliverSync src time scene).cfg = s.cfg
      ∧ (s.deliverSync src time scene).cfs = s.cfs
      ∧ (s.deliverSync src time scene).sau = s.sau
      ∧ (s.deliverSync src time scene).dsc = s.dsc
      ∧ (s.deliverSync src time scene).rm = s.rm
      ∧ (s.deliverSync src time scene).rsq = s.rsq
      ∧ (s.deliverSync src time scene).spe = s.spe
      ∧ (s.deliverSync src time scene).pending = s.pending := by
  simp only [State.deliverSync, State.inEitherOrder]; (repeat' split) <;> simp

@[simp] theorem State.grantPark_frame (s : State) :
    s.grantPark.powered = s.powered
      ∧ s.grantPark.now = s.now
      ∧ s.grantPark.choices = s.choices
      ∧ s.grantPark.cfg = s.cfg
      ∧ s.grantPark.cfs = s.cfs
      ∧ s.grantPark.pending = s.pending := by
  simp only [State.grantPark]; (repeat' split) <;> simp

@[simp] theorem State.grant_frame (src : Nat) (kind : GrantKind) (s : State) :
    (s.grant src kind).powered = s.powered
      ∧ (s.grant src kind).now = s.now
      ∧ (s.grant src kind).choices = s.choices
      ∧ (s.grant src kind).cfg = s.cfg
      ∧ (s.grant src kind).cfs = s.cfs
      ∧ (s.grant src kind).pending = s.pending := by
  simp only [State.grant]; (repeat' split) <;> simp

@[simp] theorem State.deliverGrant_frame (src target : Nat) (kind : GrantKind) (s : State) :
    (s.deliverGrant src target kind).powered = s.powered
      ∧ (s.deliverGrant src target kind).now = s.now
      ∧ (s.deliverGrant src target kind).cfg = s.cfg
      ∧ (s.deliverGrant src target kind).cfs = s.cfs
      ∧ (s.deliverGrant src target kind).pending = s.pending := by
  simp only [State.deliverGrant, State.inEitherOrder]; (repeat' split) <;> simp

@[simp] theorem State.deliverFix_frame (src target entry distance : Nat) (s : State) :
    (s.deliverFix src target entry distance).powered = s.powered
      ∧ (s.deliverFix src target entry distance).now = s.now
      ∧ (s.deliverFix src target entry distance).cfg = s.cfg
      ∧ (s.deliverFix src target entry distance).cfs = s.cfs
      ∧ (s.deliverFix src target entry distance).pending = s.pending := by
  simp only [State.deliverFix, State.inEitherOrder]; (repeat' split) <;> simp

@[simp] theorem State.deliverClear_frame (src target : Nat) (s : State) :
    (s.deliverClear src target).powered = s.powered
      ∧ (s.deliverClear src target).now = s.now
      ∧ (s.deliverClear src target).choices = s.choices
      ∧ (s.deliverClear src target).cfg = s.cfg
      ∧ (s.deliverClear src target).cfs = s.cfs
      ∧ (s.deliverClear src target).sau = s.sau
      ∧ (s.deliverClear src target).dsc = s.dsc
      ∧ (s.deliverClear src target).rm = s.rm
      ∧ (s.deliverClear src target).rsq = s.rsq
      ∧ (s.deliverClear src target).spe = s.spe
      ∧ (s.deliverClear src target).pending = s.pending := by
  simp only [State.deliverClear]; (repeat' split) <;> simp

@[simp] theorem State.deliver_frame (src : Nat) (b : Body) (s : State) :
    (s.deliver src b).powered = s.powered
      ∧ (s.deliver src b).now = s.now
      ∧ (s.deliver src b).cfg = s.cfg
      ∧ (s.deliver src b).cfs = s.cfs
      ∧ (s.deliver src b).pending = s.pending := by
  simp only [State.deliver]; (repeat' split) <;> simp

@[simp] theorem State.deliverForeign_frame (src : Nat) (b : Body) (s : State) :
    (s.deliverForeign src b).powered = s.powered
      ∧ (s.deliverForeign src b).now = s.now
      ∧ (s.deliverForeign src b).cfg = s.cfg
      ∧ (s.deliverForeign src b).cfs = s.cfs
      ∧ (s.deliverForeign src b).pending = s.pending := by
  simp only [State.deliverForeign, State.inEitherOrder]; (repeat' split) <;> simp

@[simp] theorem State.netHeard_frame (s : State) :
    s.netHeard.powered = s.powered
      ∧ s.netHeard.now = s.now
      ∧ s.netHeard.choices = s.choices
      ∧ s.netHeard.cfg = s.cfg
      ∧ s.netHeard.cfs = s.cfs
      ∧ s.netHeard.ptb = s.ptb
      ∧ s.netHeard.sau = s.sau
      ∧ s.netHeard.dsc = s.dsc
      ∧ s.netHeard.rm = s.rm
      ∧ s.netHeard.rsq = s.rsq
      ∧ s.netHeard.scu = s.scu
      ∧ s.netHeard.sck = s.sck
      ∧ s.netHeard.spe = s.spe
      ∧ s.netHeard.pending = s.pending := by
  simp only [State.netHeard]; (repeat' split) <;> simp

@[simp] theorem State.handleFrame_frame (f : Frame) (s : State) :
    (s.handleFrame f).powered = s.powered
      ∧ (s.handleFrame f).now = s.now
      ∧ (s.handleFrame f).cfg = s.cfg
      ∧ (s.handleFrame f).cfs = s.cfs
      ∧ (s.handleFrame f).pending = s.pending := by
  simp only [State.handleFrame]; (repeat' split) <;> simp

@[simp] theorem State.examine_frame (f : Frame) (s : State) :
    (s.examine f).powered = s.powered
      ∧ (s.examine f).now = s.now
      ∧ (s.examine f).cfg = s.cfg
      ∧ (s.examine f).pending = s.pending := by
  simp only [State.examine]; (repeat' split) <;> simp

@[simp] theorem State.carrierFalls_frame (s : State) :
    s.carrierFalls.powered = s.powered
      ∧ s.carrierFalls.now = s.now
      ∧ s.carrierFalls.choices = s.choices
      ∧ s.carrierFalls.cfg = s.cfg
      ∧ s.carrierFalls.cfs = s.cfs
      ∧ s.carrierFalls.ptb = s.ptb
      ∧ s.carrierFalls.sau = s.sau
      ∧ s.carrierFalls.dsc = s.dsc
      ∧ s.carrierFalls.rm = s.rm
      ∧ s.carrierFalls.rsq = s.rsq
      ∧ s.carrierFalls.scu = s.scu
      ∧ s.carrierFalls.sck = s.sck
      ∧ s.carrierFalls.spe = s.spe
      ∧ s.carrierFalls.stc = s.stc
      ∧ s.carrierFalls.pending = s.pending := by
  simp only [State.carrierFalls]; (repeat' split) <;> simp

@[simp] theorem State.receive_frame (f : Frame) (s : State) :
    (s.receive f).powered = s.powered
      ∧ (s.receive f).now = s.now
      ∧ (s.receive f).cfg = s.cfg
      ∧ (s.receive f).pending = s.pending := by
  simp only [State.receive]; (repeat' split) <;> simp

@[simp] theorem State.receiveBytes_frame (bytes : List Byte) (s : State) :
    (s.receiveBytes bytes).powered = s.powered
      ∧ (s.receiveBytes bytes).now = s.now
      ∧ (s.receiveBytes bytes).cfg = s.cfg
      ∧ (s.receiveBytes bytes).pending = s.pending := by
  simp only [State.receiveBytes]; (repeat' split) <;> simp

@[simp] theorem State.awake_frame (s : State) :
    s.awake.powered = s.powered
      ∧ s.awake.now = s.now
      ∧ s.awake.choices = s.choices
      ∧ s.awake.cfg = s.cfg
      ∧ s.awake.pending = s.pending := by
  simp only [State.awake]; (repeat' split) <;> simp

@[simp] theorem State.loadEnds_frame (memory : List Byte) (s : State) :
    (s.loadEnds memory).powered = s.powered
      ∧ (s.loadEnds memory).now = s.now
      ∧ (s.loadEnds memory).choices = s.choices
      ∧ (s.loadEnds memory).ptb = s.ptb
      ∧ (s.loadEnds memory).sau = s.sau
      ∧ (s.loadEnds memory).rsq = s.rsq
      ∧ (s.loadEnds memory).scu = s.scu
      ∧ (s.loadEnds memory).spe = s.spe
      ∧ (s.loadEnds memory).stc = s.stc
      ∧ (s.loadEnds memory).pending = s.pending := by
  simp only [State.loadEnds]; (repeat' split) <;> simp

@[simp] theorem State.reportSent_frame (f : Waiting) (s : State) :
    (s.reportSent f).powered = s.powered
      ∧ (s.reportSent f).now = s.now
      ∧ (s.reportSent f).choices = s.choices
      ∧ (s.reportSent f).cfg = s.cfg
      ∧ (s.reportSent f).cfs = s.cfs
      ∧ (s.reportSent f).ni = s.ni
      ∧ (s.reportSent f).ptb = s.ptb
      ∧ (s.reportSent f).sau = s.sau
      ∧ (s.reportSent f).dsc = s.dsc
      ∧ (s.reportSent f).rm = s.rm
      ∧ (s.reportSent f).rsq = s.rsq
      ∧ (s.reportSent f).sck = s.sck
      ∧ (s.reportSent f).spe = s.spe
      ∧ (s.reportSent f).stc = s.stc
      ∧ (s.reportSent f).pending = s.pending := by
  simp only [State.reportSent]; (repeat' split) <;> simp

@[simp] theorem State.sendHead_frame (f : Waiting) (rest : List Waiting) (s : State) :
    (s.sendHead f rest).powered = s.powered
      ∧ (s.sendHead f rest).now = s.now
      ∧ (s.sendHead f rest).choices = s.choices
      ∧ (s.sendHead f rest).cfg = s.cfg
      ∧ (s.sendHead f rest).cfs = s.cfs
      ∧ (s.sendHead f rest).ptb = s.ptb
      ∧ (s.sendHead f rest).sau = s.sau
      ∧ (s.sendHead f rest).dsc = s.dsc
      ∧ (s.sendHead f rest).rm = s.rm
      ∧ (s.sendHead f rest).rsq = s.rsq
      ∧ (s.sendHead f rest).sck = s.sck
      ∧ (s.sendHead f rest).spe = s.spe
      ∧ (s.sendHead f rest).stc = s.stc
      ∧ (s.sendHead f rest).pending = s.pending := by
  simp only [State.sendHead]; (repeat' split) <;> simp

@[simp] theorem State.transmit_frame (dt : Nat) (s : State) :
    (s.transmit dt).powered = s.powered
      ∧ (s.transmit dt).choices = s.choices
      ∧ (s.transmit dt).cfg = s.cfg
      ∧ (s.transmit dt).cfs = s.cfs
      ∧ (s.transmit dt).ptb = s.ptb
      ∧ (s.transmit dt).sau = s.sau
      ∧ (s.transmit dt).dsc = s.dsc
      ∧ (s.transmit dt).rm = s.rm
      ∧ (s.transmit dt).rsq = s.rsq
      ∧ (s.transmit dt).sck = s.sck
      ∧ (s.transmit dt).spe = s.spe
      ∧ (s.transmit dt).stc = s.stc
      ∧ (s.transmit dt).pending = s.pending := by
  simp only [State.transmit]; (repeat' split) <;> simp [State.elapseTo]

@[simp] theorem State.netSilent_frame (s : State) :
    s.netSilent.powered = s.powered
      ∧ s.netSilent.now = s.now
      ∧ s.netSilent.choices = s.choices
      ∧ s.netSilent.cfg = s.cfg
      ∧ s.netSilent.cfs = s.cfs
      ∧ s.netSilent.ptb = s.ptb
      ∧ s.netSilent.sck = s.sck
      ∧ s.netSilent.pending = s.pending := by
  simp only [State.netSilent]; (repeat' split) <;> simp

@[simp] theorem State.chainAndRoute_frame (s : State) :
    s.chainAndRoute.powered = s.powered
      ∧ s.chainAndRoute.now = s.now
      ∧ s.chainAndRoute.choices = s.choices
      ∧ s.chainAndRoute.cfg = s.cfg
      ∧ s.chainAndRoute.cfs = s.cfs
      ∧ s.chainAndRoute.pending = s.pending := by
  simp only [State.chainAndRoute]; (repeat' split) <;> simp

@[simp] theorem State.pulseWithLoss_frame (s : State) :
    s.pulseWithLoss.powered = s.powered
      ∧ s.pulseWithLoss.now = s.now
      ∧ s.pulseWithLoss.cfg = s.cfg
      ∧ s.pulseWithLoss.cfs = s.cfs
      ∧ s.pulseWithLoss.pending = s.pending := by
  simp only [State.pulseWithLoss]; (repeat' split) <;> simp

@[simp] theorem State.pulse_frame (s : State) :
    s.pulse.powered = s.powered
      ∧ s.pulse.now = s.now
      ∧ s.pulse.cfg = s.cfg
      ∧ s.pulse.cfs = s.cfs
      ∧ s.pulse.pending = s.pending := by
  simp only [State.pulse]; (repeat' split) <;> simp

@[simp] theorem State.markerHeard_frame (id : Nat) (s : State) :
    (s.markerHeard id).powered = s.powered
      ∧ (s.markerHeard id).now = s.now
      ∧ (s.markerHeard id).choices = s.choices
      ∧ (s.markerHeard id).cfg = s.cfg
      ∧ (s.markerHeard id).cfs = s.cfs
      ∧ (s.markerHeard id).pending = s.pending := by
  simp only [State.markerHeard]; (repeat' split) <;> simp

@[simp] theorem State.dwellOver_frame (s : State) :
    s.dwellOver.powered = s.powered
      ∧ s.dwellOver.now = s.now
      ∧ s.dwellOver.choices = s.choices
      ∧ s.dwellOver.cfg = s.cfg
      ∧ s.dwellOver.cfs = s.cfs
      ∧ s.dwellOver.pending = s.pending := by
  simp only [State.dwellOver]; (repeat' split) <;> simp

@[simp] theorem State.closeCount_frame (s : State) :
    s.closeCount.powered = s.powered
      ∧ s.closeCount.now = s.now
      ∧ s.closeCount.choices = s.choices
      ∧ s.closeCount.cfg = s.cfg
      ∧ s.closeCount.cfs = s.cfs
      ∧ s.closeCount.ni = s.ni
      ∧ s.closeCount.ptb = s.ptb
      ∧ s.closeCount.sau = s.sau
      ∧ s.closeCount.rsq = s.rsq
      ∧ s.closeCount.scu = s.scu
      ∧ s.closeCount.sck = s.sck
      ∧ s.closeCount.spe = s.spe
      ∧ s.closeCount.stc = s.stc
      ∧ s.closeCount.pending = s.pending := by
  simp only [State.closeCount]; (repeat' split) <;> simp

@[simp] theorem State.setCommand_frame (s : State) :
    s.setCommand.powered = s.powered
      ∧ s.setCommand.now = s.now
      ∧ s.setCommand.choices = s.choices
      ∧ s.setCommand.cfg = s.cfg
      ∧ s.setCommand.cfs = s.cfs
      ∧ s.setCommand.ni = s.ni
      ∧ s.setCommand.ptb = s.ptb
      ∧ s.setCommand.sau = s.sau
      ∧ s.setCommand.rm = s.rm
      ∧ s.setCommand.rsq = s.rsq
      ∧ s.setCommand.scu = s.scu
      ∧ s.setCommand.sck = s.sck
      ∧ s.setCommand.spe = s.spe
      ∧ s.setCommand.stc = s.stc
      ∧ s.setCommand.pending = s.pending := by
  simp only [State.setCommand]; (repeat' split) <;> simp

@[simp] theorem State.regain_frame (before : GuideState) (s : State) :
    (s.regain before).powered = s.powered
      ∧ (s.regain before).now = s.now
      ∧ (s.regain before).choices = s.choices
      ∧ (s.regain before).cfg = s.cfg
      ∧ (s.regain before).cfs = s.cfs
      ∧ (s.regain before).ptb = s.ptb
      ∧ (s.regain before).sau = s.sau
      ∧ (s.regain before).rm = s.rm
      ∧ (s.regain before).rsq = s.rsq
      ∧ (s.regain before).scu = s.scu
      ∧ (s.regain before).sck = s.sck
      ∧ (s.regain before).spe = s.spe
      ∧ (s.regain before).pending = s.pending := by
  simp only [State.regain]; (repeat' split) <;> simp

@[simp] theorem State.guideStep_frame (coils : Coils) (s : State) :
    (s.guideStep coils).powered = s.powered
      ∧ (s.guideStep coils).now = s.now
      ∧ (s.guideStep coils).choices = s.choices
      ∧ (s.guideStep coils).cfg = s.cfg
      ∧ (s.guideStep coils).cfs = s.cfs
      ∧ (s.guideStep coils).ptb = s.ptb
      ∧ (s.guideStep coils).sau = s.sau
      ∧ (s.guideStep coils).rm = s.rm
      ∧ (s.guideStep coils).rsq = s.rsq
      ∧ (s.guideStep coils).scu = s.scu
      ∧ (s.guideStep coils).sck = s.sck
      ∧ (s.guideStep coils).spe = s.spe
      ∧ (s.guideStep coils).pending = s.pending := by
  simp only [State.guideStep]; (repeat' split) <;> simp

@[simp] theorem State.restartPeriod_frame (s : State) :
    s.restartPeriod.powered = s.powered
      ∧ s.restartPeriod.now = s.now
      ∧ s.restartPeriod.choices = s.choices
      ∧ s.restartPeriod.cfg = s.cfg
      ∧ s.restartPeriod.cfs = s.cfs
      ∧ s.restartPeriod.ni = s.ni
      ∧ s.restartPeriod.ptb = s.ptb
      ∧ s.restartPeriod.sau = s.sau
      ∧ s.restartPeriod.rm = s.rm
      ∧ s.restartPeriod.rsq = s.rsq
      ∧ s.restartPeriod.scu = s.scu
      ∧ s.restartPeriod.sck = s.sck
      ∧ s.restartPeriod.spe = s.spe
      ∧ s.restartPeriod.stc = s.stc
      ∧ s.restartPeriod.pending = s.pending := by
  simp only [State.restartPeriod]; (repeat' split) <;> simp

@[simp] theorem State.controlPeriod_frame (coils : Coils) (s : State) :
    (s.controlPeriod coils).powered = s.powered
      ∧ (s.controlPeriod coils).now = s.now
      ∧ (s.controlPeriod coils).choices = s.choices
      ∧ (s.controlPeriod coils).cfg = s.cfg
      ∧ (s.controlPeriod coils).cfs = s.cfs
      ∧ (s.controlPeriod coils).pending = s.pending := by
  simp only [State.controlPeriod]; (repeat' split) <;> simp

@[simp] theorem State.sampled_frame (raw : List SeatInput) (s : State) :
    (s.sampled raw).powered = s.powered
      ∧ (s.sampled raw).now = s.now
      ∧ (s.sampled raw).choices = s.choices
      ∧ (s.sampled raw).cfg = s.cfg
      ∧ (s.sampled raw).cfs = s.cfs
      ∧ (s.sampled raw).ni = s.ni
      ∧ (s.sampled raw).ptb = s.ptb
      ∧ (s.sampled raw).sau = s.sau
      ∧ (s.sampled raw).dsc = s.dsc
      ∧ (s.sampled raw).rsq = s.rsq
      ∧ (s.sampled raw).scu = s.scu
      ∧ (s.sampled raw).sck = s.sck
      ∧ (s.sampled raw).spe = s.spe
      ∧ (s.sampled raw).stc = s.stc
      ∧ (s.sampled raw).pending = s.pending := by
  simp only [State.sampled]; (repeat' split) <;> simp

@[simp] theorem State.seatSample_frame (raw : List SeatInput) (s : State) :
    (s.seatSample raw).powered = s.powered
      ∧ (s.seatSample raw).now = s.now
      ∧ (s.seatSample raw).cfg = s.cfg
      ∧ (s.seatSample raw).pending = s.pending := by
  simp only [State.seatSample]; (repeat' split) <;> simp

@[simp] theorem State.pendingDue_frame (s : State) :
    s.pendingDue.powered = s.powered
      ∧ s.pendingDue.now = s.now
      ∧ s.pendingDue.choices = s.choices
      ∧ s.pendingDue.cfg = s.cfg
      ∧ s.pendingDue.cfs = s.cfs
      ∧ s.pendingDue.ptb = s.ptb
      ∧ s.pendingDue.sau = s.sau
      ∧ s.pendingDue.dsc = s.dsc
      ∧ s.pendingDue.rm = s.rm
      ∧ s.pendingDue.rsq = s.rsq
      ∧ s.pendingDue.sck = s.sck
      ∧ s.pendingDue.spe = s.spe
      ∧ s.pendingDue.stc = s.stc
      ∧ s.pendingDue.pending = s.pending := by
  simp only [State.pendingDue]; (repeat' split) <;> simp

@[simp] theorem State.lateOver_frame (ref : Nat) (s : State) :
    (s.lateOver ref).powered = s.powered
      ∧ (s.lateOver ref).now = s.now
      ∧ (s.lateOver ref).choices = s.choices
      ∧ (s.lateOver ref).cfg = s.cfg
      ∧ (s.lateOver ref).cfs = s.cfs
      ∧ (s.lateOver ref).ptb = s.ptb
      ∧ (s.lateOver ref).sau = s.sau
      ∧ (s.lateOver ref).dsc = s.dsc
      ∧ (s.lateOver ref).rm = s.rm
      ∧ (s.lateOver ref).rsq = s.rsq
      ∧ (s.lateOver ref).sck = s.sck
      ∧ (s.lateOver ref).spe = s.spe
      ∧ (s.lateOver ref).stc = s.stc
      ∧ (s.lateOver ref).pending = s.pending := by
  simp only [State.lateOver]; (repeat' split) <;> simp

@[simp] theorem State.soundPeriod_frame (s : State) :
    s.soundPeriod.powered = s.powered
      ∧ s.soundPeriod.now = s.now
      ∧ s.soundPeriod.choices = s.choices
      ∧ s.soundPeriod.cfg = s.cfg
      ∧ s.soundPeriod.cfs = s.cfs
      ∧ s.soundPeriod.ni = s.ni
      ∧ s.soundPeriod.ptb = s.ptb
      ∧ s.soundPeriod.sau = s.sau
      ∧ s.soundPeriod.dsc = s.dsc
      ∧ s.soundPeriod.rm = s.rm
      ∧ s.soundPeriod.rsq = s.rsq
      ∧ s.soundPeriod.scu = s.scu
      ∧ s.soundPeriod.sck = s.sck
      ∧ s.soundPeriod.stc = s.stc
      ∧ s.soundPeriod.pending = s.pending := by
  simp only [State.soundPeriod]; (repeat' split) <;> simp

end Sys2Proof.Machine
end

