-- ==== Sys2Proof/Laws/Reception.lean ====
section
/-! SUPPORT. The usual reception of a frame: what the NI and the PTB do before and beside the block that acts on it. -/

namespace Sys2Proof.Machine

/-- The state in which a received frame meets the blocks: time has passed, the carrier is idle and the net-silence
timer is restarted. -/
def State.netted (dt : Nat) (s : State) : State :=
  { s with
    now := s.now + dt
    ni := { s.ni.carrierIdle (s.now + dt) with
      silence := some ((s.now + dt) / 1000 + s.cfg.opt.netSilence) } }

/-- A part that acts has its supply. -/
theorem State.powered_of_active {s : State} (h : s.active = true) : s.powered = true := by
  simp [State.active] at h; exact h.1.1.1

/-- The usual reception: the frame is delivered in the netted state, and the RSQ acts on a change of the slots. -/
theorem State.receive_of_receives (dt) (s : State) (f : Frame) (h : s.Receives f) :
    (s.elapse dt).receive f = (State.deliver f.src f.body (s.netted dt)).afterSlots s.scu := by
  obtain ⟨ha, hv, hsig, hk, hf, hn⟩ := h
  have hp := State.powered_of_active ha
  have hpk : s.parked = false := by
    simp [State.active] at ha; simp [State.parked]; intro _ _; exact ha.1.2
  simp only [State.receive, State.carrierFalls, State.elapse_frame]
  simp only [State.setNow_powered, hp, if_true, State.examine]
  have e1 : ((s.setNow (s.now + dt)).setNi ((s.setNow (s.now + dt)).ni.carrierIdle (s.setNow (s.now+dt)).now)).parked = false := by
    exact hpk
  have e2 : ((s.setNow (s.now + dt)).setNi ((s.setNow (s.now + dt)).ni.carrierIdle (s.setNow (s.now+dt)).now)).active = true := by
    exact ha
  have e3 : ((s.setNow (s.now + dt)).setNi ((s.setNow (s.now + dt)).ni.carrierIdle (s.setNow (s.now+dt)).now)).frameValid f = true := by
    exact hv
  rw [e1, e2, e3]
  simp only [Bool.false_eq_true, if_false, Bool.and_self, if_true, State.handleFrame]
  have e4 : State.netHeard ((s.setNow (s.now + dt)).setNi ((s.setNow (s.now + dt)).ni.carrierIdle (s.setNow (s.now+dt)).now)) = s.netted dt := by
    simp [State.netHeard, State.withdraw, hn]
    rfl
  rw [e4]
  simp [netted, hsig]

theorem State.netted_active (dt) (s : State) : (s.netted dt).active = s.active := rfl

/-- Refreshing a record that is not FOREIGN leaves the FOREIGN records as they are. -/
theorem refreshed_any_foreign (t : List Peer) (src m) (h : ∀ p ∈ t, p.station = src → p.foreign = false) :
   (refreshed src m t).any Peer.foreignVehicle = t.any Peer.foreignVehicle := by
  induction t with
  | nil => rfl
  | cons p t ih =>
    simp only [refreshed, List.map_cons, List.any_cons] at *
    rw [ih (fun q hq => h q (List.mem_cons_of_mem _ hq))]
    congr 1
    have := h p (List.mem_cons_self ..)
    split
    · next e => simp [Peer.foreignVehicle, this e, Peer.isVehicle]
    · rfl

/-- A hearing of a known station that is not FOREIGN refreshes its record and does nothing else (R50). -/
theorem State.hear_of_known (s : State) (src) (ha : s.active = true) (hk : ∃ p ∈ s.ptb, p.station = src)
   (hf : ∀ p ∈ s.ptb, p.station = src → p.foreign = false) :
   s.hear src = { s with ptb := refreshed src s.ms s.ptb } := by
  simp only [State.hear, ha, if_true, State.hearOwn]
  have : (s.peer src).isSome := by
    obtain ⟨p, hp, e⟩ := hk
    simp only [State.peer, List.find?_isSome]; exact ⟨p, hp, by simpa using e⟩
  simp only [this, if_true, State.foreignAfter]
  have hs : (State.mapPeer src (fun p => { p with lastHeard := s.ms, stale := false, foreign := false }) s).foreignSeen = s.foreignSeen := by
    have := refreshed_any_foreign s.ptb src s.ms hf
    simpa [State.foreignSeen, State.mapPeer, refreshed] using this
  rw [hs]
  cases hh : s.foreignSeen <;> simp [State.mapPeer, State.setPtb, refreshed]

/-- With the slots as they were the RSQ has nothing to act on. -/
theorem State.afterSlots_of_same (s : State) (u : Scu) (h1 : u.slot1.state = s.scu.slot1.state) (h2 : u.slot2.state = s.scu.slot2.state) :
   s.afterSlots u = s := by simp [State.afterSlots, h1, h2]

/-- The hearing of the usual reception. -/
theorem State.hear_netted (dt) (s : State) (f) (h : s.Receives f) : (s.netted dt).hear f.src = s.heard dt f.src := by
  rw [State.hear_of_known (s.netted dt) f.src h.1 h.2.2.2.1 h.2.2.2.2.1]
  rfl

/-- Every frame command is the reception of its frame. -/
theorem exec_frameCommand (dt f s) : exec (frameCommand dt f) s = .next ((s.elapse dt).receive f) := by
  obtain ⟨src, sig, b⟩ := f
  cases b with
  | grant t k => cases k <;> rfl
  | _ => rfl

/-- The hearing and a block that acts beside it, in either order, where both orders lead to one state. -/
theorem State.hear_in_either_order (dt) (f : Frame) (s : State) (h : s.Receives f) (g : State → State) (t : State)
   (h1 : g ((s.heard dt f.src).setChoices (s.choices+1)) = t)
   (h2 : (g ((s.netted dt).setChoices (s.choices+1))).hear f.src = t) :
   (s.netted dt).inEitherOrder (State.hear f.src) g = t := by
  apply State.inEitherOrder_of (P := fun x => x = t)
  · have : State.hear f.src (s.netted dt).settled = (s.heard dt f.src).setChoices (s.choices+1) := by
      exact State.hear_of_known ((s.netted dt).settled) f.src h.1 h.2.2.2.1 h.2.2.2.2.1
    rw [this]; exact h1
  · exact h2

/-- The hearing of the usual reception after an order has been settled. -/
theorem State.hear_netted_settled (dt) (f : Frame) (s : State) (h : s.Receives f) : ((s.netted dt).setChoices (s.choices+1)).hear f.src = (s.heard dt f.src).setChoices (s.choices+1) := by
  exact State.hear_of_known ((s.netted dt).setChoices (s.choices+1)) f.src h.1 h.2.2.2.1 h.2.2.2.2.1

/-- A GRANT that its block ignores is a hearing alone. -/
theorem State.receive_grant_ignored (dt) (h : Header) (k : GrantKind) (s : State) (hr : s.Receives ⟨h.src, h.sig, .grant s.cfg.opt.station k⟩)
   (hg : State.grant h.src k ((s.netted dt).setChoices (s.choices+1)) = (s.netted dt).setChoices (s.choices+1))
   (hg' : State.grant h.src k ((s.heard dt h.src).setChoices (s.choices+1)) = (s.heard dt h.src).setChoices (s.choices+1)) :
   (s.elapse dt).receive ⟨h.src, h.sig, .grant s.cfg.opt.station k⟩ = { s.heard dt h.src with choices := s.choices + 1 } := by
  rw [State.receive_of_receives _ _ _ hr]
  simp only [State.deliver, State.deliverGrant]
  have : (s.netted dt).cfg.opt.station = s.cfg.opt.station := rfl
  rw [this, if_pos rfl]
  have hx := State.hear_in_either_order dt _ s hr (State.grant h.src k) ((s.heard dt h.src).setChoices (s.choices+1)) hg' (by rw [hg]; exact State.hear_netted_settled dt _ s hr)
  rw [hx, State.afterSlots_of_same]
  · rfl
  · rfl
  · rfl

theorem State.heard_entry (dt src) (s : State) : ((s.heard dt src).setChoices (s.choices+1)).entry = s.entry := rfl
theorem State.netted_entry (dt) (s : State) : ((s.netted dt).setChoices (s.choices+1)).entry = s.entry := rfl

end Sys2Proof.Machine
end

