-- ==== Sys2Proof/Tests/Slice0.lean ====
section
/-! SUPPORT. Tests: the well-formedness smoke test, values taken from the manual's worked sequences, and for each
statement a state and operands that meet its hypotheses. -/

set_option Elab.async false

namespace Sys2Proof.Tests
open Sys2Proof Sys2Proof.Machine

/-! ### A small configuration and a state -/

/-- The option block of the manual's worked sequences (chapters 4, 5, 6, 8 and 9). -/
def opts : Options :=
  { station := 7, vehicleClass := 1, signature := 500, routeLength := 420000, vehicleLength := 3200, margin := 1000
    serviceDecel := 800, accelLimit := 600, reaction := 250, vmax := 1200, lookAhead := 12000, horizon := 20000
    posPeriod := 50, staleTime := 250, dropTime := 3000, netSilence := 1000, claimWindow := 300, cueTimeout := 200
    lateWindow := 1000, seatCount := 2, debounce := 20, confirmTime := 300, contraTime := 100, odometer := 2500
    guideSpan := 150, guideFloor := 200, guideLoss := 1500, steerMax := 1800, steerRate := 20, syncLatency := 800
    lockWindow := 50, stepThreshold := 500, clockMode := .holdover, soundLate := 250, duckLevel := 128
    restraintClip := 1, stopClip := 2 }

/-- An entry that does nothing but drive. -/
def plain (start length cap : Nat) : RouteEntry :=
  { RouteEntry.smallest with start := start, length := length, cap := cap }

/-- The entries 40 to 43 of the sequence "one computation in full", then a platform, an entry that class 1 skips and
one whose hold is a dwell. -/
def route : List RouteEntry :=
  [{ plain 414000 4750 1000 with
      feedforward := -220, channel := some 2, gain := 40, lossMode := .center },
    plain 418750 2000 300, plain 750 6000 900, { plain 6750 3000 600 with hold := .scene 14 },
    { plain 9750 4250 600 with hold := .dispatch, platform := some 49, marker := 212, window := 150 },
    { plain 14000 3000 600 with skip := 2 }, { plain 14000 3000 600 with hold := .dwell 2000, effects := 5 }]

def words : List CueWord :=
  [⟨14, 1, .afterTime 5, false, false, some ⟨3, 2, 200⟩⟩, ⟨14, 2, .onDone, false, true, none⟩]

def cfg : Configuration :=
  { opt := opts, route := route, words := words
    clips := [⟨5000, 4000, 0, 256⟩, ⟨20000, 300, 0, 256⟩, ⟨60000, 96000, 0, 256⟩]
    fades := List.replicate 4 ⟨List.replicate 16 128, 10⟩
    sceneMap := List.replicate 13 0 ++ [52] ++ List.replicate 49 0 }

/-- A record of a station heard at 900 ms. -/
def heardPeer (station : Nat) : Peer := ⟨station, false, 900, false, false, false, false, none, none⟩

def vehicleAt (ordinate : Nat) : VehicleData := ⟨some ordinate, 0, 2, 0, .held, .secure, 0, [], none⟩

def lockedSeat : Seat := ⟨.locked, true, true, some true, some true, 100, 100, none, none⟩

/-- The vehicle stands HELD in entry 0 at 3,600 mm, SECURE, at 1 s of its own time. -/
def base : State :=
  { State.reset with
    now := 1000000
    cfg := cfg
    cfs := { Cfs.start with load := .ready }
    ni := { Ni.start with gen := 7, posTimer := some 1050, silence := some 2000 }
    ptb := [{ heardPeer 9 with data := some (vehicleAt 2400) }, heardPeer 4, heardPeer 12, heardPeer 49, heardPeer 52,
      heardPeer 60]
    dsc := { Dsc.start with
      motion := .held, timer := some 1010, channel := some 2, gain := 40, lossMode := .center, steering := -100 }
    rm := ⟨.secure, false, [lockedSeat, lockedSeat] ++ List.replicate 6 (Seat.start .notFitted), some 1005⟩
    rsq := { Rsq.start with known := true, distance := 3600000 }
    sck := Sck.begins 0 }

/-- The state a command leads to. -/
def after (c : Instr) (s : State) : State :=
  match exec c s with
  | .next t => t
  | .refused _ => s

/-- The header of a frame of the own signature. -/
def own (src : Nat) : Header := ⟨src, 500⟩

/-! ### Well-formedness refuses each ill-formed operand -/

def quietPos : PosBody := ⟨some 3, 0, 0, 0, .running, .secure, 0, [], none, .free⟩

theorem test_wf_pos : (Instr.posFrame 0 (own 4) quietPos).wf = true
    ∧ (Instr.posFrame 0 (own 4) { quietPos with ordinate := some 16777216 }).wf = false
    ∧ (Instr.posFrame 0 (own 4) { quietPos with lane := 4 }).wf = false
    ∧ (Instr.posFrame 0 (own 4) { quietPos with entry := 256 }).wf = false
    ∧ (Instr.posFrame 0 (own 4) { quietPos with speed := 65536 }).wf = false
    ∧ (Instr.posFrame 0 (own 4) { quietPos with motion := .parked }).wf = false
    ∧ (Instr.posFrame 0 (own 4) { quietPos with motion := .configFault }).wf = false
    ∧ (Instr.posFrame 0 (own 4) { quietPos with level := 3 }).wf = false
    ∧ (Instr.posFrame 0 (own 4) { quietPos with held := [1, 2, 3] }).wf = false
    ∧ (Instr.posFrame 0 (own 4) { quietPos with held := [5, 5] }).wf = false
    ∧ (Instr.posFrame 0 (own 4) { quietPos with held := [64] }).wf = false
    ∧ (Instr.posFrame 0 (own 4) { quietPos with claiming := some 0 }).wf = false
    ∧ (Instr.posFrame 0 (own 48) quietPos).wf = false := by decide +kernel

theorem test_wf_header : (Instr.stopFrame 0 (own 4) 1 15).wf = true
    ∧ (Instr.stopFrame 0 ⟨0, 500⟩ 1 15).wf = false ∧ (Instr.stopFrame 0 ⟨64, 500⟩ 1 15).wf = false
    ∧ (Instr.stopFrame 0 ⟨4, 0⟩ 1 15).wf = false ∧ (Instr.stopFrame 0 ⟨4, 65536⟩ 1 15).wf = false := by decide

theorem test_wf_stop : (Instr.stopFrame 0 (own 4) 0 1).wf = false ∧ (Instr.stopFrame 0 (own 4) 3 1).wf = false
    ∧ (Instr.stopFrame 0 (own 4) 2 16).wf = false := by decide

theorem test_wf_resume : (Instr.resumeFrame 0 (own 48)).wf = true ∧ (Instr.resumeFrame 0 (own 47)).wf = false := by
  decide

theorem test_wf_scenes : (Instr.claimFrame 0 (own 4) 63).wf = true ∧ (Instr.claimFrame 0 (own 4) 0).wf = false
    ∧ (Instr.claimFrame 0 (own 48) 1).wf = false ∧ (Instr.freeFrame 0 (own 4) 64).wf = false
    ∧ (Instr.freeFrame 0 (own 63) 1).wf = false := by decide

theorem test_wf_cue : (Instr.cueFrame 0 (own 4) ⟨1, 255, 65535, 4294967295⟩).wf = true
    ∧ (Instr.cueFrame 0 (own 4) ⟨0, 1, 1, 1⟩).wf = false ∧ (Instr.cueFrame 0 (own 4) ⟨1, 256, 1, 1⟩).wf = false
    ∧ (Instr.cueFrame 0 (own 4) ⟨1, 1, 65536, 1⟩).wf = false
    ∧ (Instr.cueFrame 0 (own 4) ⟨1, 1, 1, 4294967296⟩).wf = false
    ∧ (Instr.cueFrame 0 (own 52) ⟨1, 1, 1, 1⟩).wf = false := by decide

theorem test_wf_cuest : (Instr.cuestFrame 0 (own 52) ⟨1, 1, .done, none⟩).wf = true
    ∧ (Instr.cuestFrame 0 (own 52) ⟨64, 1, .done, none⟩).wf = false
    ∧ (Instr.cuestFrame 0 (own 52) ⟨1, 256, .done, none⟩).wf = false
    ∧ (Instr.cuestFrame 0 (own 52) ⟨1, 1, .done, some 4294967296⟩).wf = false
    ∧ (Instr.cuestFrame 0 (own 4) ⟨1, 1, .done, none⟩).wf = false := by decide

theorem test_wf_sync : (Instr.syncFrame 0 (own 50) 4294967295 63).wf = true
    ∧ (Instr.syncFrame 0 (own 50) 4294967296 0).wf = false ∧ (Instr.syncFrame 0 (own 50) 0 64).wf = false
    ∧ (Instr.syncFrame 0 (own 7) 0 0).wf = false := by decide

theorem test_wf_grants : (Instr.grantUnlock 0 (own 49) 64).wf = false ∧ (Instr.grantLock 0 (own 49) 0).wf = false
    ∧ (Instr.grantDispatch 0 (own 12) 7).wf = false ∧ (Instr.grantPark 0 (own 49) 64).wf = false
    ∧ (Instr.grantWake 0 (own 49) 0).wf = false ∧ (Instr.grantWake 0 (own 60) 7).wf = true := by decide

theorem test_wf_fix_and_clear : (Instr.fixFrame 0 (own 60) 7 255 65535).wf = true
    ∧ (Instr.fixFrame 0 (own 60) 0 1 1).wf = false ∧ (Instr.fixFrame 0 (own 60) 7 256 1).wf = false
    ∧ (Instr.fixFrame 0 (own 60) 7 1 65536).wf = false ∧ (Instr.clearFrame 0 (own 60) 64).wf = false
    ∧ (Instr.clearFrame 0 (own 4) 5).wf = false := by decide

theorem test_wf_stations : (Instr.staleTime 0 63).wf = true ∧ (Instr.staleTime 0 0).wf = false
    ∧ (Instr.dropTime 0 64).wf = false := by decide

theorem test_wf_inputs : (Instr.markerRead 0 4095).wf = true ∧ (Instr.markerRead 0 0).wf = false
    ∧ (Instr.markerRead 0 4096).wf = false
    ∧ (Instr.controlPeriodExpiry 0 ⟨⟨0, 0⟩, ⟨0, 0⟩, ⟨4096, 0⟩, ⟨0, 0⟩⟩).wf = false
    ∧ (Instr.controlPeriodExpiry 0 ⟨⟨0, 0⟩, ⟨0, 4096⟩, ⟨0, 0⟩, ⟨0, 0⟩⟩).wf = false
    ∧ (Instr.sampleTimerExpiry 0 (List.replicate 7 ⟨true, true⟩)).wf = false := by decide

theorem test_wf_timers : (Instr.confirmTimerExpiry 0 8).wf = true ∧ (Instr.confirmTimerExpiry 0 0).wf = false
    ∧ (Instr.contradictionTimerExpiry 0 9).wf = false ∧ (Instr.cueTimeout 0 65536).wf = false
    ∧ (Instr.lateWindowExpiry 0 65536).wf = false := by decide

theorem test_wf_samples : (Instr.transferCompletion 0 [-32768, 32767]).wf = true
    ∧ (Instr.transferCompletion 0 [32768]).wf = false ∧ (Instr.transferCompletion 0 [-32769]).wf = false
    ∧ (Instr.transferCompletion 0 (List.replicate 129 0)).wf = false := by decide +kernel

theorem test_wf_unknown_command : (Instr.unknownCommand 0 "STATUS").wf = false
    ∧ (Instr.unknownCommand 0 "STATES").wf = true := by decide +kernel

/-! ### Forms from outside -/

/-- A STOP frame of station 4, signature 500, level 2, code 1, byte by byte from Tables 2-4 and 2-5 with its CRC. -/
theorem test_stop_frame_bytes : (encodeFrame ⟨4, 500, .stop 2 1⟩).take 7
    = [2#8, 4#8, 1#8, 244#8, 2#8, 2#8, 1#8] := by decide +kernel

/-- The CRC of R43 is the one with the well known check value 29B1H over the digits 1 to 9. -/
theorem test_crc16 : crc16 [49#8, 50#8, 51#8, 52#8, 53#8, 54#8, 55#8, 56#8, 57#8] = 10673#16 := by decide +kernel

/-- The CRC-32 of R195 over the same digits: FC891918H. -/
theorem test_crc32 : crc32 [49#8, 50#8, 51#8, 52#8, 53#8, 54#8, 55#8, 56#8, 57#8] = 4236843288#32 := by decide +kernel

theorem test_lines : parseLine "TEST-CLIP 12" = some (.testClip 12) ∧ parseLine "TEST-CLIP " = none
    ∧ parseLine "TEST-CLIP 1x" = none ∧ parseLine "SERVICE-STOP ON" = some .stopOn ∧ parseLine "" = none := by
  decide +kernel

/-! ### Values from the manual's worked sequences -/

/-- Distance ahead (section 5.2 of the scope chapter): from 417,600 to 2,400 on 420,000 is 4,800. -/
theorem test_distance_ahead : distanceAhead 420000 417600 2400 = 4800 := by decide +kernel

/-- The ordinate of R23's example: start 418,500, distance 2,400 mm, reports 900. -/
theorem test_ordinate : ({ base with
    cfg := { cfg with route := [plain 418500 4750 1000] }, rsq := { base.rsq with distance := 2400000 } } :
    State).ordinate = some 900 := by decide +kernel

/-- "One computation in full": the targets' curve speeds, and the authority 800 from the peer. -/
theorem test_one_computation :
    base.computedSau.targets.map Target.curve = [1203, 2226, 3678, 4213]
      ∧ base.computedSau.authority = 800 ∧ base.computedSau.source = .peer
      ∧ base.computedSau.ahead = some ⟨9, 4800, 600, 800, false⟩ := by decide +kernel

/-- The same with vehicle 9 at 2,000: authority 400. -/
theorem test_closer_vehicle : ({ base with
    ptb := [{ heardPeer 9 with data := some (vehicleAt 2000) }] } : State).computedSau.authority = 400 := by
  decide +kernel

/-- "A level 1 stop": the latch rise at command 450 under an authority of 600, then the first period: 442. -/
theorem test_profile : let s := { base with
      sau := { base.sau with authority := 600, source := .peer }, dsc := { base.dsc with command := 450 } }
    (s.authorityRise 0 1).sau.authority = 450 ∧ (s.authorityRise 0 1).sau.source = .profile
      ∧ ({ s.authorityRise 0 1 with stc := { s.stc with latch := 1 } } : State).computedSau.authority = 442 := by
  decide +kernel

/-- "Steering over the wire", expiry 1: offset 30, target −145, command −120. -/
theorem test_steering_over_the_wire : let c : Coil := ⟨1800, 1200⟩
    let d := ({ base.dsc with feedforward := -220 } : Dsc).sense opts ⟨c, c, c, c⟩
    d.offset = some 30 ∧ d.steeringTarget = some (-145) ∧ (d.steer opts).steering = -120 := by decide +kernel

/-- "Steering over the wire", expiry 4: offset −30, from −145 to −165. -/
theorem test_steering_truncates : let c : Coil := ⟨1200, 1810⟩
    let d := ({ base.dsc with feedforward := -220, steering := -145 } : Dsc).sense opts ⟨c, c, c, c⟩
    d.offset = some (-30) ∧ d.steeringTarget = some (-295) ∧ (d.steer opts).steering = -165 := by decide +kernel

/-- "Dispatch, a level 2 stop and recovery", expiry 1: RUNNING with the first ramp step, the brake released. -/
theorem test_move_off : let c : Coil := ⟨1800, 1200⟩
    let t := after (.controlPeriodExpiry 0 ⟨c, c, c, c⟩) base
    t.dsc.motion = .running ∧ t.dsc.command = 6 ∧ t.dsc.brakeReleased = true ∧ t.sau.authority = 800 := by
  decide +kernel

/-- Twelve pulses of 2,500 µm in four periods are 750 mm/s. -/
theorem test_measured_speed : measuredSpeed 2500 [3, 3, 3, 3] = 750 := by decide

/-- "A guide loss": pulse 601 carries the counter to 1,502,500 µm and raises GUIDE. -/
theorem test_guide_loss : let d := { base.dsc with guide := .offWire, loss := 1500000 }
    (d.countLoss opts).loss = 1502500 ∧ d.lossReached opts = true
      ∧ ({ d with loss := 1497500 } : Dsc).lossReached opts = false := by decide +kernel

/-- "Acquisition after a start": the first SYNC's error and step. -/
theorem test_first_sync : let s := { base with now := 120000, sck := { Sck.begins 0 with reference := some 50, awaited := true } }
    (s.applySync 3600000000 0).sck.lastError = some (-695086496)
      ∧ (s.applySync 3600000000 0).showTime = 3600000800 := by decide +kernel

/-- SYNC 5 of the table: error −61 outside the window, slew −30, trim 1,125 to −400, count to 0. -/
theorem test_slewed_sync : let k := ((({ Sck.begins 0 with state := .acquire, trim := 1125, inCount := 3 } : Sck).slew 0
      (-61)).count 50 (-61))
    k.trim = -400 ∧ k.inCount = 0 ∧ k.base = 4294967266 := by decide +kernel

/-- SYNC 13 locks; SYNC 16 in LOCKED, the third outside the window, changes the trim by −325 and returns to ACQUIRE. -/
theorem test_lock_and_unlock :
    ((({ Sck.begins 0 with state := .acquire, trim := 350, inCount := 7 } : Sck).slew 0 (-4)).count 50 (-4)).state = .locked
      ∧ ((({ Sck.begins 0 with state := .locked, trim := 1030, outCount := 2 } : Sck).slew 0 (-52)).count 50 (-52)).trim
        = 705
      ∧ ((({ Sck.begins 0 with state := .locked, trim := 1030, outCount := 2 } : Sck).slew 0 (-52)).count 50 (-52)).state
        = .acquire := by decide +kernel

/-- A voice that sounds the sample `x`. -/
def sounding (clip gain fade : Nat) (mask : Mask) (f : Option Fade) (x : Int) : Voice :=
  { Voice.start with
    state := .playing, current := some ⟨clip, none, gain, 0, fade, mask, .route⟩, fade := f, buffer := [x, 0]
    primed := true }

/-- "Three output samples": 2,000 in front and 1,413 in the rear. -/
theorem test_mix : let c := { cfg with fades := List.replicate 4 ⟨[16, 32, 48, 64, 80], 10⟩ }
    let e : Spe := { Spe.start with
      v0 := sounding 2 256 0 .both none (-8000), v1 := sounding 3 256 0 .both none 20000
      v2 := sounding 3 200 1 .rear (some ⟨false, 3, 0⟩) (-3001) }
    (e.samplePeriod c 0).front = 2000 ∧ (e.samplePeriod c 0).rear = 1413 := by decide +kernel

/-- The later sample of that example: 52,656 is clamped to 32,767. -/
theorem test_mix_clamps : let e : Spe := { Spe.start with
      v1 := sounding 3 256 0 .both none 30000, v2 := sounding 3 200 1 .rear none 29000 }
    (e.samplePeriod cfg 0).rear = 32767 ∧ (e.samplePeriod cfg 0).front = 30000 := by decide +kernel

/-- A single −3 at g = 200, f = 128 and d = 128 gives −2. -/
theorem test_mix_floors : mixSample (-3 * 200 * 128 * 128) = -2 := by decide

/-! ### Single steps -/

/-- "Arrival at a dispatch platform": the marker read in time ends the entry with its hold pending (R7). -/
theorem test_marker_at_the_platform : let s := { base with rsq := { base.rsq with entry := 4, distance := 4170000 } }
    (after (.markerRead 0 212) s).rsq = { s.rsq with distance := 4250000, atEnd := true } := by decide +kernel

/-- An entry without a hold is left with the excess carried (R6, R13). -/
theorem test_pulse_carries : let s := { base with rsq := { base.rsq with distance := 4749000 } }
    (after (.odometerPulse 0) s).rsq.entry = 1 ∧ (after (.odometerPulse 0) s).rsq.distance = 1500 := by decide +kernel

/-- Class 1 passes over the entry its skip mask names (R3). -/
theorem test_successor_skips : cfg.successor 4 = 6 ∧ cfg.successor 6 = 0 := by decide +kernel

/-- The dwell timer's expiry releases the hold (R19). -/
theorem test_dwell : let s := { base with rsq := { base.rsq with entry := 6, dwell := some 3000 } }
    (after (.dwellTimerExpiry 0) s).rsq.released = true ∧ (after (.dwellTimerExpiry 0) s).now = 3000000 := by
  decide +kernel

/-- The POS period: the request joins the queue as class P and the timer restarts at 1,050 + 50 ms (R40). -/
theorem test_pos_period : let t := after (.posPeriodTimerExpiry 0) base
    t.ni.queue = [.pos false] ∧ t.ni.posTimer = some 1100 := by decide +kernel

/-- The gap of class C for station 7: 300 + 7 × 25 = 475 µs (R34). -/
theorem test_gap : gapOf 7 3 (.claim 14) = 475 ∧ gapOf 7 3 (.stop 1 1) = 100 ∧ gapOf 7 3 (.pos false) = 875 := by
  decide

/-- The sixth place of the queue taken, a class C frame displaces the newest POS of class P (R37). -/
theorem test_full_queue : joinQueue (.claim 14) [.stop 1 1, .claim 1, .claim 2, .claim 3, .claim 4, .pos false]
    = ([.stop 1 1, .claim 1, .claim 2, .claim 3, .claim 4, .claim 14], some (.pos false)) := by decide

/-- The stale time passes: station 9 keeps its data (R55). -/
theorem test_stale : ((after (.staleTime 0 9) base).ptb.map Peer.stale) = [true, false, false, false, false, false] := by
  decide +kernel

/-- The drop time passes: the record of station 12 leaves the table (R56). -/
theorem test_drop : ((after (.dropTime 0 12) base).ptb.map Peer.station) = [9, 4, 49, 52, 60] := by decide +kernel

/-- The claim window of the first claiming slot expires unopposed (R127). -/
theorem test_claim_window : let s := { base with
      scu := { base.scu with slot1 := ⟨some 14, .claiming, some 1300, none, some .first⟩ } }
    (after (.claimWindowExpiry 0 .one) s).scu.slot1 = ⟨some 14, .held, none, none, some .first⟩ := by decide +kernel

/-- The confirm time has passed: the seat locks and the checked vehicle is SECURE (R108, R112). -/
theorem test_confirm : let s := { base with rm := { base.rm with
      vehicle := .checking, seats := base.rm.seats.set 1 { lockedSeat with state := .closing, confirm := some 1300 } } }
    (after (.confirmTimerExpiry 0 2) s).rm.vehicle = .secure := by decide +kernel

/-- A contradiction takes the seat to FAULT (R107). -/
theorem test_contradiction : let s := { base with rm := { base.rm with
      seats := base.rm.seats.set 0 { lockedSeat with state := .opened, bd := false, contra := some 1100 } } }
    ((after (.contradictionTimerExpiry 0 1) s).rm.seats.map Seat.state).take 2 = [.fault, .locked] := by decide +kernel

/-- A sample equal to the last adds 5 ms to its run time, up to 100 (R106). -/
theorem test_sample : ((after (.sampleTimerExpiry 0 (List.replicate 8 ⟨true, true⟩)) base).rm.seats.map Seat.runLk).take 3
    = [100, 100, 0] := by decide +kernel

/-- The reset input records PIN and keeps the incidents; a power-on empties them (R191, R197). -/
theorem test_starts : (after (.resetInput 0) base).cfs.startCause = .pin
    ∧ (after (.powerOn 0) base).cfs.startCause = .power := by decide +kernel

/-- READ-CLOCK begins with the reading: at 1 s with the base 0 the clock shows 1,000,000 (R146, R160). -/
theorem test_read_clock : (match (after (.readClock 0) base).cfs.reply with
    | some (.data (x :: _)) => some x
    | _ => none) = some (.num 1000000) := by decide +kernel

/-- A TEST-CLIP beyond the directory is refused with RANGE (R203). -/
theorem test_test_clip : (after (.testClip 0 4) base).cfs.reply = some (.refused .range) := by decide +kernel

/-! ### An image -/

def bytesOf (l : List Nat) : List Byte := l.map (BitVec.ofNat 8)

def tinyOptions (station : Nat) : List Nat :=
  [station, 1, 1, 244, 0, 39, 16, 12, 128, 3, 232, 3, 32, 2, 88, 0, 250, 4, 176, 46, 224, 78, 32]
    ++ List.replicate 20 0 ++ [2] ++ List.replicate 8 0
    ++ [9, 196, 0, 150, 0, 200, 5, 220, 7, 8, 20, 3, 32] ++ List.replicate 8 0 ++ [250, 0, 128, 1, 1, 0]

/-- An image of 276 bytes after R192 and R193: one entry of 10,000 mm that is the whole loop, or of `length` mm. -/
def tinyImage (crc : List Nat) (station : Nat) (length : List Nat) : List Byte :=
  bytesOf ([1, 0, 0, 1, 20] ++ crc ++ tinyOptions station ++ [0, 1, 0, 0, 0] ++ length ++ [0, 2, 88, 0, 0, 4]
    ++ List.replicate 27 0 ++ [1, 0, 0, 19, 136, 0, 15, 160, 0, 0, 0, 1, 0]
    ++ (List.replicate 4 (List.replicate 16 128 ++ [0, 10])).flatten
    ++ List.replicate 19 0 ++ [52] ++ List.replicate 43 0)

def goodImage : List Byte := tinyImage [87, 198, 5, 221] 7 [39, 16]

/-- What a load ends with, as its code and item, or the route length. -/
def loaded (memory : List Byte) : (FaultCode × FaultItem) ⊕ Nat :=
  match loadImage memory with
  | .ok c => .inr c.opt.routeLength
  | .error e => .inl e

set_option maxRecDepth 100000 in
theorem test_good_image : loaded goodImage = .inr 10000 := by decide +kernel

set_option maxRecDepth 100000 in
/-- A length that does not meet the successor's start is CHAIN at entry 0 (R195). -/
theorem test_chain_fault : loaded (tinyImage [78, 188, 89, 82] 7 [35, 40]) = .inl (.chain, ⟨.route, some 0⟩) := by
  decide +kernel

/-- A fixed station's number in the option block is RANGE (R195). -/
theorem test_range_fault : loaded (tinyImage [219, 254, 0, 21] 48 [39, 16]) = .inl (.range, ⟨.options, none⟩) := by
  decide +kernel

set_option maxRecDepth 100000 in
/-- A wrong CRC-32 is CRC (R195). -/
theorem test_crc_fault : loaded (tinyImage [87, 198, 5, 222] 7 [39, 16]) = .inl (.crc, ⟨.header, none⟩) := by
  decide +kernel

/-! ### Witnesses: for each statement with hypotheses, a state and operands that meet them -/

theorem witness_CommandsCompleteAndKeepTheQueue_idle : State.reset.pending = [] := rfl

theorem witness_StartsRecordTheirCause_reset : base.powered = true := rfl

/-- The base state with the OK of a RESTART being sent. -/
def restarting : State := { base with cfs := { base.cfs with reply := some .ok, restarting := true } }

theorem witness_StartsRecordTheirCause_restart :
    restarting.powered = true ∧ restarting.cfs.reply.isSome = true ∧ restarting.cfs.restarting = true := by decide

theorem witness_StartsRecordTheirCause_status : base.powered = true ∧ base.cfs.reply = none := by decide

theorem witness_StartsRecordTheirCause_kept : (∃ t, exec (.status 0) base = .next t)
    ∧ (∀ dt, Instr.status 0 ≠ .powerOn dt ∧ Instr.status 0 ≠ .resetInput dt ∧ Instr.status 0 ≠ .powerLoss dt)
    ∧ ¬ ((∃ dt, Instr.status 0 = .serviceReplySent dt) ∧ base.cfs.restarting = true) :=
  ⟨⟨_, rfl⟩, by simp, by simp⟩

theorem witness_StartsLeaveTheStartValues_reset : base.powered = true
    ∧ (Instr.resetInput 0 = .resetInput 0 ∨ (Instr.resetInput 0 = .serviceReplySent 0 ∧ base.cfs.reply.isSome = true
      ∧ base.cfs.restarting = true)) := by decide

theorem witness_StartsLeaveTheStartValues_restart : restarting.powered = true
    ∧ (Instr.serviceReplySent 0 = .resetInput 0 ∨ (Instr.serviceReplySent 0 = .serviceReplySent 0
      ∧ restarting.cfs.reply.isSome = true ∧ restarting.cfs.restarting = true)) := by decide

theorem loaded_ok {m : List Byte} {n : Nat} (h : loaded m = .inr n) : ∃ c, loadImage m = .ok c := by
  unfold loaded at h
  cases e : loadImage m with
  | ok c => exact ⟨c, rfl⟩
  | error x => rw [e] at h; cases h

theorem loaded_error {m : List Byte} {x : FaultCode × FaultItem} (h : loaded m = .inl x) :
    loadImage m = .error x := by
  unfold loaded at h
  cases e : loadImage m with
  | ok c => rw [e] at h; cases h
  | error y => rw [e] at h; cases h; rfl

theorem witness_LoadEndsReady : ∃ c, State.reset.powered = true ∧ State.reset.cfs.load = .loading
    ∧ loadImage goodImage = .ok c ∧ State.reset.ni.queue = [] ∧ State.reset.ni.idleFrom = none :=
  let ⟨c, h⟩ := loaded_ok test_good_image
  ⟨c, rfl, rfl, h, rfl, rfl⟩

theorem witness_LoadEndsInConfigFault_fault : State.reset.powered = true ∧ State.reset.cfs.load = .loading
    ∧ loadImage (tinyImage [219, 254, 0, 21] 48 [39, 16]) = .error (.range, ⟨.options, none⟩) :=
  ⟨rfl, rfl, loaded_error test_range_fault⟩

theorem witness_LoadEndsInConfigFault_outside : base.cfs.load ≠ .loading := by decide

theorem witness_LoadedConfigurationIsSound : ∃ c, loadImage goodImage = .ok c :=
  let ⟨c, _, _, h, _⟩ := witness_LoadEndsReady
  ⟨c, h⟩

theorem witness_FramesSurviveTheirBytes_low : frameInRange ⟨1, 1, .stop 1 0⟩ = true := by decide

theorem witness_FramesSurviveTheirBytes_high :
    frameInRange ⟨63, 65535, .pos ⟨some 16777215, 3, 255, 65535, .braked, .fault, 2, [63, 62], some 63, .holdover⟩⟩
      = true := by decide +kernel

theorem witness_MalformedCandidates_short : base.powered = true ∧ (List.replicate 6 (0#8)).length < 7 := by decide

theorem witness_MalformedCandidates_crc : let bytes : List Byte := List.replicate 7 (0#8)
    beNat (bytes.drop (bytes.length - 2)) ≠ (crc16 (bytes.take (bytes.length - 2))).toNat := by decide +kernel

theorem witness_MalformedCandidates_kind :
    ∃ k, (List.replicate 7 (12#8)).head? = some k ∧ bodyLength k.toNat = none := ⟨12#8, by decide⟩

theorem witness_MalformedCandidates_length : ∃ k n, (List.replicate 8 (3#8)).head? = some k
    ∧ bodyLength k.toNat = some n ∧ (List.replicate 8 (3#8)).length ≠ n + 7 := ⟨3#8, 0, by decide⟩

/-- A source of 0, a signature of 0, and a header that gives a RESUME a body of two bytes. -/
theorem witness_MalformedCandidates_header : let bytes : List Byte := [3#8, 0#8, 0#8, 0#8, 2#8, 0#8, 0#8]
    (∃ src, bytes[1]? = some src ∧ src.toNat = 0) ∧ (bytes[2]? = some 0#8 ∧ bytes[3]? = some 0#8)
    ∧ (∃ k n len, bytes.head? = some k ∧ bodyLength k.toNat = some n ∧ bytes[4]? = some len ∧ len.toNat ≠ n) :=
  ⟨⟨_, rfl, rfl⟩, ⟨rfl, rfl⟩, ⟨3#8, 0, 2#8, rfl, by decide, rfl, by decide⟩⟩

theorem witness_UnfitFrames_loading : State.reset.powered = true ∧ State.reset.active = false
    ∧ State.reset.parked = false := by decide

theorem witness_UnfitFrames_own_source : base.powered = true
    ∧ (⟨7, 500, .resume⟩ : Frame).src = base.cfg.opt.station := by decide +kernel

theorem witness_UnfitFrames_sender : senderMay 47 .resume = false := by decide

theorem witness_UnfitFrames_range : frameInRange ⟨4, 500, .stop 3 1⟩ = false := by decide

theorem witness_UnfitFrames_ordinate : ∃ b o, (⟨4, 500, .pos quietPos⟩ : Frame).body = .pos quietPos
    ∧ b = { quietPos with ordinate := some 420000 } ∧ b.ordinate = some o ∧ base.cfg.opt.routeLength ≤ o :=
  ⟨_, 420000, rfl, rfl, rfl, by decide +kernel⟩

/-- The base state parked. -/
def parkedState : State := base.parkAll

theorem witness_ParkedPart_wake : parkedState.parked = true ∧ isFixed (own 60).src = true
    ∧ (own 60).sig = parkedState.cfg.opt.signature ∧ 1 ≤ (own 60).sig ∧ (own 60).sig < 65536
    ∧ isStation parkedState.cfg.opt.station = true ∧ (own 60).src ≠ parkedState.cfg.opt.station := by decide +kernel

theorem witness_ParkedPart_other : parkedState.parked = true
    ∧ (Body.resume ≠ .grant parkedState.cfg.opt.station .wake ∨ 500 ≠ parkedState.cfg.opt.signature) := by
  decide +kernel

theorem receives_of {s : State} {f : Frame} (h : (s.active && s.frameValid f && decide (f.sig = s.cfg.opt.signature)
    && s.ptb.any (fun p => decide (p.station = f.src))
    && s.ptb.all (fun p => decide (p.station ≠ f.src) || !p.foreign)
    && decide (Cause.netSilent ∉ s.stc.causes)) = true) : s.Receives f := by
  simp only [Bool.and_eq_true, List.any_eq_true, List.all_eq_true, decide_eq_true_eq, Bool.or_eq_true,
    Bool.not_eq_true'] at h
  obtain ⟨⟨⟨⟨⟨h1, h2⟩, h3⟩, h4⟩, h5⟩, h6⟩ := h
  exact ⟨h1, h2, h3, h4, fun p hp e => (h5 p hp).resolve_left (fun hn => hn e), h6⟩

theorem witness_FramesForOthers_cue : base.Receives ⟨4, 500, .cue ⟨14, 1, 0, 0⟩⟩ := receives_of (by decide +kernel)

theorem witness_FramesForOthers_grant : base.Receives ⟨49, 500, .grant 8 .unlock⟩ ∧ 8 ≠ base.cfg.opt.station :=
  ⟨receives_of (by decide +kernel), by decide +kernel⟩

theorem witness_FramesForOthers_fix : base.Receives ⟨60, 500, .fix 8 1 0⟩ ∧ 8 ≠ base.cfg.opt.station :=
  ⟨receives_of (by decide +kernel), by decide +kernel⟩

theorem witness_FramesForOthers_first : base.active = true
    ∧ base.frameValid ⟨30, 500, .cue ⟨14, 1, 0, 0⟩⟩ = true ∧ (own 30).sig = base.cfg.opt.signature
    ∧ Cause.netSilent ∉ base.stc.causes ∧ (∀ p ∈ base.ptb, p.station ≠ 30) ∧ base.ptb.length < 24 := by decide +kernel

theorem witness_PosIsStored : base.Receives ⟨9, 500, .pos quietPos⟩ ∧ quietPos.level ≤ base.stc.latch
    ∧ (∀ k, (base.scu.slot k).state = .free ∨ (base.scu.slot k).state = .held)
    ∧ (∀ k x, (base.scu.slot k).state = .held → (base.scu.slot k).scene = some x → x ∈ quietPos.held →
      base.cfg.opt.station ≤ 9) :=
  ⟨receives_of (by decide +kernel), by decide, fun k => by cases k <;> decide,
    fun _ _ _ _ _ => by decide +kernel⟩

theorem witness_StopFrame_level1 : base.Receives ⟨4, 500, .stop 1 4⟩ ∧ base.DriveSafe ∧ base.stc.latch < 1 :=
  ⟨receives_of (by decide +kernel), by unfold State.DriveSafe; decide, by decide⟩

/-- The base state running under an authority of 600. -/
def running : State :=
  { base with dsc := { base.dsc with motion := .running, brakeReleased := true, command := 450, speed := 400 }
              sau := { base.sau with authority := 600, source := .peer } }

theorem witness_StopFrame_level2 : running.Receives ⟨4, 500, .stop 2 1⟩ ∧ running.DriveSafe ∧ running.stc.latch < 2 :=
  ⟨receives_of (by decide +kernel), by unfold State.DriveSafe; decide, by decide⟩

/-- The base state at rest in BRAKED under a latch of 2 that no cause asserts. -/
def braked : State :=
  { base with dsc := { base.dsc with motion := .braked }, stc := { base.stc with latch := 2, causes := [.overrun] } }

theorem witness_Resume_braked : braked.Receives ⟨60, 500, .resume⟩ ∧ braked.rsq.atEnd = false
    ∧ braked.dsc.motion = .braked ∧ braked.dsc.speed = 0 := ⟨receives_of (by decide +kernel), by decide⟩

theorem witness_Resume_stopping : let s := { base with
      dsc := { base.dsc with motion := .stopping }, stc := { base.stc with latch := 1, causes := [] } }
    s.Receives ⟨60, 500, .resume⟩ ∧ s.rsq.atEnd = false := ⟨receives_of (by decide +kernel), by decide⟩

theorem nothingDue_of {s : State} (h : s.entry.hold = .none) (h' : s.rsq.atEnd = false) : s.NothingDue :=
  ⟨fun x hx => (by rw [h] at hx; cases hx), fun hn => by rw [h'] at hn; exact Bool.noConfusion hn.2.2⟩

/-- The base state claiming scene 14 in slot 1. -/
def claiming : State :=
  { base with scu := { base.scu with slot1 := ⟨some 14, .claiming, some 1300, none, some .first⟩ } }

theorem witness_LowerClaim : claiming.Receives ⟨4, 500, .claim 14⟩ ∧ claiming.NothingDue ∧ claiming.SlotsSound
    ∧ (claiming.scu.slot .one).state = .claiming ∧ (claiming.scu.slot .one).scene = some 14
    ∧ 4 < claiming.cfg.opt.station ∧ (∀ p ∈ claiming.ptb, p.carries (.slot .one) = false) :=
  ⟨receives_of (by decide +kernel), nothingDue_of (by decide +kernel) (by decide), by unfold State.SlotsSound; decide,
    by decide, by decide, by decide +kernel, by decide⟩

/-- The base state waiting for scene 14 on station 4. -/
def waiting : State :=
  { base with scu := { base.scu with slot1 := ⟨some 14, .waiting, none, some 4, none⟩ }
              ptb := base.ptb.map fun p => if p.station = 4 then { p with pin1 := true } else p }

theorem witness_FreeFromTheBlocker : waiting.Receives ⟨4, 500, .free 14⟩ ∧ waiting.NothingDue ∧ waiting.SlotsSound
    ∧ (waiting.scu.slot .one).state = .waiting ∧ (waiting.scu.slot .one).scene = some 14
    ∧ (waiting.scu.slot .one).blocking = some 4 ∧ waiting.claimCheck (some 4) 14 = none ∧ waiting.ni.queue.length < 4
    ∧ (waiting.scu.slot (otherSlot .one)).state ≠ .waiting :=
  ⟨receives_of (by decide +kernel), nothingDue_of (by decide +kernel) (by decide), by unfold State.SlotsSound; decide,
    by decide, by decide, by decide, by decide +kernel, by decide, by decide⟩

/-- A tracker record of scene 14, cue 1. -/
def record (st : CueState) : Track := ⟨0, 14, 1, st, 900, some 950, false, some ⟨3, 2, 200⟩, some 1150⟩

/-- The base state with one such record. -/
def tracked (st : CueState) : State := { base with scu := { base.scu with tracker := [record st], nextRef := 1 } }

theorem witness_CuestEndsASentCue : (tracked .sent).Receives ⟨52, 500, .cuest ⟨14, 1, .done, none⟩⟩
    ∧ (tracked .sent).cfg.station 14 = 52 ∧ (tracked .sent).scu.recordOf 14 1 = some (record .sent)
    ∧ (record .sent).state = .sent ∧ (tracked .sent).scu.chain.running = false :=
  ⟨receives_of (by decide +kernel), by decide +kernel, by decide, by decide, by decide⟩

theorem witness_CuestEndsASentCue_cue : base.Receives ⟨4, 500, .cue ⟨14, 1, 0, 0⟩⟩ := receives_of (by decide +kernel)

/-- The base state following station 52. -/
def following (awaited : Bool) (st : ClockState) : State :=
  { base with sck := { base.sck with
      reference := some 52, priority := some 2, lastSync := some 900, awaited := awaited, state := st } }

theorem witness_SyncSteersTheClock_first : (following true .acquire).Receives ⟨52, 500, .sync 0 0⟩
    ∧ (following true .acquire).sck.reference = some 52 ∧ (following true .acquire).sck.awaited = true
    ∧ (following true .acquire).sck.running = true := ⟨receives_of (by decide +kernel), by decide⟩

/-- At the lock window exactly: an error of 50 µs. -/
theorem witness_SyncSteersTheClock_slew : (following false .acquire).Receives ⟨52, 500, .sync 999250 0⟩
    ∧ (following false .acquire).sck.reference = some 52 ∧ (following false .acquire).sck.awaited = false
    ∧ syncError 999250 800 ((following false .acquire).elapse 0).showTime = 50
    ∧ (following false .acquire).sck.running = true :=
  ⟨receives_of (by decide +kernel), by decide, by decide, by decide +kernel, by decide⟩

theorem witness_SyncSteersTheClock_locked : (following false .locked).Receives ⟨52, 500, .sync 999251 0⟩
    ∧ (following false .locked).sck.reference = some 52
    ∧ (following false .locked).cfg.opt.lockWindow < (syncError 999251 800 ((following false .locked).elapse 0).showTime).natAbs
    ∧ (following false .locked).sck.running = true :=
  ⟨receives_of (by decide +kernel), by decide, by decide +kernel, by decide⟩

/-- The base state at the platform entry, its end reached or not. -/
def atPlatform (x : Restraint) (m : Motion) (atEnd : Bool) : State :=
  { base with
    rsq := { base.rsq with entry := 4, distance := 4250000, atEnd := atEnd }
    rm := { base.rm with vehicle := x }, dsc := { base.dsc with motion := m } }

theorem witness_Unlock_secure : (atPlatform .secure .held true).Receives ⟨49, 500, .grant 7 .unlock⟩
    ∧ (atPlatform .secure .held true).entry.platform = some 49 ∧ (atPlatform .secure .held true).dsc.speed = 0
    ∧ (atPlatform .secure .held true).rm.vehicle ≠ .released :=
  ⟨receives_of (by decide +kernel), by decide +kernel, by decide, by decide⟩

theorem witness_Unlock_alarm : (atPlatform .alarm .braked true).Receives ⟨49, 500, .grant 7 .unlock⟩
    ∧ (atPlatform .alarm .braked true).entry.platform = some 49 ∧ (atPlatform .alarm .braked true).dsc.speed = 0
    ∧ (atPlatform .alarm .braked true).rm.vehicle ≠ .released :=
  ⟨receives_of (by decide +kernel), by decide +kernel, by decide, by decide⟩

theorem witness_Unlock_ignored : base.Receives ⟨49, 500, .grant 7 .unlock⟩ ∧ base.entry.platform ≠ some 49 :=
  ⟨receives_of (by decide +kernel), by decide +kernel⟩

theorem witness_Lock_accepted : (atPlatform .released .held true).Receives ⟨49, 500, .grant 7 .lock⟩
    ∧ (atPlatform .released .held true).rm.vehicle = .released := ⟨receives_of (by decide +kernel), by decide⟩

theorem witness_Lock_ignored : base.Receives ⟨49, 500, .grant 7 .lock⟩ ∧ base.rm.vehicle ≠ .released :=
  ⟨receives_of (by decide +kernel), by decide⟩

theorem witness_Releases_dispatch : let s := atPlatform .secure .held false
    s.Receives ⟨49, 500, .grant 7 .dispatch⟩ ∧ s.entry.platform = some 49 ∧ s.entry.hold = .dispatch
    ∧ s.dsc.motion = .held ∧ s.rm.vehicle = .secure ∧ s.rsq.released = false ∧ s.rsq.atEnd = false :=
  ⟨receives_of (by decide +kernel), by decide +kernel⟩

theorem witness_Releases_ignored : base.Receives ⟨49, 500, .grant 7 .dispatch⟩ ∧ base.entry.platform ≠ some 49 :=
  ⟨receives_of (by decide +kernel), by decide +kernel⟩

theorem witness_Releases_dwell : let s := { base with rsq := { base.rsq with entry := 6, dwell := some 3000 } }
    s.rsq.dwell = some 3000 ∧ s.rsq.atEnd = false := by decide

theorem witness_Releases_at_the_end : let s := atPlatform .secure .held true
    s.Receives ⟨49, 500, .grant 7 .dispatch⟩ ∧ s.entry.platform = some 49 ∧ s.entry.hold = .dispatch
    ∧ s.dsc.motion = .held ∧ s.rm.vehicle = .secure ∧ s.rsq.released = false ∧ s.rsq.atEnd = true ∧ s.rsq.known = true
    ∧ s.entry.length * 1000 ≤ s.rsq.distance ∧ s.rsq.distance < s.entry.length * 1000 + 100000
    ∧ 100 ≤ (s.cfg.entry (s.cfg.successor s.rsq.entry)).length :=
  ⟨receives_of (by decide +kernel), by decide +kernel⟩

theorem witness_Park_grant : base.Receives ⟨60, 500, .grant 7 .park⟩ ∧ base.dsc.motion = .held :=
  ⟨receives_of (by decide +kernel), by decide⟩

theorem witness_Park_command : base.active = true ∧ base.cfs.reply = none ∧ base.dsc.motion = .held := by decide

theorem witness_Park_refused : State.reset.powered = true ∧ State.reset.cfs.reply = none
    ∧ State.reset.cfs.load ≠ .ready := by decide

theorem witness_Park_ignored : running.Receives ⟨60, 500, .grant 7 .park⟩ ∧ running.dsc.motion ≠ .held
    ∧ running.dsc.motion ≠ .lost := ⟨receives_of (by decide +kernel), by decide⟩

/-- The base state with its position LOST. -/
def lost : State :=
  { base with dsc := { base.dsc with motion := .lost }, rsq := { base.rsq with known := false } }

/-- The last millimetre of entry 0. -/
theorem witness_Fix_accepted : lost.TakesFix (own 60) 0 4749 :=
  ⟨receives_of (by decide +kernel), by unfold State.PositionAgrees; decide, by decide +kernel⟩

theorem witness_Fix_known : base.Receives ⟨60, 500, .fix 7 0 0⟩ ∧ base.rsq.known = true :=
  ⟨receives_of (by decide +kernel), rfl⟩

theorem witness_Fix_beyond : lost.Receives ⟨60, 500, .fix 7 0 4751⟩ ∧ (lost.cfg.entry 0).length < 4751 :=
  ⟨receives_of (by decide +kernel), by decide +kernel⟩

theorem witness_Clear_removes : base.Receives ⟨60, 500, .clear 9⟩ := receives_of (by decide +kernel)

theorem witness_Clear_quiet : base.Receives ⟨60, 500, .clear 12⟩
    ∧ (∀ p ∈ base.ptb, p.station = 12 → p.pin1 = false ∧ p.pin2 = false ∧ p.showsScene = false
      ∧ p.foreignVehicle = false) := ⟨receives_of (by decide +kernel), by decide⟩

theorem witness_HeadIsSent : let s := { base with ni := { base.ni with queue := [.claim 14], idleFrom := some 999000 } }
    s.ni.queue = .claim 14 :: [] ∧ s.ni.idleFrom = some 999000 := by decide

theorem witness_HeadIsSent_busy : base.powered = true := rfl

theorem witness_NetTimers_pos : base.ni.posTimer = some 1050 ∧ (∀ w ∈ base.ni.queue, w.isPos = false)
    ∧ base.ni.queue.length < 6 := by decide

theorem witness_NetTimers_standing : let s := { base with ni := { base.ni with queue := [.pos false] } }
    s.ni.posTimer = some 1050 ∧ ∃ w ∈ s.ni.queue, w.isPos = true := by decide

theorem stopsSound_of {s : State} (h : (decide s.stc.causes.Nodup && decide (s.stc.asserted ≤ s.stc.latch)
    && decide (s.stc.latch ≤ 2) && decide (s.stc.incidents.length ≤ 16)) = true) : s.StopsSound := by
  simp only [Bool.and_eq_true, decide_eq_true_eq] at h; exact ⟨h.1.1.1, h.1.1.2, h.1.2, h.2⟩

theorem witness_NetTimers_silence : base.active = true ∧ base.ni.silence = some 2000 ∧ base.StopsSound
    ∧ Cause.netSilent ∉ base.stc.causes := ⟨by decide, by decide, stopsSound_of (by decide), by decide⟩

theorem witness_Ageing_stale : base.peer 9 = some { heardPeer 9 with data := some (vehicleAt 2400) }
    ∧ base.cfg.opt.staleTime ≠ base.cfg.opt.dropTime := by decide +kernel

theorem witness_Ageing_drop : base.peer 12 = some (heardPeer 12) ∧ (heardPeer 12).pinned = false
    ∧ (heardPeer 12).showsScene = false
    ∧ (∀ q ∈ base.ptb, q.station = 12 → q.foreignVehicle = false) := by decide

theorem witness_Ageing_pinned : waiting.peer 4 = some { heardPeer 4 with pin1 := true }
    ∧ ({ heardPeer 4 with pin1 := true } : Peer).pinned = true := by decide

theorem witness_PulsesAreCounted_short : base.active = true ∧ base.rsq.known = true ∧ base.rsq.atEnd = false
    ∧ base.dsc.guide ≠ .offWire ∧ base.scu.chain.running = false
    ∧ base.rsq.distance + base.cfg.opt.odometer < base.entry.length * 1000 := by decide +kernel

theorem witness_PulsesAreCounted_chain : let s := { base with scu := { base.scu with
      chain := { Chain.start with running := true, pending := some 0, reason := .stopped } } }
    s.active = true ∧ s.rsq.known = true ∧ s.rsq.atEnd = false ∧ s.dsc.guide ≠ .offWire ∧ s.scu.chain.running = true
    ∧ s.scu.chain.reason ≠ .trigger ∧ s.rsq.distance + s.cfg.opt.odometer < s.entry.length * 1000 := by decide +kernel

theorem witness_PulsesAreCounted_lost : lost.active = true ∧ lost.rsq.known = false ∧ lost.dsc.guide ≠ .offWire := by
  decide

theorem witness_PulsesAreCounted_loss : let s := { base with dsc := { base.dsc with guide := .offWire, loss := 1500000 } }
    s.active = true ∧ s.dsc.guide = .offWire ∧ s.dsc.loss ≤ s.cfg.opt.guideLoss * 1000
    ∧ s.cfg.opt.guideLoss * 1000 < s.dsc.loss + s.cfg.opt.odometer := by decide +kernel

/-- The last distance at which the marker is in time with no pulse lost: the length itself. -/
theorem witness_PulsesAreCounted_marker : let s := { base with rsq := { base.rsq with entry := 4, distance := 4250000 } }
    s.active = true ∧ s.rsq.known = true ∧ s.rsq.atEnd = false ∧ s.entry.marker ≠ 0 ∧ 212 = s.entry.marker
    ∧ s.entry.length * 1000 ≤ s.rsq.distance + s.entry.window * 1000 ∧ s.holdPending = true := by decide +kernel

/-- One pulse short of the end exactly. -/
theorem witness_EntryEnd_pulse : let s := { base with rsq := { base.rsq with distance := 4747500 } }
    s.active = true ∧ s.rsq.known = true ∧ s.rsq.atEnd = false ∧ s.entry.marker = 0 ∧ s.holdPending = false
    ∧ s.entry.length * 1000 ≤ s.rsq.distance + s.cfg.opt.odometer
    ∧ s.rsq.distance + s.cfg.opt.odometer < s.entry.length * 1000 + 100000
    ∧ 100 ≤ (s.cfg.entry (s.cfg.successor s.rsq.entry)).length := by decide +kernel

theorem witness_EntryEnd_wait : let s := { base with rsq := { base.rsq with entry := 6, distance := 2997500 } }
    s.active = true ∧ s.rsq.known = true ∧ s.rsq.atEnd = false ∧ s.entry.marker = 0 ∧ s.dsc.guide ≠ .offWire
    ∧ s.holdPending = true ∧ s.entry.length * 1000 ≤ s.rsq.distance + s.cfg.opt.odometer
    ∧ s.rsq.distance + s.cfg.opt.odometer ≤ (s.entry.length + s.entry.window) * 1000 := by decide +kernel

/-- The first distance at which the marker is in time: 4,250 − 150 mm. -/
theorem witness_EntryEnd_marker : let s := { base with rsq := { base.rsq with entry := 4, distance := 4100000 } }
    s.active = true ∧ s.rsq.known = true ∧ s.rsq.atEnd = false ∧ s.entry.marker ≠ 0 ∧ 212 = s.entry.marker
    ∧ s.entry.length * 1000 ≤ s.rsq.distance + s.entry.window * 1000 ∧ s.holdPending = true := by decide +kernel

theorem witness_EntryEnd_marker_released : let s := { base with
      rsq := { base.rsq with entry := 4, distance := 4100000, released := true } }
    s.active = true ∧ s.rsq.known = true ∧ s.rsq.atEnd = false ∧ s.entry.marker ≠ 0 ∧ 212 = s.entry.marker
    ∧ s.entry.length * 1000 ≤ s.rsq.distance + s.entry.window * 1000 ∧ s.holdPending = false
    ∧ 1 ≤ (s.cfg.entry (s.cfg.successor s.rsq.entry)).length := by decide +kernel

/-- The last micrometre before it. -/
theorem witness_EntryEnd_early : let s := { base with rsq := { base.rsq with entry := 4, distance := 4099999 } }
    s.active = true ∧ s.rsq.known = true ∧ s.StopsSound ∧ s.entry.marker ≠ 0 ∧ s.entry.suppress = false
    ∧ 212 = s.entry.marker ∧ s.rsq.atEnd = false
    ∧ s.rsq.distance + s.entry.window * 1000 < s.entry.length * 1000 :=
  ⟨by decide, by decide, stopsSound_of (by decide), by decide +kernel⟩

theorem witness_EntryEnd_wrong : let s := { base with rsq := { base.rsq with entry := 4, distance := 0 } }
    s.active = true ∧ s.rsq.known = true ∧ s.StopsSound ∧ s.entry.marker ≠ 0 ∧ s.entry.suppress = false
    ∧ 9 ≠ s.entry.marker ∧ s.rsq.lastMarker ≠ some 9 :=
  ⟨by decide, by decide, stopsSound_of (by decide), by decide +kernel⟩

theorem witness_EntryEnd_read_again : let s := { base with
      rsq := { base.rsq with entry := 4, distance := 4250000, atEnd := true, lastMarker := some 9 } }
    (212 = s.entry.marker ∧ 212 ≠ 0 ∧ s.rsq.atEnd = true) ∧ (9 ≠ s.entry.marker ∧ s.rsq.lastMarker = some 9)
    ∧ lost.rsq.known = false ∧ State.reset.active = false := by decide +kernel

theorem witness_ControlPeriod : base.active = true ∧ base.dsc.timer = some 1010
    ∧ base.dsc.steering.natAbs ≤ base.cfg.opt.steerMax := by decide +kernel

theorem witness_HeldVehicleMovesOff : base.active = true ∧ base.dsc.timer = some 1010 ∧ base.dsc.motion = .held
    ∧ base.DriveSafe ∧ base.rsq.atEnd = false ∧ base.stc.latch = 0 ∧ 0 < base.computedSau.authority
    ∧ (∀ k, (base.scu.slot k).state ≠ .waiting) :=
  ⟨by decide, by decide, by decide, by unfold State.DriveSafe; decide, by decide, by decide, by decide +kernel,
    fun k => by cases k <;> decide⟩

theorem witness_HeldVehicleMovesOff_fix : lost.TakesFix (own 60) 0 0 :=
  ⟨receives_of (by decide +kernel), by unfold State.PositionAgrees; decide, by decide +kernel⟩

theorem witness_VehicleAhead_some : base.ordinate = some 417600
    ∧ base.vehicleAhead = some ⟨9, 4800, 600, 800, false⟩
    ∧ (let p := { heardPeer 9 with data := some (vehicleAt 2400) }
       p ∈ base.ptb ∧ p.isVehicle = true ∧ p.foreign = false ∧ (vehicleAt 2400).ordinate = some 2400
       ∧ (vehicleAt 2400).lane = 0
       ∧ (((2400 : Int) - 417600) % (base.cfg.opt.routeLength : Int)).toNat ≤ base.cfg.opt.horizon) := by
  decide +kernel

/-- The nearest place beyond the horizon. -/
theorem witness_VehicleAhead_none : let p := { heardPeer 9 with data := some (vehicleAt 17601) }
    let s := { base with ptb := [p] }
    s.ordinate = some 417600 ∧ s.vehicleAhead = none ∧ p ∈ s.ptb ∧ p.isVehicle = true ∧ p.foreign = false
    ∧ (vehicleAt 17601).ordinate = some 17601 ∧ (vehicleAt 17601).lane = 0 := by decide +kernel

theorem witness_CurveSpeed_ahead : base.vehicleAhead = some ⟨9, 4800, 600, 800, false⟩ ∧ base.lookAheadList ≠ [] := by
  decide +kernel

theorem witness_LookAhead_hold : (atPlatform .secure .held true).holdPending = true := by decide +kernel

theorem witness_Authority_free : base.rsq.known = true ∧ base.forced = false ∧ base.stc.latch = 0
    ∧ base.vehicleAhead = some ⟨9, 4800, 600, 800, false⟩ := by decide +kernel

theorem witness_Authority_forced : braked.rsq.known = true ∧ braked.stc.latch = 2
    ∧ (atPlatform .alarm .held true).rm.vehicle ≠ .secure := by decide +kernel

theorem witness_Samples : let raw : List SeatInput := List.replicate 8 ⟨true, false⟩
    base.rm.timer = some 1005 ∧ base.rm.seats.length = 8
    ∧ (∀ (i : Nat) (k : Seat), base.rm.seats[i]? = some k → k.fitted = true →
      k.changedFrom (k.sample base.cfg.opt.debounce (inputAt raw i)) = false) := by
  refine ⟨by decide, by decide, fun i k h _ => ?_⟩
  match i with
  | 0 => cases h; decide +kernel
  | 1 => cases h; decide +kernel
  | 2 | 3 | 4 | 5 | 6 | 7 => cases h; decide +kernel
  | n + 8 => simp [base] at h

/-- Seat 1 open-circuit for 15 ms, the next sample making it 20: the debounce time exactly. -/
def lifting : State :=
  { running with rm := { running.rm with
      seats := running.rm.seats.set 0 { lockedSeat with rawLk := some false, runLk := 15 } } }

theorem witness_SeatLoss : let raw : List SeatInput := ⟨false, true⟩ :: List.replicate 7 ⟨true, true⟩
    let k : Seat := { lockedSeat with rawLk := some false, runLk := 15 }
    lifting.active = true ∧ lifting.rm.timer = some 1005 ∧ lifting.StopsSound ∧ lifting.DriveSafe
    ∧ lifting.rm.vehicle = .secure ∧ lifting.stc.latch ≠ 2 ∧ 0 < 8 ∧ lifting.rm.seats[0]? = some k ∧ k.state = .locked
    ∧ k.changedFrom (k.sample lifting.cfg.opt.debounce (inputAt raw 0)) = true
    ∧ (k.sample lifting.cfg.opt.debounce (inputAt raw 0)).lk = false :=
  ⟨by decide, by decide, stopsSound_of (by decide), by unfold State.DriveSafe; decide, by decide +kernel⟩

theorem witness_SeatTimers_confirm : let k : Seat := { lockedSeat with state := .closing, confirm := some 1300 }
    let s := { base with rm := { base.rm with vehicle := .checking, seats := base.rm.seats.set 1 k } }
    1 ≤ 2 ∧ 2 ≤ 8 ∧ s.rm.seats[2 - 1]? = some k ∧ k.state = .closing ∧ k.lk = true ∧ k.bd = true
    ∧ k.confirm = some 1300 ∧ s.rm.vehicle = .checking ∧ (∀ q ∈ s.rm.seats, q.state ≠ .fault) := by decide +kernel

theorem witness_SeatTimers_contradiction :
    let k : Seat := { lockedSeat with state := .opened, bd := false, contra := some 1100 }
    let s := { base with rm := { base.rm with seats := base.rm.seats.set 7 k } }
    1 ≤ 8 ∧ 8 ≤ 8 ∧ s.rm.seats[8 - 1]? = some k ∧ k.state = .opened ∧ k.contra = some 1100 := by decide +kernel

theorem claimable : ∀ p ∈ claiming.ptb, ∀ v, p.data = some v → p.isVehicle = true →
    14 ∉ v.held ∧ (v.claiming = some 14 → claiming.cfg.opt.station ≤ p.station) := by
  intro p hp v hv _
  have h : ∀ p ∈ claiming.ptb, p.data.all (fun v => v.held.isEmpty && v.claiming.isNone) = true := by decide +kernel
  have := h p hp
  rw [hv] at this
  simp only [Option.all_some, Bool.and_eq_true, List.isEmpty_iff, Option.isNone_iff_eq_none] at this
  rw [this.1, this.2]
  exact ⟨by simp, by simp⟩

theorem witness_ClaimWindow_held : claiming.active = true ∧ claiming.rsq.atEnd = false
    ∧ (claiming.scu.slot .one).state = .claiming ∧ (claiming.scu.slot .one).scene = some 14
    ∧ (claiming.scu.slot .one).window = some 1300
    ∧ (∀ p ∈ claiming.ptb, ∀ v, p.data = some v → p.isVehicle = true →
      14 ∉ v.held ∧ (v.claiming = some 14 → claiming.cfg.opt.station ≤ p.station)) :=
  ⟨by decide, by decide, by decide, by decide, by decide, claimable⟩

/-- Station 9 holds the scene that is claimed. -/
def contested : State :=
  { claiming with ptb := [{ heardPeer 9 with data := some { vehicleAt 2400 with held := [14] } }] }

theorem witness_ClaimWindow_blocked :
    let p : Peer := { heardPeer 9 with data := some { vehicleAt 2400 with held := [14] } }
    contested.active = true ∧ contested.NothingDue ∧ (contested.scu.slot .one).state = .claiming
    ∧ (contested.scu.slot .one).scene = some 14 ∧ (contested.scu.slot .one).window = some 1300
    ∧ p ∈ contested.ptb ∧ p.station = 9 ∧ p.isVehicle = true ∧ p.data = some { vehicleAt 2400 with held := [14] }
    ∧ 14 ∈ ({ vehicleAt 2400 with held := [14] } : VehicleData).held
    ∧ (∀ q ∈ contested.ptb, ∀ w, q.data = some w → q.isVehicle = true →
        (14 ∈ w.held ∨ (w.claiming = some 14 ∧ q.station < contested.cfg.opt.station)) → 9 ≤ q.station)
    ∧ (∀ q ∈ contested.ptb, q.carries (.slot .one) = false) := by
  refine ⟨by decide, nothingDue_of (by decide +kernel) (by decide), by decide, by decide, by decide, by decide, rfl,
    by decide, rfl, by decide, ?_, by decide⟩
  intro q hq _ _ _ _
  have h : ∀ q ∈ contested.ptb, 9 ≤ q.station := by decide
  exact h q hq

/-- A chain whose last word waits for its time. -/
def timed (latch : Nat) (slot : Slot) : State :=
  { base with
    cfg := { cfg with words := words.take 1 }
    stc := { base.stc with latch := latch }
    scu := { base.scu with
      slot1 := slot
      chain := { Chain.start with running := true, pending := some 0, timer := some 1005 } } }

theorem witness_PendingTimer_stopped : let s := timed 1 Slot.free
    s.scu.chain.running = true ∧ s.scu.chain.reason = .trigger ∧ s.scu.chain.pending = some 0
    ∧ s.scu.chain.timer = some 1005 ∧ (s.cfg.word 0).trigger = .afterTime 5 ∧ s.cfg.nextWord 0 = none
    ∧ 0 < s.stc.latch := by decide +kernel

theorem witness_PendingTimer_not_held : let s := timed 0 Slot.free
    s.scu.chain.running = true ∧ s.scu.chain.reason = .trigger ∧ s.scu.chain.pending = some 0
    ∧ s.scu.chain.timer = some 1005 ∧ (s.cfg.word 0).trigger = .afterTime 5 ∧ s.cfg.nextWord 0 = none
    ∧ s.stc.latch = 0 ∧ s.scu.holdsScene (s.cfg.word 0).scene = false := by decide +kernel

theorem witness_PendingTimer_issued : let s := timed 0 ⟨some 14, .held, none, none, some .first⟩
    s.scu.chain.running = true ∧ s.scu.chain.reason = .trigger ∧ s.scu.chain.pending = some 0
    ∧ s.scu.chain.timer = some 1005 ∧ (s.cfg.word 0).trigger = .afterTime 5 ∧ s.cfg.nextWord 0 = none
    ∧ s.stc.latch = 0 ∧ s.scu.holdsScene (s.cfg.word 0).scene = true ∧ s.scu.tracker.length < 8
    ∧ s.scu.recordOf (s.cfg.word 0).scene (s.cfg.word 0).cue = none ∧ s.ni.queue.length < 6 := by decide +kernel

theorem witness_CuesTimeOut_sent : (tracked .sent).scu.chain.running = false
    ∧ (tracked .sent).scu.recordRef 0 = some (record .sent) ∧ (record .sent).state = .sent
    ∧ (record .sent).timer = some 1150 := by decide

theorem witness_CuesTimeOut_late : (tracked .timedOut).scu.chain.running = false
    ∧ (tracked .timedOut).scu.recordRef 0 = some (record .timedOut) ∧ (record .timedOut).state = .timedOut
    ∧ (record .timedOut).timer = some 1150 := by decide

theorem witness_SilentReference_no_candidate : let s := following false .locked
    s.active = true ∧ s.PeersSound ∧ s.sck.reference = some 52 ∧ s.sck.lastSync = some 900
    ∧ ∀ c m, ¬ s.LastSync 1300000 c m := by
  refine ⟨by decide, by unfold State.PeersSound; decide, by decide, by decide, ?_⟩
  rintro c m ⟨_, ⟨p, hp, _, hm⟩, _⟩
  have h : ∀ p ∈ (following false .locked).ptb, p.lastSync = none := by decide
  rw [h p hp] at hm; cases hm

/-- The base state with voice 1 sounding. -/
def sounds : State := { base with spe := { base.spe with v1 := { sounding 3 256 0 .both none 20000 with position := 95998 } } }

theorem witness_SamplePeriod_active : sounds.active = true ∧ (∀ i, (sounds.spe.voice i).state ≠ .waiting)
    ∧ (sounds.spe.voice 1).primed = true ∧ (sounds.spe.voice 1).state = .playing
    ∧ (sounds.spe.voice 1).buffer = 20000 :: [0] ∧ (sounds.spe.voice 1).fade = none
    ∧ (sounds.spe.voice 1).position + 1 < ((sounds.spe.voice 1).clip sounds.cfg).length := by
  refine ⟨by decide, fun i => ?_, by decide +kernel⟩
  match i with
  | 0 | 1 | 2 => decide +kernel
  | n + 3 => exact fun h => by simp [Spe.voice, sounds, base, State.reset, Spe.start, Voice.start] at h

theorem witness_SamplePeriod_inactive : State.reset.active = false := by decide

/-- The base state with a transfer for voice 3. -/
def transferring (disowned : Bool) : State :=
  { base with spe := { base.spe with link := some ⟨3, 3, List.range 128, disowned⟩ } }

theorem witness_Transfer : (transferring false).powered = true
    ∧ (transferring false).spe.link = some ⟨3, 3, List.range 128, false⟩ ∧ 3 < 4 := by decide +kernel

theorem witness_Transfer_disowned : (transferring true).powered = true
    ∧ (transferring true).spe.link = some ⟨3, 3, List.range 128, true⟩ ∧ 3 < 4 := by decide +kernel

theorem witness_Reads : base.powered = true ∧ base.cfs.reply = none := by decide

theorem witness_ServiceCommands_busy : restarting.cfs.reply.isSome = true
    ∧ .restart 0 ∈ [Instr.status 0, .readRoute 0, .readPeers 0, .readSeats 0, .readScenes 0, .readVoices 0,
      .readClock 0, .readIncidents 0, .clearIncidents 0, .serviceStopOn 0, .serviceStopOff 0, .park 0, .restart 0,
      .testClip 0 1, .unknownCommand 0 "X"] := by decide +kernel

theorem witness_ServiceCommands_idle : base.powered = true ∧ base.cfs.reply = none ∧ base.dsc.motion ≠ .running
    ∧ base.dsc.motion ≠ .stopping ∧ parseLine "HELP" = none ∧ base.cfs.restarting = false := by decide +kernel

theorem witness_ServiceCommands_moving : running.powered = true ∧ running.cfs.reply = none
    ∧ running.dsc.motion = .running := by decide

theorem witness_ServiceStop_loading : State.reset.powered = true ∧ State.reset.cfs.reply = none
    ∧ State.reset.cfs.load ≠ .ready := by decide

theorem witness_ServiceStop_on : base.active = true ∧ base.cfs.reply = none ∧ base.StopsSound
    ∧ Cause.service ∉ base.stc.causes ∧ base.stc.asserted = 0 ∧ base.ni.queue = [] :=
  ⟨by decide, by decide, stopsSound_of (by decide), by decide⟩

theorem witness_ServiceStop_parked : parkedState.parked = true ∧ parkedState.cfs.reply = none := by decide +kernel

theorem witness_ServiceStop_off : let s := { base with stc := { base.stc with causes := [.service], latch := 1 } }
    s.active = true ∧ s.cfs.reply = none ∧ Cause.service ∈ s.stc.causes := by decide

theorem witness_ServiceStop_off_inactive : base.active = true ∧ base.cfs.reply = none
    ∧ Cause.service ∉ base.stc.causes := by decide

theorem witness_TestClip_moving : running.powered = true ∧ running.cfs.reply = none ∧ running.dsc.motion ≠ .held
    ∧ running.dsc.motion ≠ .lost ∧ running.dsc.motion ≠ .parked := by decide

theorem witness_TestClip_range : base.powered = true ∧ base.cfs.reply = none ∧ base.cfs.load = .ready
    ∧ base.dsc.motion = .held ∧ base.cfg.clips.length < 4 := by decide +kernel

theorem witness_TestClip_plays : base.active = true ∧ base.cfs.reply = none ∧ base.dsc.motion = .held ∧ 1 ≤ 3
    ∧ 3 ≤ base.cfg.clips.length ∧ base.spe.v0.state = .idle := by decide +kernel

theorem witness_TestClip_busy : let s := { base with spe := { base.spe with v0 := sounding 2 256 0 .both none 5 } }
    s.active = true ∧ s.cfs.reply = none ∧ s.dsc.motion = .held ∧ 1 ≤ 3 ∧ 3 ≤ s.cfg.clips.length
    ∧ s.spe.v0.state ≠ .idle := by decide +kernel

theorem witness_TestClip_parked : parkedState.parked = true ∧ parkedState.cfs.reply = none
    ∧ 3 ≤ parkedState.cfg.clips.length := by decide +kernel

/-- The invariants hold together in a running state, not in the start state alone. -/
theorem witness_invariants : running.DriveSafe ∧ running.AuthoritySafe ∧ running.PositionAgrees ∧ running.ReleaseSafe
    ∧ running.StopsSound ∧ running.PeersSound ∧ running.QueueSound ∧ running.SlotsSound ∧ running.TrackerSound
    ∧ running.VoicesSound ∧ running.LifeSound ∧ running.DwellSound := by
  refine ⟨?_, ?_, ?_, ?_, stopsSound_of (by decide), ?_, ?_, ?_, ?_, ?_, ?_, ?_⟩
  · unfold State.DriveSafe; decide
  · unfold State.AuthoritySafe; decide
  · unfold State.PositionAgrees; decide
  · unfold State.ReleaseSafe; decide
  · unfold State.PeersSound; decide
  · unfold State.QueueSound; decide
  · unfold State.SlotsSound; decide
  · unfold State.TrackerSound; decide
  · unfold State.VoicesSound; decide
  · unfold State.LifeSound; decide
  · exact fun _ _ h => absurd h (by decide)

/-- A loop of two entries and one that class 1 skips. -/
def looped : State :=
  { base with cfg := { cfg with
      opt := { opts with routeLength := 12000 }
      route := [plain 0 9000 600, { plain 9000 3000 600 with skip := 2 }, plain 9000 3000 600] } }

theorem witness_ConfigSound : looped.cfs.load = .ready ∧ Sound looped.cfg := by
  refine ⟨by decide, by unfold OptionsSound; decide, by decide, ?_, ⟨⟨by decide, ?_⟩, ⟨by decide, by decide +kernel⟩,
    ⟨by decide, by decide +kernel⟩, ⟨by decide, by decide +kernel⟩⟩, ⟨0, by decide +kernel⟩, ?_, ?_, ?_, ?_,
    by decide, by decide⟩
  · simp [looped, plain, RouteEntry.smallest, EntrySound]
  · simp [looped, base, cfg, words]
  · intro i hi
    have h : ∀ i ∈ List.range looped.cfg.route.length, looped.cfg.skips i = false →
        ((looped.cfg.entry i).start + (looped.cfg.entry i).length) % looped.cfg.opt.routeLength
          = (looped.cfg.entry (looped.cfg.successor i)).start := by decide +kernel
    exact h i (List.mem_range.2 hi)
  · simp [looped, plain, RouteEntry.smallest]
  · simp [looped, plain, RouteEntry.smallest]
  · simp [looped, base, cfg, words]

/-- A step from that state answers a next state, so the invariants' second premise is met too. -/
theorem witness_invariants_step : ∃ t, step (running.setPending [.odometerPulse 5]) = .next t := ⟨_, rfl⟩

/-! ### Witnesses of further clauses -/

theorem witness_LoadEndsReady_busy : ∃ c, let s := { State.reset with ni := { Ni.start with carrierBusy := true } }
    s.powered = true ∧ s.cfs.load = .loading ∧ loadImage goodImage = .ok c ∧ s.ni.carrierBusy = true :=
  let ⟨c, h⟩ := loaded_ok test_good_image
  ⟨c, rfl, rfl, h, rfl⟩

/-- 24 records: a pinned one heard before all others, one heard next, and 22 heard last. -/
def crowd : List Peer :=
  { heardPeer 8 with pin1 := true, lastHeard := 100 } :: heardPeer 20
    :: (List.range 22).map (fun i => { heardPeer (21 + i) with lastHeard := 900 + i })

theorem witness_FramesForOthers_eviction : let s := { base with ptb := crowd }
    s.active = true ∧ s.frameValid ⟨1, 500, .cue ⟨14, 1, 0, 0⟩⟩ = true ∧ (own 1).sig = s.cfg.opt.signature
    ∧ Cause.netSilent ∉ s.stc.causes ∧ (∀ q ∈ s.ptb, q.station ≠ 1) ∧ s.PeersSound ∧ s.ptb.length = 24
    ∧ s.ptb = [{ heardPeer 8 with pin1 := true, lastHeard := 100 }] ++ heardPeer 20
      :: (List.range 22).map (fun i => { heardPeer (21 + i) with lastHeard := 900 + i })
    ∧ (heardPeer 20).pinned = false
    ∧ (∀ q ∈ [{ heardPeer 8 with pin1 := true, lastHeard := 100 }], q.pinned = false → 900 < q.lastHeard)
    ∧ (∀ q ∈ (List.range 22).map (fun i => { heardPeer (21 + i) with lastHeard := 900 + i }), q.pinned = false →
      (heardPeer 20).lastHeard ≤ q.lastHeard)
    ∧ (heardPeer 20).showsScene = false ∧ (heardPeer 20).foreignVehicle = false := by
  unfold State.PeersSound; decide +kernel

/-- The base state with station 9 FOREIGN, its cause active. -/
def foreign9 : State :=
  { base with ptb := [{ heardPeer 9 with foreign := true }, heardPeer 49], stc := { base.stc with causes := [.foreign], latch := 1 } }

theorem witness_FramesForOthers_last_foreign : foreign9.active = true
    ∧ foreign9.frameValid ⟨9, 500, .cue ⟨14, 1, 0, 0⟩⟩ = true ∧ (own 9).sig = foreign9.cfg.opt.signature
    ∧ Cause.netSilent ∉ foreign9.stc.causes ∧ Cause.foreign ∈ foreign9.stc.causes
    ∧ (∃ p ∈ foreign9.ptb, p.station = 9 ∧ p.foreignVehicle = true)
    ∧ (∀ p ∈ foreign9.ptb, p.foreignVehicle = true → p.station = 9) := by decide +kernel

theorem receivesForeign_of {s : State} {f : Frame} (h : (s.active && s.frameValid f
    && decide (f.sig ≠ s.cfg.opt.signature) && decide (Cause.netSilent ∉ s.stc.causes)) = true) :
    s.ReceivesForeign f := by
  simp only [Bool.and_eq_true, decide_eq_true_eq] at h
  exact ⟨h.1.1.1, h.1.1.2, h.1.2, h.2⟩

theorem witness_FramesForOthers_foreign : base.ReceivesForeign ⟨49, 501, .resume⟩ ∧ (∃ p ∈ base.ptb, p.station = 49)
    ∧ (∀ p ∈ base.ptb, p.station = 49 → p.pin1 = false ∧ p.pin2 = false ∧ p.showsScene = false)
    ∧ isFixed 49 = true ∧ (∀ level code, Body.resume = .stop level code → level ≤ base.stc.latch) :=
  ⟨receivesForeign_of (by decide +kernel), by decide, by decide, by decide, (fun _ _ h => nomatch h)⟩

theorem witness_FramesForOthers_foreign_stop : base.ReceivesForeign ⟨49, 501, .stop 1 15⟩
    ∧ (∃ p ∈ base.ptb, p.station = 49)
    ∧ (∀ p ∈ base.ptb, p.station = 49 → p.pin1 = false ∧ p.pin2 = false ∧ p.showsScene = false)
    ∧ isFixed 49 = true ∧ base.stc.latch < 1 :=
  ⟨receivesForeign_of (by decide +kernel), by decide, by decide, by decide, by decide⟩

theorem witness_FramesForOthers_first_foreign : base.ReceivesForeign ⟨4, 501, .claim 14⟩ ∧ base.StopsSound
    ∧ isVehicle 4 = true ∧ (∀ p ∈ base.ptb, p.foreignVehicle = false) ∧ Cause.foreign ∉ base.stc.causes
    ∧ (∀ level code, Body.claim 14 ≠ .stop level code)
    ∧ (∀ p ∈ base.ptb, p.station = 4 → p.pin1 = false ∧ p.pin2 = false ∧ p.showsScene = false)
    ∧ (∃ p ∈ base.ptb, p.station = 4) :=
  ⟨receivesForeign_of (by decide +kernel), stopsSound_of (by decide), by decide, by decide, by decide,
    (fun _ _ h => nomatch h), by decide, by decide⟩

theorem witness_FramesForOthers_first_foreign_unknown : base.ReceivesForeign ⟨30, 501, .claim 14⟩ ∧ isVehicle 30 = true
    ∧ (∀ p ∈ base.ptb, p.station ≠ 30) ∧ base.ptb.length < 24 :=
  ⟨receivesForeign_of (by decide +kernel), by decide, by decide, by decide⟩

theorem witness_FramesForOthers_foreign_blocker :
    let s : State := { waiting with
      cfg := looped.cfg, ptb := { heardPeer 12 with foreign := true } :: waiting.ptb.filter (·.station ≠ 12) }
    s.ReceivesForeign ⟨4, 501, .claim 14⟩ ∧ s.NothingDue ∧ s.SlotsSound ∧ (∃ p ∈ s.ptb, p.foreignVehicle = true)
    ∧ (∀ level code, Body.claim 14 = .stop level code → level ≤ s.stc.latch)
    ∧ (s.scu.slot .one).state = .waiting ∧ (s.scu.slot .one).scene = some 14 ∧ (s.scu.slot .one).blocking = some 4
    ∧ (∃ p ∈ s.ptb, p.station = 4) ∧ (∀ p ∈ s.ptb, p.carries (.slot .one) = true ↔ p.station = 4)
    ∧ isVehicle 4 = true ∧ s.ConfigSound
    ∧ s.claimCheck (some 4) 14 = none ∧ s.ni.queue.length < 4 ∧ (s.scu.slot (otherSlot .one)).state ≠ .waiting :=
  ⟨receivesForeign_of (by decide +kernel), nothingDue_of (by decide +kernel) (by decide), by unfold State.SlotsSound; decide,
    by decide, (fun _ _ h => nomatch h), by decide, by decide, by decide, by decide, by decide, by decide,
    fun _ => witness_ConfigSound.2, by decide +kernel, by decide, by decide⟩

theorem witness_PosIsStored_level : base.Receives ⟨9, 500, .pos { quietPos with level := 1 }⟩
    ∧ base.stc.latch < ({ quietPos with level := 1 } : PosBody).level
    ∧ (∀ k, (base.scu.slot k).state = .free ∨ (base.scu.slot k).state = .held)
    ∧ (∀ x, x ∉ ({ quietPos with level := 1 } : PosBody).held) :=
  ⟨receives_of (by decide +kernel), by decide, fun k => by cases k <;> decide, fun _ => by simp [quietPos]⟩

/-- The base state holding scene 14 in slot 1. -/
def holding : State := { base with scu := { base.scu with slot1 := ⟨some 14, .held, none, none, some .first⟩ } }

theorem witness_PosIsStored_conflict : holding.Receives ⟨4, 500, .pos { quietPos with held := [20, 14] }⟩
    ∧ ({ quietPos with held := [20, 14] } : PosBody).level ≤ holding.stc.latch ∧ holding.SlotsSound ∧ holding.StopsSound
    ∧ holding.rsq.atEnd = false ∧ (holding.scu.slot .one).state = .held ∧ (holding.scu.slot .one).scene = some 14
    ∧ 14 ∈ ({ quietPos with held := [20, 14] } : PosBody).held ∧ 4 < holding.cfg.opt.station
    ∧ Cause.sceneConflict ∉ holding.stc.causes ∧ (holding.scu.slot (otherSlot .one)).state = .free
    ∧ holding.stc.asserted = 0 ∧ holding.ni.queue = [] :=
  ⟨receives_of (by decide +kernel), by decide, by unfold State.SlotsSound; decide, stopsSound_of (by decide),
    by decide +kernel⟩

/-- A voice in the given state with one request waiting. -/
def voiceIn (st : VoiceState) : Voice :=
  { sounding 3 256 0 .both none 1 with
    state := st, queue := [⟨2, none, 256, 0, 0, .both, .route⟩] }

theorem witness_StopFrame_voices : let s : State := { running with spe := { base.spe with
      v0 := voiceIn .playing, v1 := voiceIn .playing, v2 := voiceIn .fading, v3 := voiceIn .waiting } }
    s.Receives ⟨4, 500, .stop 2 1⟩ ∧ s.DriveSafe ∧ s.stc.latch < 2 ∧ s.cfg.opt.stopClip ≠ 0 ∧ s.spe.v0.state ≠ .idle :=
  ⟨receives_of (by decide +kernel), by unfold State.DriveSafe; decide, by decide, by decide, by decide⟩

theorem witness_StopFrame_stop_clip : base.cfg.opt.stopClip ≠ 0 ∧ base.spe.v0.state = .idle
    ∧ ({ base with cfg := { cfg with opt := { opts with stopClip := 0 } } } : State).Receives ⟨4, 500, .stop 1 1⟩
    ∧ ({ base with cfg := { cfg with opt := { opts with stopClip := 0 } } } : State).cfg.opt.stopClip = 0 :=
  ⟨by decide, by decide, receives_of (by decide +kernel), by decide⟩

/-- The base state in ALARM under a latch of `latch`, with the given causes. -/
def alarmed (latch : Nat) (causes : List Cause) (seat : Seat) : State :=
  { base with
    rm := { base.rm with vehicle := .alarm, seats := base.rm.seats.set 0 seat }
    dsc := { base.dsc with motion := .braked }, stc := { base.stc with latch := latch, causes := causes } }

theorem witness_Resume_alarm : let s := alarmed 2 [.overrun] lockedSeat
    s.Receives ⟨60, 500, .resume⟩ ∧ s.rsq.atEnd = false ∧ (∀ c ∈ s.stc.causes, c.latched = true) ∧ 0 < s.stc.latch
    ∧ s.rm.vehicle = .alarm ∧ (∀ k ∈ s.rm.seats, k.state = .notFitted ∨ k.state = .locked) :=
  ⟨receives_of (by decide +kernel), by decide⟩

theorem witness_Resume_open_seat : let s := alarmed 2 [.overrun] { lockedSeat with state := .opened }
    s.Receives ⟨60, 500, .resume⟩ ∧ s.rsq.atEnd = false
    ∧ (∃ k ∈ s.rm.seats, k.state ≠ .notFitted ∧ k.state ≠ .locked) :=
  ⟨receives_of (by decide +kernel), by decide⟩

/-- The LOST base state with entry 0 changed. -/
def lostBefore (e : RouteEntry) : State := { lost with cfg := { cfg with route := route.set 0 e } }

theorem takesFix_of {s : State} (h : (s.active && s.frameValid ⟨60, 500, .fix s.cfg.opt.station 0 0⟩
    && decide (500 = s.cfg.opt.signature)
    && s.ptb.any (fun p => decide (p.station = 60)) && s.ptb.all (fun p => decide (p.station ≠ 60) || !p.foreign)
    && decide (Cause.netSilent ∉ s.stc.causes)) = true)
    (g : (decide (s.dsc.motion = .lost) && !s.rsq.known && decide (0 < s.cfg.route.length) && !s.cfg.skips 0
      && decide (0 < (s.cfg.entry 0).length)) = true) : s.TakesFix (own 60) 0 0 := by
  simp only [Bool.and_eq_true, decide_eq_true_eq, Bool.not_eq_true'] at g
  obtain ⟨⟨⟨⟨g1, g2⟩, g3⟩, g4⟩, g5⟩ := g
  exact ⟨receives_of h, fun _ => by simp [g1, g2], g2, g3, g4, g5⟩

theorem witness_Fix_play_idle :
    let s := lostBefore { plain 414000 4750 1000 with sound := some (.play 3 1 200 2 0 .both) }
    s.TakesFix (own 60) 0 0 ∧ (s.cfg.entry 0).scene = none ∧ (s.cfg.entry 0).sound = some (.play 3 1 200 2 0 .both)
    ∧ (s.spe.voice 1).state = .idle := ⟨takesFix_of (by decide +kernel) (by decide +kernel), by decide +kernel⟩

theorem witness_Fix_play_busy :
    let s := { lostBefore { plain 414000 4750 1000 with sound := some (.play 3 3 200 2 0 .both) } with
      spe := { base.spe with v3 := voiceIn .playing } }
    s.TakesFix (own 60) 0 0 ∧ (s.cfg.entry 0).scene = none ∧ (s.cfg.entry 0).sound = some (.play 3 3 200 2 0 .both)
    ∧ (s.spe.voice 3).state ≠ .idle := ⟨takesFix_of (by decide +kernel) (by decide +kernel), by decide +kernel⟩

theorem witness_Fix_stop_and_flush :
    let s := fun a => { lostBefore { plain 414000 4750 1000 with sound := some a } with
      spe := { base.spe with v2 := voiceIn .playing } }
    (((s (.stop 2)) : State).TakesFix (own 60) 0 0 ∧ ((s (.stop 2)).cfg.entry 0).scene = none
      ∧ ((s (.stop 2)).cfg.entry 0).sound = some (.stop 2) ∧ ((s (.stop 2)).spe.voice 2).state = .playing)
    ∧ ((s (.flush 2)) : State).TakesFix (own 60) 0 0 ∧ ((s (.flush 2)).cfg.entry 0).scene = none
      ∧ ((s (.flush 2)).cfg.entry 0).sound = some (.flush 2) :=
  ⟨⟨takesFix_of (by decide +kernel) (by decide +kernel), by decide +kernel⟩,
    takesFix_of (by decide +kernel) (by decide +kernel), by decide +kernel⟩

/-- A table of one word that is met 5 m after the start of its chain. -/
def distanceWord : List CueWord := [⟨14, 1, .atDistance 5000, false, false, none⟩]

/-- A LOST state whose entry 0 starts that word's chain. -/
def chainStart (running : Bool) : State :=
  { lost with
    cfg := { cfg with route := route.set 0 { plain 414000 4750 1000 with chain := some 0 }, words := distanceWord }
    scu := { base.scu with chain := { Chain.start with running := running, pending := some 0, reason := .stopped } } }

theorem witness_Fix_chain_start : (∀ b, ((chainStart b) : State).TakesFix (own 60) 0 0)
    ∧ ((chainStart true).cfg.entry 0).scene = none ∧ ((chainStart true).cfg.entry 0).chain = some 0
    ∧ ((chainStart true).cfg.word 0).trigger = .atDistance 5000 ∧ (chainStart true).scu.chain.running = true
    ∧ (chainStart false).scu.chain.running = false
    ∧ (chainStart true).scu.chain.pending = some 0 ∧ (chainStart true).cfg.nextWord 0 = none :=
  ⟨fun b => by cases b <;> exact takesFix_of (by decide +kernel) (by decide +kernel), by decide +kernel⟩

/-- A LOST state whose entry 0 has the scene action, with the given slots. -/
def sceneAt (a : SceneAction) (one two : Slot) : State :=
  { lostBefore { plain 414000 4750 1000 with scene := some a } with scu := { base.scu with slot1 := one, slot2 := two } }

/-- A HELD slot. -/
def heldSlot (x : Nat) : Slot := ⟨some x, .held, none, none, some .first⟩

theorem witness_Fix_claim_free : let s := sceneAt (.claim 14) Slot.free Slot.free
    s.TakesFix (own 60) 0 0 ∧ s.SlotsSound ∧ (s.cfg.entry 0).scene = some (.claim 14) ∧ s.scu.slot1.scene ≠ some 14
    ∧ s.scu.slot2.scene ≠ some 14 ∧ s.scu.slot1.state = .free ∧ s.ni.queue.length < 5
    ∧ (∀ p ∈ s.ptb, p.carries (.slot .one) = false)
    ∧ (∀ p ∈ s.ptb, ¬ (p.isVehicle = true ∧ ∃ v, p.data = some v
        ∧ (14 ∈ v.held ∨ (v.claiming = some 14 ∧ p.station < s.cfg.opt.station)))) := by
  refine ⟨takesFix_of (by decide +kernel) (by decide +kernel), by unfold State.SlotsSound; decide, by decide +kernel,
    by decide, by decide, by decide, by decide, by decide, fun p hp h => ?_⟩
  obtain ⟨h1, v, h2, h3⟩ := h
  have := claimable p hp v h2 h1
  rcases h3 with h3 | h3
  · exact this.1 h3
  · exact absurd (this.2 h3.1) (Nat.not_le.2 h3.2)

theorem witness_Fix_claim_blocked :
    let p : Peer := { heardPeer 9 with data := some { vehicleAt 2400 with held := [14] } }
    let s := { sceneAt (.claim 14) (heldSlot 20) Slot.free with ptb := [heardPeer 60, p] }
    s.TakesFix (own 60) 0 0 ∧ s.SlotsSound ∧ (s.cfg.entry 0).scene = some (.claim 14) ∧ s.scu.slot1.scene ≠ some 14
    ∧ s.scu.slot2.scene ≠ some 14 ∧ s.scu.slot1.state ≠ .free ∧ s.scu.slot2.state = .free ∧ s.ni.queue.length < 5
    ∧ (∀ q ∈ s.ptb, q.carries (.slot .two) = false) ∧ p ∈ s.ptb
    ∧ p.isVehicle = true ∧ p.data = some { vehicleAt 2400 with held := [14] }
    ∧ (∀ q ∈ s.ptb, p.station ≤ q.station) :=
  ⟨takesFix_of (by decide +kernel) (by decide +kernel), by unfold State.SlotsSound; decide, by decide +kernel⟩

theorem witness_Fix_claim_no_slot : let s := sceneAt (.claim 14) (heldSlot 20) (heldSlot 21)
    (s.TakesFix (own 60) 0 0 ∧ s.StopsSound ∧ (s.cfg.entry 0).scene = some (.claim 14) ∧ s.scu.slot1.scene ≠ some 14
      ∧ s.scu.slot2.scene ≠ some 14 ∧ s.scu.slot1.state ≠ .free ∧ s.scu.slot2.state ≠ .free)
    ∧ ((sceneAt (.claim 14) (heldSlot 20) (heldSlot 14)) : State).TakesFix (own 60) 0 0 ∧ (heldSlot 14).scene = some 14 :=
  ⟨⟨takesFix_of (by decide +kernel) (by decide +kernel), stopsSound_of (by decide), by decide +kernel⟩,
    takesFix_of (by decide +kernel) (by decide +kernel), by decide⟩

theorem witness_Fix_free : let s := sceneAt (.free 14) (heldSlot 20) (heldSlot 14)
    (s.TakesFix (own 60) 0 0 ∧ s.SlotsSound ∧ (s.cfg.entry 0).scene = some (.free 14) ∧ (s.scu.slot .two).scene = some 14
      ∧ (s.scu.slot .two).state = .held ∧ s.ni.queue.length < 5)
    ∧ (let u := sceneAt (.free 14) ⟨some 14, .claiming, some 1300, none, some .first⟩ Slot.free
      u.TakesFix (own 60) 0 0 ∧ u.SlotsSound ∧ (u.scu.slot .one).scene = some 14 ∧ (u.scu.slot .one).state = .claiming
        ∧ (u.cfg.entry 0).chain = none ∧ u.ni.queue = []) :=
  ⟨⟨takesFix_of (by decide +kernel) (by decide +kernel), by unfold State.SlotsSound; decide, by decide +kernel⟩,
    takesFix_of (by decide +kernel) (by decide +kernel), by unfold State.SlotsSound; decide, by decide +kernel⟩

/-- One pulse beyond the length of the dwell entry, which has no window. -/
theorem witness_EntryEnd_passed : let s := { base with
      rsq := { base.rsq with entry := 6, distance := 3000000, atEnd := true, dwell := some 3000 } }
    s.active = true ∧ s.rsq.known = true ∧ s.StopsSound ∧ s.DwellSound ∧ s.holdPending = true ∧ s.rsq.atEnd = true
    ∧ (s.entry.length + s.entry.window) * 1000 < s.rsq.distance + s.cfg.opt.odometer
    ∧ s.rsq.distance + s.cfg.opt.odometer - s.entry.length * 1000
      < (s.cfg.entry (s.cfg.successor s.rsq.entry)).length * 1000 ∧ s.stc.latch < 2 :=
  ⟨by decide, by decide, stopsSound_of (by decide), fun _ _ _ _ _ _ => rfl, by decide +kernel⟩

/-- The base state in the platform entry, its checks suppressed or not, at a distance in µm. -/
def atMarker (suppress : Bool) (distance : Nat) : State :=
  { base with
    cfg := { cfg with route := route.set 4 { cfg.entry 4 with suppress := suppress } }
    rsq := { base.rsq with entry := 4, distance := distance } }

theorem witness_EntryEnd_suppressed : let s := atMarker true 4099999
    s.active = true ∧ s.rsq.known = true ∧ s.StopsSound ∧ s.entry.marker ≠ 0 ∧ s.entry.suppress = true
    ∧ 1 ≤ (s.cfg.entry (s.cfg.successor s.rsq.entry)).length
    ∧ (212 = s.entry.marker ∧ s.rsq.atEnd = false ∧ s.rsq.distance + s.entry.window * 1000 < s.entry.length * 1000)
    ∧ (9 ≠ s.entry.marker ∧ s.rsq.lastMarker ≠ some 9) ∧ s.holdPending = true :=
  ⟨by decide, by decide, stopsSound_of (by decide), by decide +kernel⟩

/-- The pulse that reaches the length and the window exactly. -/
theorem witness_EntryEnd_missing : ∀ b, let s := atMarker b 4397500
    s.active = true ∧ s.rsq.known = true ∧ s.StopsSound ∧ s.DwellSound ∧ s.rsq.atEnd = false ∧ s.entry.marker ≠ 0
    ∧ s.entry.suppress = b ∧ (s.entry.length + s.entry.window) * 1000 = s.rsq.distance + s.cfg.opt.odometer
    ∧ s.rsq.distance + s.cfg.opt.odometer - s.entry.length * 1000
      < (s.cfg.entry (s.cfg.successor s.rsq.entry)).length * 1000 := by
  intro b
  have hd : (atMarker b 4397500).DwellSound := fun _ _ _ _ _ h => by cases b <;> cases h
  cases b <;> exact ⟨by decide, by decide, stopsSound_of (by decide), hd, by decide +kernel⟩

theorem witness_EntryEnd_unexpected : (base.active = true ∧ base.rsq.known = true ∧ base.StopsSound
      ∧ base.entry.marker = 0 ∧ base.rsq.lastMarker ≠ some 9 ∧ base.entry.suppress = false)
    ∧ ({ base with cfg := { cfg with route := route.set 0 { plain 414000 4750 1000 with suppress := true } } } :
      State).entry.suppress = true :=
  ⟨⟨by decide, by decide, stopsSound_of (by decide), by decide +kernel⟩, by decide +kernel⟩

/-- The guide floor is 200: at it the wire is present, below it lost. -/
theorem witness_ControlPeriod_guide : base.active = true ∧ base.dsc.timer = some 1010 ∧ base.dsc.channel = some 2
    ∧ base.cfg.opt.guideFloor ≤ 120 + 80 ∧ 120 + 79 < base.cfg.opt.guideFloor ∧ base.dsc.lossMode = .center
    ∧ (let s := { base with dsc := { base.dsc with channel := none } }
      s.active = true ∧ s.dsc.timer = some 1010 ∧ s.dsc.channel = none)
    ∧ (let s := { base with dsc := { base.dsc with channel := some 0, lossMode := .hold, guide := .offWire } }
      s.active = true ∧ s.dsc.timer = some 1010 ∧ s.dsc.channel = some 0 ∧ s.dsc.lossMode = .hold
        ∧ s.dsc.guide = .offWire)
    ∧ lost.active = true ∧ lost.dsc.timer = some 1010 ∧ lost.rsq.known = false := by decide +kernel

theorem witness_LookAhead_walk : base.holdPending = false ∧ base.lookAheadList.length = 4 := by decide +kernel

theorem witness_Authority_lost : lost.rsq.known = false := by decide

theorem witness_Authority_forcings : (atPlatform .alarm .held true).rsq.known = true ∧ base.parkAll.rsq.known = true
    ∧ base.parkAll.dsc.motion = .parked
    ∧ ({ base with dsc := { base.dsc with motion := .configFault } } : State).dsc.motion = .configFault := by
  decide +kernel

theorem witness_Authority_level1 : let s := { running with stc := { running.stc with latch := 1 } }
    s.rsq.known = true ∧ s.rm.vehicle = .secure ∧ s.stc.latch = 1 ∧ s.dsc.motion ≠ .parked
    ∧ s.dsc.motion ≠ .configFault ∧ s.sau.authority - (s.cfg.opt.serviceDecel * 10 + 999) / 1000 < 800 := by
  decide +kernel

/-- The base state with another seat 1. -/
def seated (k : Seat) : State := { base with rm := { base.rm with seats := base.rm.seats.set 0 k } }

/-- The hypotheses of a sample that changes seat 1 alone. -/
def SeatChange (s : State) (k : Seat) (raw : List SeatInput) : Prop :=
  s.parked = false ∧ s.rm.timer = some 1005 ∧ s.rm.seats.length = 8 ∧ s.rm.seats[0]? = some k
    ∧ (k.state = .opened ∨ k.state = .closing) ∧ s.rm.vehicle ≠ .checking
    ∧ k.changedFrom (k.sample s.cfg.opt.debounce (inputAt raw 0)) = true
    ∧ (∀ j, j < 8 → ∀ q, s.rm.seats[j]? = some q → j ≠ 0 → q.fitted = true →
        q.changedFrom (q.sample s.cfg.opt.debounce (inputAt raw j)) = false)

theorem seatChange_of (k : Seat) (raw : List SeatInput) (h : (decide (k.state = .opened ∨ k.state = .closing)
    && k.changedFrom (k.sample base.cfg.opt.debounce (inputAt raw 0))
    && !lockedSeat.changedFrom (lockedSeat.sample base.cfg.opt.debounce (inputAt raw 1))) = true) :
    SeatChange (seated k) k raw := by
  simp only [Bool.and_eq_true, decide_eq_true_eq, Bool.not_eq_true'] at h
  refine ⟨rfl, rfl, rfl, rfl, h.1.1, (fun e => nomatch (show Restraint.secure = .checking from e)), h.1.2,
    fun j hj q hq h0 hf => ?_⟩
  match j with
  | 0 => exact absurd rfl h0
  | 1 => cases hq; exact h.2
  | 2 | 3 | 4 | 5 | 6 | 7 => cases hq; exact absurd hf (by decide)
  | n + 8 => exact absurd hj (by omega)

/-- The debounce time is 20 ms: the run time of the changed input reaches it at this sample. -/
theorem witness_Samples_to_closing : SeatChange
    (seated { lockedSeat with state := .opened, bd := false, rawBd := some true, runBd := 15 })
    { lockedSeat with state := .opened, bd := false, rawBd := some true, runBd := 15 }
    (List.replicate 8 ⟨true, true⟩) := seatChange_of _ _ (by decide +kernel)

theorem witness_Samples_lk_alone : SeatChange
    (seated { lockedSeat with state := .opened, lk := false, bd := false, rawLk := some true, runLk := 15, rawBd := some false })
    { lockedSeat with state := .opened, lk := false, bd := false, rawLk := some true, runLk := 15, rawBd := some false }
    (⟨true, false⟩ :: List.replicate 7 ⟨true, true⟩) := seatChange_of _ _ (by decide +kernel)

theorem witness_Samples_closing_drop : SeatChange
    (seated { lockedSeat with state := .closing, confirm := some 1100, rawBd := some false, runBd := 15 })
    { lockedSeat with state := .closing, confirm := some 1100, rawBd := some false, runBd := 15 }
    (⟨true, false⟩ :: List.replicate 7 ⟨true, true⟩) := seatChange_of _ _ (by decide +kernel)

theorem witness_Samples_parked : let k : Seat := { lockedSeat with rawBd := some false, runBd := 15 }
    let s := (seated k).parkAll
    s.parked = true ∧ s.rm.timer = some 1005 ∧ s.rm.seats[0]? = some k ∧ k.fitted = true
    ∧ k.changedFrom (k.sample s.cfg.opt.debounce ⟨true, false⟩) = true := by decide +kernel

theorem witness_SeatLoss_announced : let s := { lifting with cfg := { cfg with opt := { opts with stopClip := 0 } } }
    s.active = true ∧ s.rm.vehicle = .secure ∧ s.spe.v0.queue.length < 3 ∧ s.spe.v0.state = .idle
    ∧ s.cfg.opt.stopClip = 0 := by decide +kernel

/-- A LOCKED seat whose LK drops at this sample, in ALARM, with RESTRAINT active and with it withdrawn. -/
theorem witness_SeatLoss_in_alarm : let k : Seat := { lockedSeat with rawLk := some false, runLk := 15 }
    let raw : List SeatInput := ⟨false, true⟩ :: List.replicate 7 ⟨true, true⟩
    (∀ causes, causes = [Cause.restraint] ∨ causes = [] →
      let s := alarmed 2 causes k
      s.active = true ∧ s.rm.timer = some 1005 ∧ s.StopsSound ∧ s.DriveSafe ∧ s.rm.vehicle = .alarm
      ∧ s.rm.seats[0]? = some k)
    ∧ k.state = .locked ∧ k.changedFrom (k.sample opts.debounce (inputAt raw 0)) = true
    ∧ (k.sample opts.debounce (inputAt raw 0)).lk = false := by
  refine ⟨fun causes h => ?_, by decide +kernel⟩
  rcases h with h | h <;> subst h <;>
    exact ⟨by decide, by decide, stopsSound_of (by decide), by unfold State.DriveSafe; decide, by decide, rfl⟩

/-- The last seat to lock, and one with another seat still OPEN. -/
theorem witness_SeatTimers_alarm : let k : Seat := { lockedSeat with state := .closing, confirm := some 1300 }
    (∀ latch, latch = 0 ∨ latch = 2 → let s := alarmed latch [] k
      s.active = true ∧ s.rm.seats[1 - 1]? = some k ∧ s.rm.vehicle = .alarm
      ∧ (∀ q ∈ s.rm.seats.set 0 { k with state := .locked, confirm := none }, q.state = .notFitted ∨ q.state = .locked))
    ∧ k.state = .closing ∧ k.lk = true ∧ k.bd = true ∧ k.confirm = some 1300
    ∧ (let s := alarmed 0 [] { lockedSeat with state := .opened }
      let u := { s with rm := { s.rm with seats := s.rm.seats.set 1 k } }
      u.active = true ∧ u.rm.seats[2 - 1]? = some k ∧ u.rm.vehicle = .alarm
      ∧ ∃ q ∈ u.rm.seats.set 1 { k with state := .locked, confirm := none }, q.state ≠ .notFitted ∧ q.state ≠ .locked) := by
  refine ⟨fun latch h => ?_, by decide⟩
  rcases h with h | h <;> subst h <;> decide

/-- A chain at its first word of the given trigger, the second an AFTER-TIME word, scene 14 HELD. -/
def chained (t : Trigger) (reason : WaitReason) (latch : Nat) (tracker : List Track) : State :=
  { holding with
    cfg := { cfg with words := [⟨14, 1, t, true, false, none⟩, ⟨14, 2, .afterTime 100, false, false, none⟩] }
    stc := { base.stc with latch := latch }
    scu := { holding.scu with
      tracker := tracker, nextRef := 1
      chain := { Chain.start with
        running := true, pending := some 0, reason := reason, timer := some 1005, watched := some 0, distance := 997500 } } }

/-- The next word of such a chain is an AFTER-TIME word. -/
theorem chained_next (t : Trigger) (reason : WaitReason) (latch : Nat) (tracker : List Track) :
    (chained t reason latch tracker).cfg.LastOrTimed 0 :=
  .inr ⟨1, 100, rfl, rfl, by decide⟩

theorem witness_PendingTimer_next : let s := chained (.afterTime 5) .trigger 0 []
    s.scu.chain.running = true ∧ s.scu.chain.reason = .trigger ∧ s.scu.chain.pending = some 0
    ∧ s.scu.chain.timer = some 1005 ∧ (s.cfg.word 0).trigger = .afterTime 5 ∧ s.stc.latch = 0
    ∧ s.scu.holdsScene (s.cfg.word 0).scene = true ∧ s.scu.tracker.length < 8 ∧ s.ni.queue.length < 5 := by
  decide +kernel

/-- The pulse that brings the chain distance to 1 m exactly. -/
theorem witness_PendingTimer_distance : let s := chained (.atDistance 1000) .trigger 0 []
    s.active = true ∧ s.rsq.known = true ∧ s.rsq.atEnd = false ∧ s.dsc.guide ≠ .offWire
    ∧ s.rsq.distance + s.cfg.opt.odometer < s.entry.length * 1000 ∧ s.scu.chain.running = true
    ∧ s.scu.chain.reason = .trigger ∧ s.scu.chain.pending = some 0 ∧ (s.cfg.word 0).trigger = .atDistance 1000
    ∧ 1000 * 1000 = min 4294967295 (s.scu.chain.distance + s.cfg.opt.odometer) := by decide +kernel

theorem witness_PendingTimer_done : let s := chained .onDone .trigger 0 [record .sent]
    s.Receives ⟨52, 500, .cuest ⟨14, 1, .done, none⟩⟩ ∧ s.cfg.station 14 = 52
    ∧ s.scu.recordOf 14 1 = some (record .sent) ∧ (record .sent).state = .sent ∧ s.scu.chain.running = true
    ∧ s.scu.chain.reason = .trigger ∧ s.scu.chain.pending = some 0 ∧ (s.cfg.word 0).trigger = .onDone
    ∧ s.scu.chain.watched = some (record .sent).ref := ⟨receives_of (by decide +kernel), by decide +kernel⟩

/-- The same chain with its ON-DONE word the last, broken by any other end or by the timeout. -/
theorem witness_PendingTimer_broken : let s := { chained .onDone .trigger 0 [record .sent] with
      cfg := { cfg with words := [⟨14, 1, .onDone, false, false, none⟩] } }
    s.Receives ⟨52, 500, .cuest ⟨14, 1, .busy, none⟩⟩ ∧ s.cfg.nextWord 0 = none ∧ (s.cfg.word 0).trigger = .onDone
    ∧ s.scu.recordRef 0 = some (record .sent) ∧ (record .sent).timer = some 1150 ∧ s.scu.chain.watched = some 0 :=
  ⟨receives_of (by decide +kernel), by decide +kernel⟩

theorem witness_PendingTimer_resume : let s := chained (.afterTime 5) .stopped 2 []
    s.Receives ⟨60, 500, .resume⟩ ∧ s.rsq.atEnd = false ∧ 0 < s.stc.latch ∧ (∀ c ∈ s.stc.causes, c.latched = true)
    ∧ s.scu.chain.running = true ∧ s.scu.chain.reason = .stopped ∧ s.scu.chain.pending = some 0 :=
  ⟨receives_of (by decide +kernel), by decide +kernel⟩

/-- Eight records, the first of them timed out. -/
theorem witness_PendingTimer_tracker_full :
    let u := chained (.afterTime 5) .trackerFull 0
      (record .timedOut :: (List.range 7).map fun i => { record .queued with ref := i + 1, cue := i + 10 })
    let s := { u with scu := { u.scu with chain := { u.scu.chain with watched := some 7 } } }
    s.scu.recordRef 0 = some (record .timedOut) ∧ (record .timedOut).state = .timedOut
    ∧ (record .timedOut).timer = some 1150 ∧ s.scu.chain.watched ≠ some 0 ∧ s.scu.chain.running = true
    ∧ s.scu.chain.reason = .trackerFull ∧ s.scu.chain.pending = some 0 ∧ s.scu.tracker.length = 8
    ∧ s.scu.holdsScene (s.cfg.word 0).scene = true := by decide +kernel

/-- The base state following station 50, silent at 1,300 ms, with SYNCs of stations 49 and 52 at 901 ms. -/
def candidates : State :=
  { holding with
    sck := { base.sck with reference := some 50, priority := some 2, lastSync := some 900, state := .locked }
    ptb := [heardPeer 4, { heardPeer 52 with lastSync := some 901 }, { heardPeer 49 with lastSync := some 901 },
      { heardPeer 48 with lastSync := some 900 }] }

theorem witness_SilentReference_held : candidates.active = true ∧ candidates.PeersSound
    ∧ candidates.sck.reference = some 50 ∧ candidates.sck.lastSync = some 900
    ∧ max (candidates.now + 0) ((900 + 400) * 1000) = 1300000
    ∧ candidates.scu.heldScenes = [] ++ 14 :: []
    ∧ candidates.LastSync 1300000 (candidates.cfg.station 14) 901 := by
  unfold State.PeersSound State.LastSync; decide +kernel

/-- With no scene HELD, station 49 is the lowest live one: 48 was last heard 400 ms before. -/
theorem witness_SilentReference_lowest : let s := { candidates with scu := base.scu }
    s.active = true ∧ s.PeersSound ∧ s.scu.heldScenes = [] ∧ s.LastSync 1300000 49 901
    ∧ (∀ c n, s.LastSync 1300000 c n → 49 ≤ c) := by
  refine ⟨by decide, by unfold State.PeersSound; decide, by decide, by unfold State.LastSync; decide, ?_⟩
  rintro c n ⟨h1, ⟨p, hp, rfl, hn⟩, h2⟩
  have h : ∀ p ∈ candidates.ptb, isFixed p.station = true → 49 ≤ p.station ∨ p.lastSync = some 900 := by decide
  rcases h p hp h1 with h | h
  · exact h
  · rw [h] at hn; cases hn; exact absurd h2 (by decide)

/-- Scene 14 is HELD and names station 52, a priority-1 candidate; station 50 is the reference. -/
theorem witness_SyncSteersTheClock_held : candidates.Receives ⟨52, 500, .sync 0 14⟩ ∧ candidates.PeersSound
    ∧ candidates.sck.reference = some 50 ∧ candidates.FirstHeld 1000000 52 52 :=
  ⟨receives_of (by decide +kernel), by unfold State.PeersSound; decide, rfl,
    [], 14, [], by decide, by decide +kernel, .inl rfl, fun _ h => nomatch h⟩

theorem witness_SyncSteersTheClock_unheeded : candidates.Receives ⟨49, 500, .sync 0 0⟩ ∧ candidates.PeersSound
    ∧ candidates.sck.reference = some 50 ∧ ¬ candidates.FirstHeld 1000000 49 49 := by
  refine ⟨receives_of (by decide +kernel), by unfold State.PeersSound; decide, rfl, ?_⟩
  rintro ⟨before, x, after, h, hx, -⟩
  have hm : ∀ y ∈ candidates.scu.heldScenes, candidates.cfg.station y ≠ 49 := by decide +kernel
  exact hm x (by rw [h]; simp) hx

/-- With no reference the candidate of the held scene is taken before the SYNC's own station 49. -/
theorem witness_SyncSteersTheClock_other_held : let s := { candidates with sck := base.sck }
    s.Receives ⟨49, 500, .sync 0 0⟩ ∧ s.PeersSound ∧ s.sck.reference = none ∧ s.FirstHeld 1000000 49 52
    ∧ s.LastSync 1000000 52 901 := by
  have h : ({ candidates with sck := base.sck } : State).LastSync 1000000 52 901 := by unfold State.LastSync; decide
  exact ⟨receives_of (by decide +kernel), by unfold State.PeersSound; decide, rfl,
    ⟨[], 14, [], by decide, by decide +kernel, .inr ⟨901, h⟩, fun _ h => nomatch h⟩, h⟩

/-- With no reference and no HELD scene station 48 is the lowest live one, at its own SYNC and at one of station 52. -/
theorem witness_SyncSteersTheClock_lowest : let s := { candidates with sck := base.sck, scu := base.scu }
    s.Receives ⟨48, 500, .sync 0 0⟩ ∧ s.Receives ⟨52, 500, .sync 0 0⟩ ∧ s.PeersSound ∧ s.sck.reference = none
    ∧ (∀ src c, ¬ s.FirstHeld 1000000 src c) ∧ s.LastSync 1000000 48 900
    ∧ (∀ c n, s.LastSync 1000000 c n → 48 ≤ c) := by
  refine ⟨receives_of (by decide +kernel), receives_of (by decide +kernel), by unfold State.PeersSound; decide, rfl,
    ?_, by unfold State.LastSync; decide, ?_⟩
  · rintro src c ⟨before, x, after, h, -⟩
    exact absurd (h.symm.trans (by decide : _ = [])) (by simp)
  · rintro c n ⟨h1, -⟩
    simp [isFixed] at h1
    omega

/-- The base state with voice 1 as given, at the place of a clip of 1,000 samples that loops from 200. -/
def voiced (v : Voice) : State :=
  { base with cfg := { cfg with clips := List.replicate 3 ⟨5000, 1000, 200, 256⟩ }, spe := { base.spe with v1 := v } }

theorem witness_SamplePeriod_playing : let s := fun v => voiced v
    let v : Voice := { voiceIn .playing with position := 999 }
    (s v).active = true ∧ ((s v).spe.voice 1).current = some ⟨3, none, 256, 0, 0, .both, .route⟩
    ∧ ((s v).cfg.clip 3).length ≤ v.position + 1
    ∧ (v.primed = true ∧ v.buffer = 1 :: [0] ∧ v.loops = 0)
    ∧ ({ v with loops := 2 } : Voice).loops ≠ 0
    ∧ ({ v with primed := false } : Voice).primed = false ∧ ({ v with buffer := [] } : Voice).buffer = []
    ∧ v.queue = ⟨2, none, 256, 0, 0, .both, .route⟩ :: [] := by decide +kernel

/-- The last sample of a fade-out of 20 samples a segment. -/
theorem witness_SamplePeriod_fading : let v : Voice := { voiceIn .fading with fade := some ⟨true, 0, 19⟩, queue := [] }
    (voiced v).active = true ∧ v.state = .fading ∧ v.primed = true ∧ v.buffer ≠ [] ∧ v.queue = []
    ∧ 2 * ((voiced v).cfg.fade 0).duration = 20 := by decide +kernel

/-- A WAITING voice whose start is at the given show time; the clock reads 1,000,000. -/
def starting (start loops : Nat) (primed : Bool) : State :=
  voiced { voiceIn .waiting with
    current := some ⟨3, some start, 256, loops, 0, .both, .cue⟩, primed := primed }

theorem witness_SamplePeriod_waiting :
    (∀ start loops b, (starting start loops b).active = true ∧ ((starting start loops b).spe.voice 1).state = .waiting)
    ∧ (base.elapse 0).showTime = 1000000
    ∧ (timeDiff 1000001 1000000 = 1 ∧ timeDiff 1000000 1000000 = 0 ∧ timeDiff 999000 1000000 = -1000)
    ∧ (1000 * 32000 / 1000000 = 32 ∧ 31 * 32000 / 1000000 = 0 ∧ 32 * 32000 / 1000000 = 1)
    ∧ base.cfg.opt.soundLate * 1000 = 250000 ∧ (1000 ≤ 40000 * 32000 / 1000000) :=
  ⟨fun _ _ _ => ⟨rfl, rfl⟩, by decide +kernel⟩

/-- Voice 3's transfer completes while voices 1 and 2 wait, and while none waits. -/
theorem witness_Transfer_waiting : let v : Voice := { voiceIn .playing with refill := .requested }
    let s := { transferring true with spe := { (transferring true).spe with v1 := v, v2 := v, lastServed := 1 } }
    s.powered = true ∧ s.spe.link = some ⟨3, 3, List.range 128, true⟩
    ∧ (s.spe.voice ((s.spe.lastServed + 1) % 4)).refill = .requested
    ∧ (∀ i, i < 4 → ((transferring true).spe.voice i).refill ≠ .requested) := by decide +kernel

/-- Voice 3 is served with fewer than 128 samples in its buffer and more of its clip to play: it asks again. -/
theorem witness_Transfer_asks_again : let v : Voice := { voiceIn .playing with buffer := [] }
    let s := { transferring false with spe := { (transferring false).spe with v3 := v } }
    s.powered = true ∧ s.spe.link = some ⟨3, 3, List.range 128, false⟩
    ∧ (v.buffer ++ List.replicate 128 (0 : Int)).length ≤ 128 ∧ v.position = 0 ∧ v.loops = 0
    ∧ v.current = some ⟨3, none, 256, 0, 0, .both, .route⟩ ∧ (s.cfg.clip 3).length = 96000 := by decide +kernel

end Sys2Proof.Tests
end

namespace Sys2Proof.Machine

/-! ### What the events of a ride keep -/

/-- The Route Sequencer's place: everything but the state of the hold and the chain last started. -/
def Rsq.place (r : Rsq) : Rsq := { r with released := false, dwell := none, chainStart := none }

/-- The DSC without its motion state, speed command and brake line. -/
def Dsc.gauges (d : Dsc) : Dsc := { d with motion := .lost, command := 0, brakeReleased := false }

theorem Dsc.timer_of_gauges {d e : Dsc} (h : d.gauges = e.gauges) : d.timer = e.timer := (congrArg Dsc.timer h :)

/-- In HELD at a KNOWN position a DWELL hold is released or timed (R19), whether the part acts or not. -/
def State.Dwells (s : State) : Prop :=
  s.rsq.known = true → s.dsc.motion = .held → s.rsq.released = false →
    ∀ t, s.entry.hold = .dwell t → s.rsq.dwell.isSome = true

/-- Motion state, measured values, position and timers are untouched. -/
def State.SameRide (s t : State) : Prop :=
  t.powered = s.powered ∧ t.cfg = s.cfg ∧ t.cfs.load = s.cfs.load ∧ t.dsc.motion = s.dsc.motion
    ∧ t.dsc.gauges = s.dsc.gauges ∧ t.rm.timer = s.rm.timer ∧ t.rsq = s.rsq

/-- A change that leaves the place, the measured values and the timers, keeps an acting part acting, neither
enters nor leaves LOST, and leaves no DWELL hold behind untimed. -/
structure State.Rides (s t : State) : Prop where
  powered : t.powered = s.powered
  cfg : t.cfg = s.cfg
  load : t.cfs.load = s.cfs.load
  place : t.rsq.place = s.rsq.place
  gauges : t.dsc.gauges = s.dsc.gauges
  sample : t.rm.timer = s.rm.timer
  acting : s.dsc.motion ≠ .parked ∧ s.dsc.motion ≠ .configFault → t.dsc.motion ≠ .parked ∧ t.dsc.motion ≠ .configFault
  lost : t.dsc.motion = .lost ↔ s.dsc.motion = .lost
  released : s.rsq.released = true → t.rsq.released = true
  dwells : s.Dwells → t.Dwells

theorem State.SameRide.rides {s t : State} (h : s.SameRide t) : s.Rides t := by
  obtain ⟨hp, hcfg, hcfs, hm, hdsc, hrm, hrsq⟩ := h
  constructor <;> simp_all [State.Dwells, State.entry]

theorem State.SameRide.refl (s : State) : s.SameRide s := by simp [State.SameRide]

theorem State.SameRide.trans {s t u : State} (h : s.SameRide t) (k : t.SameRide u) : s.SameRide u := by
  obtain ⟨hp, hcfg, hcfs, hm, hdsc, hrm, hrsq⟩ := h
  obtain ⟨kp, kcfg, kcfs, km, kdsc, krm, krsq⟩ := k
  exact ⟨kp.trans hp, kcfg.trans hcfg, kcfs.trans hcfs, km.trans hm, kdsc.trans hdsc, krm.trans hrm, krsq.trans hrsq⟩

theorem State.Rides.refl (s : State) : s.Rides s := (State.SameRide.refl s).rides

theorem State.Rides.trans {s t u : State} (h : s.Rides t) (k : t.Rides u) : s.Rides u where
  powered := k.powered.trans h.powered
  cfg := k.cfg.trans h.cfg
  load := k.load.trans h.load
  place := k.place.trans h.place
  gauges := k.gauges.trans h.gauges
  sample := k.sample.trans h.sample
  acting := fun a => k.acting (h.acting a)
  lost := k.lost.trans h.lost
  released := fun a => k.released (h.released a)
  dwells := fun a => k.dwells (h.dwells a)

section
variable {s t : State} (h : s.Rides t)
include h

theorem State.Rides.known : t.rsq.known = s.rsq.known :=
  (congrArg Rsq.known h.place :)
theorem State.Rides.entryIndex : t.rsq.entry = s.rsq.entry :=
  (congrArg Rsq.entry h.place :)
theorem State.Rides.distance : t.rsq.distance = s.rsq.distance :=
  (congrArg Rsq.distance h.place :)
theorem State.Rides.atEnd : t.rsq.atEnd = s.rsq.atEnd :=
  (congrArg Rsq.atEnd h.place :)
theorem State.Rides.lastMarker : t.rsq.lastMarker = s.rsq.lastMarker :=
  (congrArg Rsq.lastMarker h.place :)
theorem State.Rides.effects : t.rsq.effects = s.rsq.effects :=
  (congrArg Rsq.effects h.place :)
theorem State.Rides.timer : t.dsc.timer = s.dsc.timer := Dsc.timer_of_gauges h.gauges
theorem State.Rides.entry : t.entry = s.entry := by rw [State.entry, State.entry, h.cfg, h.entryIndex]

theorem State.Rides.active (ha : s.active = true) : t.active = true := by
  have := h.acting
  simp only [State.active, Bool.and_eq_true, decide_eq_true_eq, h.powered, h.load] at ha ⊢
  exact ⟨⟨ha.1.1, (this ⟨ha.1.2, ha.2⟩).1⟩, (this ⟨ha.1.2, ha.2⟩).2⟩

end

/-! ### Motion -/

@[simp] theorem State.setMotion_motion (m : Motion) (s : State) : (s.setMotion m).dsc.motion = m := by
  simp only [State.setMotion, State.evalRelease_frame, State.requestPos_frame, State.setDsc_dsc, Dsc.enter]
  split <;> rfl

@[simp] theorem State.setMotion_gauges (m : Motion) (s : State) : (s.setMotion m).dsc.gauges = s.dsc.gauges := by
  simp only [State.setMotion, State.evalRelease_frame, State.requestPos_frame, State.setDsc_dsc, Dsc.enter]
  split <;> rfl

@[simp] theorem State.setMotion_sample (m : Motion) (s : State) : (s.setMotion m).rm.timer = s.rm.timer := by
  simp [State.setMotion, State.evalRelease]

/-- A change to a motion state other than HELD between the states of a part that knows its place. -/
theorem State.setMotion_rides {m : Motion} {s : State} (hs : s.dsc.motion ≠ .lost)
    (hm : m = .running ∨ m = .stopping ∨ m = .braked) : s.Rides (s.setMotion m) := by
  constructor <;> simp [State.Dwells] <;> rcases hm with rfl | rfl | rfl <;> simp [hs]

theorem State.startDwell_rsq (s : State) :
    s.startDwell.rsq = s.rsq ∨ s.startDwell.rsq = { s.rsq with released := true }
      ∨ ∃ d, s.startDwell.rsq = { s.rsq with dwell := some d } := by
  simp only [State.startDwell]
  split
  · split
    · split <;> simp
    · simp
  all_goals simp

/-- After the start of the dwell timer no DWELL hold is left untimed (R19). -/
theorem State.startDwell_dwells (s : State) : s.startDwell.Dwells := by
  intro hk _ hr t ht
  have e : s.startDwell.rsq.known = s.rsq.known ∧ s.startDwell.entry = s.entry := by
    rcases s.startDwell_rsq with e | e | ⟨d, e⟩ <;> simp [State.entry, e]
  rw [e.2] at ht
  rw [e.1] at hk
  simp only [State.startDwell, ht, hk, Bool.true_and] at hr ⊢
  cases hd : s.rsq.dwell <;> cases hb : s.rsq.released <;> simp_all; split at hr <;> simp_all

theorem State.startDwell_rides (s : State) : s.Rides s.startDwell := by
  have hd := s.startDwell_dwells
  constructor
  case dwells => exact fun _ => hd
  case place => rcases s.startDwell_rsq with e | e | ⟨d, e⟩ <;> simp [Rsq.place, e]
  case released => rcases s.startDwell_rsq with e | e | ⟨d, e⟩ <;> simp [e]
  all_goals simp

/-- HELD, or BRAKED at latch level 2, is entered by a part that knows its place (R89). -/
theorem State.enterHeld_rides {s : State} (hs : s.dsc.motion ≠ .lost) : s.Rides s.enterHeld := by
  simp only [State.enterHeld]
  split
  · constructor <;> simp [State.Dwells, hs]
  · have h := (s.setMotion .held).startDwell_rides
    have hd := (s.setMotion .held).startDwell_dwells
    constructor
    case dwells => exact fun _ => hd
    case place => simpa using h.place
    case released => simpa using h.released
    all_goals simp [hs]

theorem State.driveRise_rides (level : Nat) (s : State) : s.Rides (s.driveRise level) := by
  simp only [State.driveRise]
  split
  · next hm =>
    have hs : s.dsc.motion ≠ .lost := by simp [hm]
    split
    · exact State.setMotion_rides hs (by simp)
    · split
      · exact (State.setMotion_rides hs (by simp)).trans (State.enterHeld_rides (by simp))
      · exact State.setMotion_rides hs (by simp)
  · next hm => split <;> exact State.setMotion_rides (by simp [hm]) (by simp)
  · next hm =>
    split
    · exact State.setMotion_rides (by simp [hm]) (by simp)
    · exact .refl s
  all_goals exact .refl s

theorem State.driveFall_rides (level : Nat) (s : State) : s.Rides (s.driveFall level) := by
  simp only [State.driveFall]
  split
  · next hm =>
    split
    · exact State.setMotion_rides (by simp [hm]) (by simp)
    · exact .refl s
  · next hm =>
    split
    · exact State.enterHeld_rides (by simp [hm])
    · exact .refl s
  all_goals exact .refl s

theorem State.periodTransition_rides (s : State) : s.Rides s.periodTransition := by
  simp only [State.periodTransition]
  split
  · next hm =>
    split
    · exact State.setMotion_rides (by simp [hm]) (by simp)
    · exact .refl s
  · next hm =>
    split
    · exact State.enterHeld_rides (by simp [hm])
    · exact .refl s
  · next hm =>
    split
    · exact State.enterHeld_rides (by simp [hm])
    · exact .refl s
  · next hm =>
    split
    · exact State.enterHeld_rides (by simp [hm])
    · exact .refl s
  all_goals exact .refl s

/-! ### The authority -/

theorem State.handAuthority_sameRide (a : Nat) (src : LimitSource) (s : State) : s.SameRide (s.handAuthority a src) := by
  simp [State.SameRide, State.handAuthority, Dsc.gauges]

theorem State.forceAuthority_sameRide (s : State) : s.SameRide s.forceAuthority := s.handAuthority_sameRide 0 .forced

theorem State.capLowering_sameRide (cap : Nat) (s : State) : s.SameRide (s.capLowering cap) := by
  simp only [State.capLowering]
  split
  · exact s.handAuthority_sameRide ..
  · exact .refl s

theorem State.authorityRise_sameRide (was level : Nat) (s : State) : s.SameRide (s.authorityRise was level) := by
  simp only [State.authorityRise]
  split
  · exact s.forceAuthority_sameRide
  · split
    · exact s.handAuthority_sameRide ..
    · exact .refl s

/-! ### Stops -/

theorem State.notifyRise_rides (was level : Nat) (s : State) : s.Rides (s.notifyRise was level) :=
  ((s.authorityRise_sameRide was level).rides.trans (State.driveRise_rides level _)).trans
    (State.SameRide.rides (by simp [State.SameRide, State.notifyRise]))

theorem State.raiseLatch_rides (level : Nat) (c : StopCause) (o : Nat) (s : State) :
    s.Rides (s.raiseLatch level c o) := by
  simp only [State.raiseLatch]
  split
  · exact (State.SameRide.rides (t := s.setStc _) (by simp [State.SameRide])).trans (State.notifyRise_rides ..)
  · exact .refl s

theorem State.frameLevel_rides (level : Nat) (c : StopCause) (o : Nat) (s : State) :
    s.Rides (s.frameLevel level c o) := by
  simp only [State.frameLevel]
  split
  · exact (State.SameRide.rides (t := s.writeIncident ..) (by simp [State.SameRide])).trans (State.raiseLatch_rides ..)
  · exact .refl s

theorem State.levelRises_rides (c : Cause) (s : State) : s.Rides (s.levelRises c) :=
  ((State.SameRide.rides (t := (s.putFrame (.stop c.level c.code)).1.requestPos true) (by simp [State.SameRide])).trans
    (State.raiseLatch_rides c.level (.local_ c) s.cfg.opt.station _)).trans
    (State.SameRide.rides (by simp [State.SameRide, State.levelRises]))

theorem State.raise_rides (c : Cause) (s : State) : s.Rides (s.raise c) := by
  simp only [State.raise]
  split
  · exact .refl s
  · have h := State.SameRide.rides (s := s) (t := State.writeIncident (.local_ c) c.level s.cfg.opt.station
      (s.setStc { s.stc with causes := s.stc.causes ++ [c] })) (by simp [State.SameRide])
    split
    · exact h.trans (State.levelRises_rides ..)
    · exact h

end Sys2Proof.Machine

namespace Sys2Proof.Machine

/-! ### The table, the slots and the restraints -/

theorem State.withdraw_sameRide (c : Cause) (s : State) : s.SameRide (s.withdraw c) := by simp [State.SameRide]

theorem State.foreignAfter_rides (before : Bool) (s : State) : s.Rides (s.foreignAfter before) := by
  simp only [State.foreignAfter]
  split
  · exact s.raise_rides _
  · split
    · exact (s.withdraw_sameRide _).rides
    · exact .refl s

theorem State.addPeer_rides (station : Nat) (foreign : Bool) (s : State) : s.Rides (s.addPeer station foreign) := by
  have h := State.SameRide.rides (s := s) (t := s.makeRoom) (by simp [State.SameRide])
  simp only [State.addPeer]
  split
  · exact (h.trans (State.SameRide.rides (t := s.makeRoom.setPtb _) (by simp [State.SameRide]))).trans
      (State.foreignAfter_rides ..)
  · exact h

theorem State.hearForeign_rides (station : Nat) (s : State) : s.Rides (s.hearForeign station) := by
  simp only [State.hearForeign]
  split
  · exact s.addPeer_rides station true
  · next q _ =>
    have h := (State.SameRide.rides (s := s) (t := s.mapPeer station fun p =>
      { p with lastHeard := s.ms, stale := false, foreign := true, lastSync := none, data := none })
      (by simp [State.SameRide])).trans (State.foreignAfter_rides s.foreignSeen _)
    split
    · exact h.trans (State.SameRide.rides (by simp [State.SameRide]))
    · exact h

theorem State.posHeard_rides (src : Nat) (held : List Nat) (claiming : Option Nat) (k : SlotId) (s : State) :
    s.Rides (s.posHeard src held claiming k) := by
  simp only [State.posHeard]
  split
  · exact .refl s
  · split
    · exact .refl s
    · split
      · exact State.SameRide.rides (by simp [State.SameRide])
      · exact .refl s
    · split
      · exact State.SameRide.rides (by simp [State.SameRide])
      · exact .refl s
    · split
      · exact (State.SameRide.rides (t := s.freeSlot false k) (by simp [State.SameRide])).trans
          (State.raise_rides ..)
      · exact .refl s

theorem State.hearOwn_rides (src : Nat) (s : State) : s.Rides (s.hearOwn src) :=
  State.SameRide.rides (by simp [State.SameRide])

theorem State.hear_rides (src : Nat) (s : State) : s.Rides (s.hear src) :=
  State.SameRide.rides (by simp [State.SameRide])

theorem State.hearPos_rides (src : Nat) (b : PosBody) (s : State) : s.Rides (s.hearPos src b) :=
  (((s.hearOwn_rides src).trans (State.posHeard_rides src b.held b.claiming .one _)).trans
    (State.posHeard_rides src b.held b.claiming .two _)).trans
    (State.SameRide.rides (by simp [State.SameRide, State.hearPos]))

theorem State.claimAction_rides (x : Nat) (s : State) : s.Rides (s.claimAction x) := by
  simp only [State.claimAction]
  split
  · exact .refl s
  · split
    · exact s.raise_rides _
    · split <;> exact State.SameRide.rides (by simp [State.SameRide])

theorem State.sceneAction_rides (s : State) : s.Rides s.sceneAction := by
  simp only [State.sceneAction]
  split
  · exact s.claimAction_rides _
  · exact State.SameRide.rides (by simp [State.SameRide])
  · exact .refl s

theorem State.chainAction_rides (s : State) : s.Rides s.chainAction := by
  obtain ⟨c, h⟩ : ∃ c, s.chainAction.rsq = { s.rsq with chainStart := c } := by
    simp only [State.chainAction]
    split
    · next i _ => exact ⟨some i, by simp⟩
    · exact ⟨s.rsq.chainStart, rfl⟩
  constructor <;> simp [h, Rsq.place, State.Dwells, State.entry]

theorem State.evalRelease_sameRide (s : State) : s.SameRide s.evalRelease := by
  simp [State.SameRide, State.evalRelease]

theorem State.setVehicle_sameRide (x : Restraint) (s : State) : s.SameRide (s.setVehicle x) := by
  simp only [State.setVehicle]
  split
  · exact .refl s
  · have h : s.SameRide ((s.setRm { s.rm with vehicle := x }).requestPos true) := by simp [State.SameRide]
    split
    · exact (h.trans (State.forceAuthority_sameRide _)).trans (State.evalRelease_sameRide _)
    · exact h.trans (State.evalRelease_sameRide _)

theorem State.announcementEnd_sameRide (s : State) : s.SameRide s.announcementEnd := by simp [State.SameRide]

theorem State.play_rides (i : Nat) (r : PlayRequest) (s : State) : s.Rides (s.play i r) :=
  State.SameRide.rides (by simp [State.SameRide])

theorem State.enterAlarm_rides (s : State) : s.Rides s.enterAlarm := by
  have h := (s.setVehicle_sameRide .alarm).rides.trans
    (State.SameRide.rides (t := (s.setVehicle .alarm).settled) (by simp [State.SameRide]))
  exact State.inEitherOrder_of (P := s.Rides) _ _ _
    ((h.trans (State.raise_rides .restraint _)).trans (State.play_rides ..))
    ((h.trans (State.play_rides ..)).trans (State.raise_rides .restraint _))

theorem State.checkingTest_sameRide (s : State) : s.SameRide s.checkingTest := by
  simp only [State.checkingTest]
  split
  · exact .refl s
  · split
    · exact s.setVehicle_sameRide _
    · split
      · exact s.setVehicle_sameRide _
      · exact .refl s

theorem State.alarmTest_sameRide (level : Nat) (s : State) : s.SameRide (s.alarmTest level) := by
  simp only [State.alarmTest]
  split
  · exact (s.setVehicle_sameRide _).trans (State.announcementEnd_sameRide _)
  · exact .refl s

theorem State.seatTest_sameRide (s : State) : s.SameRide s.seatTest := by
  simp only [State.seatTest]
  split
  · exact s.checkingTest_sameRide
  · split
    · exact (s.withdraw_sameRide _).trans (State.alarmTest_sameRide ..)
    · exact .refl s
  all_goals exact .refl s

theorem State.seatLoss_rides (s : State) : s.Rides s.seatLoss := by
  simp only [State.seatLoss]
  split
  · exact s.enterAlarm_rides
  · exact s.raise_rides _
  all_goals exact .refl s

theorem State.setSeat_sameRide (i : Nat) (k : Seat) (s : State) : s.SameRide (s.setSeat i k) := by
  simp [State.SameRide, State.setSeat]

theorem State.seatChange_rides (i : Nat) (s : State) : s.Rides (s.seatChange i) := by
  simp only [State.seatChange]
  split
  · exact .refl s
  · split
    · exact ((s.setSeat_sameRide ..).trans (State.seatTest_sameRide _)).rides
    · exact (s.setSeat_sameRide ..).rides
  · split
    · exact .refl s
    · exact ((s.setSeat_sameRide ..).trans (State.seatTest_sameRide _)).rides
  · split
    · exact .refl s
    · exact ((s.setSeat_sameRide ..).rides.trans (State.seatLoss_rides _)).trans (State.seatTest_sameRide _).rides
  · split
    · exact (s.setSeat_sameRide ..).rides
    · exact .refl s

theorem State.seatChanges_rides (l : List Nat) (s : State) : s.Rides (s.seatChanges l) := by
  induction l generalizing s with
  | nil => exact .refl s
  | cons i l ih => exact (s.seatChange_rides i).trans (ih _)

theorem State.confirmed_sameRide (i : Nat) (s : State) : s.SameRide (s.confirmed i) := by
  simp only [State.confirmed]
  split
  · exact (s.setSeat_sameRide ..).trans (State.seatTest_sameRide _)
  · exact s.setSeat_sameRide ..

theorem State.contradicted_sameRide (i : Nat) (s : State) : s.SameRide (s.contradicted i) := by
  simp only [State.contradicted]
  split
  · exact (s.setSeat_sameRide ..).trans (State.seatTest_sameRide _)
  · exact s.setSeat_sameRide ..

theorem State.releaseVehicle_sameRide (s : State) : s.SameRide s.releaseVehicle := by
  have h := s.setVehicle_sameRide .released
  have he (t : State) : t.SameRide (t.setRm { t.rm with seats := t.rm.seats.map Seat.clearFault }) := by
    simp [State.SameRide]
  simp only [State.releaseVehicle]
  split
  · exact ((h.trans (State.withdraw_sameRide ..)).trans (State.announcementEnd_sameRide _)).trans (he _)
  · exact h.trans (he _)

theorem State.grantUnlock_sameRide (src : Nat) (s : State) : s.SameRide (s.grantUnlock src) := by
  simp only [State.grantUnlock]
  split
  · exact s.releaseVehicle_sameRide
  · exact .refl s

theorem State.grantLock_sameRide (s : State) : s.SameRide s.grantLock := by
  simp only [State.grantLock]
  split
  · exact (s.setVehicle_sameRide _).trans (State.checkingTest_sameRide _)
  · exact .refl s

/-! ### The latch falls -/

theorem State.chainAfterFall_rides (level : Nat) (s : State) : s.Rides (s.chainAfterFall level) :=
  State.SameRide.rides (by simp [State.SameRide])

theorem State.sceneTest_rsq (s : State) :
    s.sceneTest.rsq = s.rsq ∨ s.sceneTest.rsq = { s.rsq with released := true } := by
  simp only [State.sceneTest]
  split
  · split <;> simp
  all_goals simp

theorem State.sceneTest_rides (s : State) : s.Rides s.sceneTest := by
  rcases s.sceneTest_rsq with e | e <;> constructor <;> simp [e, Rsq.place, State.Dwells, State.entry]

end Sys2Proof.Machine

namespace Sys2Proof.Machine

/-! ### An acting part whose motion agrees with its position -/

/-- The part acts, its two period timers run, and its motion state is LOST exactly while its position is. -/
structure State.Acts (s : State) : Prop where
  active : s.active = true
  period : s.dsc.timer.isSome = true
  sample : s.rm.timer.isSome = true
  agrees : s.dsc.motion = .lost ↔ s.rsq.known = false

/-- An acting part with no DWELL hold left untimed. -/
structure State.Settled (s : State) : Prop extends s.Acts where
  dwells : s.Dwells

/-- The invariant: position and motion agree, DWELL holds are timed, and the timers go with the load state. -/
def State.Agreed (s : State) : Prop := s.PositionAgrees ∧ s.DwellSound ∧ s.LifeSound

theorem State.Rides.acts {s t : State} (h : s.Rides t) (a : s.Acts) : t.Acts where
  active := h.active a.active
  period := by rw [h.timer]; exact a.period
  sample := by rw [h.sample]; exact a.sample
  agrees := by rw [h.lost, h.known]; exact a.agrees

theorem State.Rides.settled {s t : State} (h : s.Rides t) (a : s.Settled) : t.Settled :=
  ⟨h.acts a.toActs, h.dwells a.dwells⟩

theorem State.active_iff (s : State) : s.active = true ↔
    s.powered = true ∧ s.cfs.load = .ready ∧ s.dsc.motion ≠ .parked ∧ s.dsc.motion ≠ .configFault := by
  simp [State.active, and_assoc]

/-- While the part acts the invariant says that it is settled. -/
theorem State.agreed_iff_settled {s : State} (ha : s.active = true) : s.Agreed ↔ s.Settled := by
  obtain ⟨hp, hl, -, hc⟩ := s.active_iff.mp ha
  constructor
  · rintro ⟨hpos, hdw, -, hper, hsam, -⟩
    exact ⟨⟨ha, hper.mpr ha, hsam.mpr ⟨hp, hl, hc⟩, hpos ha⟩, hdw ha⟩
  · rintro ⟨⟨-, hper, hsam, hag⟩, hdw⟩
    exact ⟨fun _ => hag, fun _ => hdw, by simp [hl], by simp [hper, ha], by simp [hsam, hp, hl, hc], fun _ => ha⟩

theorem State.Settled.agreed {s : State} (h : s.Settled) : s.Agreed := (State.agreed_iff_settled h.active).mpr h

/-- Of a part that does not act the invariant speaks of the load and the timers alone. -/
theorem State.agreed_iff_of_inactive {s : State} (ha : s.active = false) : s.Agreed ↔
    (s.cfs.load = .loading → s.dsc.motion = .lost ∧ s.rsq.known = false) ∧ s.dsc.timer = none ∧ s.rsq.dwell = none
      ∧ (s.rm.timer.isSome = true ↔ s.powered = true ∧ s.cfs.load = .ready ∧ s.dsc.motion ≠ .configFault) := by
  simp only [State.Agreed, State.PositionAgrees, State.DwellSound, State.LifeSound, ha]
  simp
  tauto

theorem State.SameRide.active {s t : State} (h : s.SameRide t) : t.active = s.active := by
  obtain ⟨hp, -, hl, hm, -⟩ := h
  simp only [State.active, hp, hl, hm]

theorem State.SameRide.agreed {s t : State} (h : s.SameRide t) (a : s.Agreed) : t.Agreed := by
  have ha := h.active
  cases hs : s.active
  · have ht := ha.trans hs
    have htimer := h.rides.timer
    obtain ⟨hp, -, hcfs, hm, -, hrm, hrsq⟩ := h
    rw [State.agreed_iff_of_inactive hs] at a
    rw [State.agreed_iff_of_inactive ht, hp, hcfs, hm, htimer, hrm, hrsq]
    exact a
  · exact (h.rides.settled ((State.agreed_iff_settled hs).mp a)).agreed

/-- A change that acts only in an acting part, and keeps that one settled, keeps the invariant. -/
theorem State.Agreed.of_settled {s : State} {f : State → State} (a : s.Agreed)
    (hi : s.active = false → s.SameRide (f s)) (hs : s.Settled → (f s).Agreed) : (f s).Agreed := by
  cases h : s.active
  · exact (hi h).agreed a
  · exact hs ((State.agreed_iff_settled h).mp a)

/-! ### Entering an entry -/

/-- The new entry's hold is evaluated on entering, so that no DWELL hold is left untimed (R19). -/
theorem State.evalHold_rides (s : State) : s.Rides s.evalHold := by
  simp only [State.evalHold]
  split
  · exact s.sceneTest_rides.trans (State.startDwell_rides _)
  · exact s.sceneTest_rides

theorem State.evalHold_dwells (s : State) : s.evalHold.Dwells := by
  simp only [State.evalHold]
  split
  · exact State.startDwell_dwells _
  · next h => exact fun _ hm => absurd hm h

theorem State.setRsq_acts {s : State} (a : s.Acts) (r : Rsq) (hr : r.known = s.rsq.known) : (s.setRsq r).Acts :=
  ⟨a.active, a.period, a.sample, by simpa [hr] using a.agrees⟩

theorem State.setDsc_acts {s : State} (a : s.Acts) (d : Dsc) (hm : d.motion = s.dsc.motion)
    (ht : d.timer.isSome = true) : (s.setDsc d).Acts :=
  ⟨by simpa [State.active_iff, hm] using a.active, ht, a.sample, by simpa [hm] using a.agrees⟩

theorem State.soundAction_sameRide (s : State) : s.SameRide s.soundAction := by simp [State.SameRide]

theorem State.Acts.clearFlags {s : State} (a : s.Acts) : s.clearFlags.Acts := State.setRsq_acts a _ rfl

theorem State.Acts.guideAction {s : State} (a : s.Acts) : s.guideAction.Acts := State.setDsc_acts a _ rfl a.period

/-- Entering leaves an acting part settled, whatever hold it leaves. -/
theorem State.Acts.enterEntry {s : State} (a : s.Acts) (i d : Nat) : (s.enterEntry i d).Settled := by
  have h1 : (s.placeAt i d).Acts := State.setRsq_acts a _ rfl
  have h2 := ((State.capLowering_sameRide (s.placeAt i d).entry.cap _).rides.acts h1).guideAction
  have h3 := (((State.soundAction_sameRide _).rides.trans (State.sceneAction_rides _)).trans
    (State.chainAction_rides _)).acts h2
  have h4 := ((State.evalHold_rides _).trans (State.evalRelease_sameRide _).rides).acts h3.clearFlags
  exact ⟨h4, (State.evalRelease_sameRide _).rides.dwells (State.evalHold_dwells _)⟩

theorem State.Acts.advance {s : State} (a : s.Acts) (passed inTime : Bool) (carry : Nat) :
    (s.advance passed inTime carry).Settled := by
  simp only [State.advance]
  apply State.Acts.enterEntry
  refine State.setRsq_acts ?_ _ rfl
  split
  · exact (s.raise_rides _).acts a
  · exact a

theorem State.authorityLost_sameRide (s : State) : s.SameRide s.authorityLost := by
  simp [State.SameRide, State.authorityLost, State.forceAuthority, State.handAuthority, Dsc.gauges]

/-- A position fault takes position and motion to LOST together (R21, R91). -/
theorem State.Acts.positionFault {s : State} (a : s.Acts) : s.positionFault.Settled := by
  obtain ⟨hp, hl, -⟩ := s.active_iff.mp a.active
  have hg := (State.authorityLost_sameRide (s.setRsq s.rsq.lose)).rides
  apply (State.raise_rides .position _).settled
  refine ⟨⟨?_, ?_, ?_, ?_⟩, ?_⟩
  · simp [State.active_iff, hp, hl]
  · rw [Dsc.timer_of_gauges (State.setMotion_gauges ..), hg.timer]; exact a.period
  · rw [State.setMotion_sample, hg.sample]; exact a.sample
  · simp [Rsq.lose]
  · intro hk; simp [Rsq.lose] at hk

theorem State.Settled.setRsq {s : State} (a : s.Settled) (r : Rsq)
    (hr : r.known = s.rsq.known ∧ r.entry = s.rsq.entry ∧ (s.rsq.released = true → r.released = true)
      ∧ r.dwell = s.rsq.dwell) : (s.setRsq r).Settled := by
  obtain ⟨hk, he, hrel, hd⟩ := hr
  refine ⟨State.setRsq_acts a.toActs r hk, ?_⟩
  intro k m n t ht
  have := a.dwells (hk ▸ k) m
  simp only [State.setRsq_rsq, State.entry, State.setRsq_cfg, he, hd] at *
  exact this (by cases h : s.rsq.released <;> simp_all) t ht

theorem State.Settled.runEnds {s : State} (a : s.Settled) (n : Nat) : (s.runEnds n).Settled := by
  induction n generalizing s with
  | zero => exact a
  | succ n ih =>
    simp only [State.runEnds]
    split
    · exact a
    · exact a.setRsq _ (by simp)
    · exact a.toActs.positionFault
    · exact ih (a.toActs.advance ..)

theorem State.Settled.settleEnds {s : State} (a : s.Settled) : s.settleEnds.Settled := by
  simp only [State.settleEnds]
  split
  · exact a.runEnds _
  · exact a

theorem State.Settled.actOnRelease {s : State} (a : s.Settled) : s.actOnRelease.Settled := by
  simp only [State.actOnRelease]
  split
  · exact a.settleEnds
  · exact a

theorem State.Settled.afterSlots {s : State} (a : s.Settled) (u : Scu) : (s.afterSlots u).Settled := by
  simp only [State.afterSlots]
  split
  · exact (s.sceneTest_rides.settled a).actOnRelease
  · exact a

theorem State.Agreed.afterSlots {s : State} (a : s.Agreed) (u : Scu) : (s.afterSlots u).Agreed :=
  a.of_settled (f := State.afterSlots u) (fun h => by simp [State.afterSlots, h, State.SameRide.refl])
    (fun h => (h.afterSlots u).agreed)

/-! ### Pulses, markers and relocation -/

theorem State.Settled.routePulse {s : State} (a : s.Settled) : s.routePulse.Settled := by
  simp only [State.routePulse]
  split
  · exact (a.setRsq _ (by simp)).settleEnds
  · exact a

theorem State.chainPulse_sameRide (s : State) : s.SameRide s.chainPulse := by simp [State.SameRide]

theorem State.Settled.chainPulse {s : State} (a : s.Settled) :
    (if s.rsq.known then s.chainPulse else s).Settled := by
  split
  · exact s.chainPulse_sameRide.rides.settled a
  · exact a

theorem State.Settled.setDsc {s : State} (a : s.Settled) (d : Dsc) (hm : d.motion = s.dsc.motion)
    (ht : d.timer.isSome = true) : (s.setDsc d).Settled :=
  ⟨State.setDsc_acts a.toActs d hm ht, fun k m => a.dwells k (hm.symm.trans m)⟩

theorem Dsc.pulse_timer (opt : Options) (d : Dsc) : (d.pulse opt).timer = d.timer ∧ (d.pulse opt).motion = d.motion := by
  simp only [Dsc.pulse, Dsc.countLoss]; split <;> simp

theorem State.settled_sameRide (s : State) : s.SameRide s.settled := by simp [State.SameRide]

theorem State.Settled.pulse {s : State} (a : s.Settled) : s.pulse.Settled := by
  obtain ⟨ht, hm⟩ := s.dsc.pulse_timer s.cfg.opt
  have h1 := a.setDsc (s.dsc.pulse s.cfg.opt) hm (by rw [ht]; exact a.period)
  simp only [State.pulse]
  apply State.Settled.afterSlots
  split
  · have h2 := (State.settled_sameRide _).rides.settled h1
    simp only [State.pulseWithLoss]
    split
    · exact ((State.raise_rides .guide _).settled h2).chainPulse.routePulse
    · exact ((State.raise_rides .guide _).settled h2.chainPulse).routePulse
    · exact (State.raise_rides .guide _).settled h2.chainPulse.routePulse
  · exact h1.chainPulse.routePulse

theorem State.Settled.disagreement {s : State} (a : s.Settled) : s.disagreement.Settled := by
  simp only [State.disagreement]
  split
  · exact (a.toActs.advance ..).settleEnds
  · exact a.toActs.positionFault

theorem State.Settled.inTimeRead {s : State} (a : s.Settled) : s.inTimeRead.Settled := by
  have h := a.setRsq { s.rsq with distance := s.entry.length * 1000 } (by simp)
  simp only [State.inTimeRead]
  split
  · exact h.setRsq _ (by simp)
  · exact (h.toActs.advance ..).settleEnds

theorem State.Settled.readMarker {s : State} (a : s.Settled) (id : Nat) : (s.readMarker id).Settled := by
  simp only [State.readMarker]
  split
  · split
    · exact a
    · split
      · exact a.inTimeRead
      · exact a.disagreement
  · split
    · exact a
    · split
      · split
        · exact a
        · exact a.toActs.positionFault
      · exact a.disagreement

theorem State.Settled.dwellOver {s : State} (a : s.Settled) : s.dwellOver.Settled := by
  apply State.Settled.afterSlots
  apply State.Settled.actOnRelease
  exact ⟨State.setRsq_acts a.toActs _ rfl, fun _ _ h => by simp at h⟩

/-- The motion state after HELD has been entered (R89). -/
theorem State.enterHeld_motion (s : State) :
    s.enterHeld.dsc.motion = if s.stc.latch = 2 then .braked else .held := by
  simp only [State.enterHeld]; split <;> simp

/-- A FIX that is accepted takes position and motion out of LOST together (R22, R91). -/
theorem State.Settled.relocate {s : State} (a : s.Settled) (e d : Nat) : (s.relocate e d).Settled := by
  simp only [State.relocate]
  split
  · next hf =>
    apply State.Settled.settleEnds
    apply State.Acts.enterEntry
    have hk : s.rsq.known = false := by simp [State.fixAccepted] at hf; exact hf.1.1.1.2
    obtain ⟨hp, hl, -⟩ := s.active_iff.mp a.active
    simp only [State.driveFix, State.withdraw_frame, State.setRsq_dsc, a.agrees.mpr hk, if_true]
    generalize hr : (s.setRsq { s.rsq with known := true, lastMarker := none }).withdraw .position = r
    have er : r.dsc = s.dsc ∧ r.rm = s.rm ∧ r.powered = s.powered ∧ r.cfs = s.cfs ∧ r.rsq.known = true := by
      simp [← hr]
    obtain ⟨e1, e2, e3, e4, e5⟩ := er
    have hg : r.enterHeld.dsc.timer = s.dsc.timer ∧ r.enterHeld.rm.timer = s.rm.timer ∧ r.enterHeld.rsq.known = true := by
      simp only [State.enterHeld]
      have hg (m) (u : State) : (u.setMotion m).dsc.timer = u.dsc.timer := Dsc.timer_of_gauges (u.setMotion_gauges m)
      split
      · simp [hg, e1, e2, e5]
      · have := (r.setMotion .held).startDwell_rides.known
        simp [hg, e1, e2, e5, this]
    obtain ⟨g1, g2, g3⟩ := hg
    refine ⟨?_, g1 ▸ a.period, g2 ▸ a.sample, ?_⟩
    · simp only [State.active_iff, State.enterHeld_motion, State.enterHeld_frame, e3, e4]
      exact ⟨hp, hl, by split <;> simp⟩
    · rw [g3, State.enterHeld_motion]; split <;> simp
  · exact a

/-! ### The platform's grants and RESUME -/

theorem State.Settled.grantDispatch {s : State} (a : s.Settled) (src : Nat) : (s.grantDispatch src).Settled := by
  simp only [State.grantDispatch]
  split
  · exact (a.setRsq _ (by simp)).actOnRelease
  · exact a

theorem State.Settled.notifyFall {s : State} (a : s.Settled) (level : Nat) : (s.notifyFall level).Settled := by
  have h0 := (State.settled_sameRide s).rides.settled a
  have d {t : State} (h : t.Settled) : (t.driveAfterFall level).Settled := ((t.driveFall_rides level).settled h).actOnRelease
  have c {t : State} (h : t.Settled) : (t.chainAfterFall level).Settled := (t.chainAfterFall_rides level).settled h
  have m {t : State} (h : t.Settled) : (t.alarmTest level).Settled := (t.alarmTest_sameRide level).rides.settled h
  exact State.inAnyOrder_of (P := State.Settled) _ _ _ _ (m (c (d h0))) (c (m (d h0))) (m (d (c h0)))
    (d (m (c h0))) (c (d (m h0))) (d (c (m h0)))

theorem State.Settled.resume {s : State} (a : s.Settled) : s.resume.Settled := by
  have h : s.withdrawLatched.setLatch.Settled :=
    (State.SameRide.rides (s := s) (by simp [State.SameRide])).settled a
  simp only [State.resume]
  split
  · exact h.notifyFall _
  · exact h

end Sys2Proof.Machine

namespace Sys2Proof.Machine

/-! ### Starts, parking and wakes -/

theorem State.agreed_of_start {s : State} (hl : s.cfs.load = .loading) (hm : s.dsc = Dsc.start)
    (hr : s.rsq = Rsq.start) (ht : s.rm = Rm.start) : s.Agreed := by
  have ha : s.active = false := by simp [State.active, hl]
  rw [State.agreed_iff_of_inactive ha]
  simp [hl, hm, hr, ht, Dsc.start, Rsq.start, Rm.start]

/-- Parking stops the control period and the dwell timer, and keeps the sample timer (R198). -/
theorem State.Settled.parkAll {s : State} (a : s.Settled) : s.parkAll.Agreed := by
  obtain ⟨hp, hl, -⟩ := s.active_iff.mp a.active
  have hm : s.parkAll.dsc.motion = .parked := by simp [State.parkAll, Dsc.park, Dsc.enter]
  rw [State.agreed_iff_of_inactive (by simp [State.active, hm])]
  refine ⟨by simp [hl], rfl, rfl, ?_⟩
  have ht : s.parkAll.rm.timer.isSome = true := a.sample
  simp [hm, hp, hl, ht]

/-- A wake starts the control period in LOST at a LOST position (R199). -/
theorem State.Agreed.wake {s : State} (a : s.Agreed) (hp : s.parked = true) (r : WakeReason) : (s.wake r).Agreed := by
  simp only [State.parked, Bool.and_eq_true, decide_eq_true_eq] at hp
  obtain ⟨⟨hp, hl⟩, hm⟩ := hp
  rw [State.agreed_iff_of_inactive (by simp [State.active, hm])] at a
  have hs : s.rm.timer.isSome = true := a.2.2.2.mpr (by simp [hp, hl, hm])
  apply State.Settled.agreed
  refine ⟨⟨?_, ?_, ?_, ?_⟩, ?_⟩ <;>
    simp [State.wake, State.netBegins, State.active, Dsc.start, Rsq.start, State.Dwells, hp, hl, hs]

theorem State.Agreed.awake {s : State} (a : s.Agreed) : s.awake.Agreed := by
  simp only [State.awake]
  split
  · next h => exact a.wake h _
  · exact a

/-- The end of a load starts the control period in LOST, or leaves CONFIG-FAULT with no timer (R194, R195). -/
theorem State.Agreed.loadEnds {s : State} (a : s.Agreed) (memory : List Byte) : (s.loadEnds memory).Agreed := by
  simp only [State.loadEnds]
  split
  · next h =>
    obtain ⟨hp, hl⟩ := h
    rw [State.agreed_iff_of_inactive (by simp [State.active, hl])] at a
    obtain ⟨hload, htimer, hdwell, hrm⟩ := a
    obtain ⟨hm, hk⟩ := hload hl
    simp only [State.endLoad]
    split
    · apply State.Settled.agreed
      refine ⟨⟨?_, ?_, ?_, ?_⟩, ?_⟩ <;>
        simp [State.ready, State.netBegins, State.active, State.Dwells, hp, hm, hk]
    · rw [State.agreed_iff_of_inactive (by simp [State.active, State.configFault])]
      simp [State.configFault, Dsc.enter, htimer, hdwell]
      simpa [hl] using hrm
  · exact a

/-! ### Reception -/

theorem State.sameRide_of_frame {s t : State} (h : t.powered = s.powered ∧ t.cfg = s.cfg ∧ t.cfs.load = s.cfs.load
    ∧ t.dsc = s.dsc ∧ t.rm = s.rm ∧ t.rsq = s.rsq) : s.SameRide t := by
  obtain ⟨hp, hcfg, hcfs, hdsc, hrm, hrsq⟩ := h
  simp [State.SameRide, hp, hcfg, hcfs, hdsc, hrm, hrsq]

/-- Two actions that each keep a property keep it in either order. -/
theorem State.inEitherOrder_keeps {P : State → Prop} {f g : State → State} {s : State} (h : P s.settled)
    (hf : ∀ t, P t → P (f t)) (hg : ∀ t, P t → P (g t)) : P (s.inEitherOrder f g) :=
  State.inEitherOrder_of f g s (hg _ (hf _ h)) (hf _ (hg _ h))

theorem State.Settled.grant {s : State} (a : s.Settled) (src : Nat) (kind : GrantKind) : (s.grant src kind).Agreed := by
  cases kind with
  | unlock => exact ((s.grantUnlock_sameRide src).rides.settled a).agreed
  | lock => exact (s.grantLock_sameRide.rides.settled a).agreed
  | dispatch => exact (a.grantDispatch src).agreed
  | wake => exact a.agreed
  | park =>
    simp only [State.grant, State.grantPark]
    split
    · exact a.parkAll
    · exact a.agreed

theorem State.hear_sameRide (src : Nat) (s : State) : s.SameRide (s.hear src) :=
  State.sameRide_of_frame (by simp)

/-- A delivered frame leaves an acting part settled, or parked. -/
theorem State.Settled.deliver {s : State} (a : s.Settled) (src : Nat) (b : Body) : (s.deliver src b).Agreed := by
  have h0 : s.settled.Settled := s.settled_sameRide.rides.settled a
  have hear (t : State) (h : t.Settled) : (t.hear src).Settled := (t.hear_rides src).settled h
  have same {g : State → State} (hg : ∀ t : State, t.SameRide (g t)) :
      (s.inEitherOrder (State.hear src) g).Agreed :=
    (State.inEitherOrder_keeps h0 hear fun t h => (hg t).rides.settled h).agreed
  cases b with
  | pos p =>
    simp only [State.deliver, State.deliverPos]
    split
    · exact (State.inEitherOrder_keeps h0 (fun t h => (t.hearPos_rides src p).settled h)
        fun t h => (t.frameLevel_rides ..).settled h).agreed
    · exact ((s.hearPos_rides src p).settled a).agreed
  | stop level code =>
    simp only [State.deliver, State.deliverStop]
    split
    · exact (State.inEitherOrder_keeps h0 hear fun t h => (t.frameLevel_rides ..).settled h).agreed
    · exact (hear s a).agreed
  | resume => exact (State.inEitherOrder_keeps h0 hear fun t h => h.resume).agreed
  | claim x => exact same fun t => State.sameRide_of_frame (by simp)
  | free x => exact same fun t => State.sameRide_of_frame (by simp)
  | cue _ => exact (hear s a).agreed
  | cuest c => exact same fun t => State.sameRide_of_frame (by simp)
  | sync time scene =>
    exact (State.inEitherOrder_keeps h0 (fun t h => (t.sameRide_of_frame (t := t.hearSync src) (by simp)).rides.settled h)
      fun t h => (State.sameRide_of_frame (t := t.handleSync src time scene) (by simp)).rides.settled h).agreed
  | grant target kind =>
    simp only [State.deliver, State.deliverGrant]
    split
    · exact State.inEitherOrder_of (P := State.Agreed) _ _ _ ((hear _ h0).grant src kind)
        ((State.hear_sameRide src _).agreed (h0.grant src kind))
    · exact (hear s a).agreed
  | fix target entry distance =>
    simp only [State.deliver, State.deliverFix]
    split
    · exact (State.inEitherOrder_keeps h0 hear fun t h => h.relocate entry distance).agreed
    · exact (hear s a).agreed
  | clear target =>
    exact ((State.sameRide_of_frame (t := (s.hear src).removePeer target) (by simp)).rides.settled a).agreed

theorem State.Settled.deliverForeign {s : State} (a : s.Settled) (src : Nat) (b : Body) :
    (s.deliverForeign src b).Settled := by
  have h := (s.hearForeign_rides src).settled a
  cases b with
  | stop level code =>
    simp only [State.deliverForeign]
    split
    · exact State.inEitherOrder_keeps (s.settled_sameRide.rides.settled a)
        (fun t h => (t.hearForeign_rides src).settled h) fun t h => (t.frameLevel_rides ..).settled h
    · exact h
  | _ => exact h

theorem State.Agreed.receive {s : State} (a : s.Agreed) (f : Frame) : (s.receive f).Agreed := by
  have h : s.carrierFalls.Agreed := (State.sameRide_of_frame (by simp)).agreed a
  simp only [State.receive, State.examine]
  split
  · next hp =>
    split
    · exact h.wake hp _
    · exact h
  · split
    · next hv =>
      simp only [Bool.and_eq_true] at hv
      have hn : s.carrierFalls.netHeard.Settled :=
        (State.sameRide_of_frame (by simp [State.netHeard])).rides.settled ((State.agreed_iff_settled hv.1).mp h)
      simp only [State.handleFrame]
      apply State.Agreed.afterSlots
      split
      · exact hn.deliver ..
      · exact (hn.deliverForeign ..).agreed
    · exact h

/-! ### The control period -/

theorem Dsc.ramp_motion (x y : Nat) (d : Dsc) : (d.ramp x y).motion = d.motion ∧ (d.ramp x y).timer = d.timer := by
  simp only [Dsc.ramp]; split <;> simp

theorem Dsc.sense_motion (opt : Options) (c : Coils) (d : Dsc) :
    (d.sense opt c).motion = d.motion ∧ (d.sense opt c).timer = d.timer := by
  simp only [Dsc.sense]; split <;> [simp; (split <;> simp)]

theorem Dsc.steer_motion (opt : Options) (d : Dsc) :
    (d.steer opt).motion = d.motion ∧ (d.steer opt).timer = d.timer := by
  simp only [Dsc.steer]; split <;> simp

theorem State.Settled.readFeedforward {s : State} (a : s.Settled) : s.readFeedforward.Settled := by
  simp only [State.readFeedforward]
  split
  · exact a.setDsc _ rfl a.period
  · exact a

theorem State.Settled.regain {s : State} (a : s.Settled) (g : GuideState) : (s.regain g).Settled := by
  simp only [State.regain]
  split
  · exact (State.withdraw_sameRide ..).rides.settled (a.setDsc _ rfl a.period)
  · exact a

theorem State.Settled.guideStep {s : State} (a : s.Settled) (coils : Coils) : (s.guideStep coils).Settled := by
  have h := a.readFeedforward
  obtain ⟨m1, t1⟩ := s.readFeedforward.dsc.sense_motion s.readFeedforward.cfg.opt coils
  obtain ⟨m2, t2⟩ := (s.readFeedforward.dsc.sense s.readFeedforward.cfg.opt coils).steer_motion s.readFeedforward.cfg.opt
  exact (h.setDsc _ (m2.trans m1) (by rw [t2, t1]; exact h.period)).regain _

theorem State.Settled.controlPeriod {s : State} (a : s.Settled) (coils : Coils) : (s.controlPeriod coils).Settled := by
  have h1 : s.restartPeriod.Settled := a.setDsc _ rfl rfl
  have h2 : s.restartPeriod.closeCount.Settled :=
    (State.evalRelease_sameRide _).rides.settled (h1.setDsc _ rfl h1.period)
  have h3 := (State.periodTransition_rides _).settled
    ((State.sameRide_of_frame (t := s.restartPeriod.closeCount.computeAuthority) (by simp)).rides.settled h2)
  obtain ⟨m, t⟩ := Dsc.ramp_motion _ _ s.restartPeriod.closeCount.computeAuthority.periodTransition.dsc
  have h4 : s.restartPeriod.closeCount.computeAuthority.periodTransition.setCommand.Settled :=
    h3.setDsc _ m (by rw [t]; exact h3.period)
  exact ((h4.guideStep coils).actOnRelease).afterSlots _

/-! ### Every command -/

/-- An expiry whose action keeps the invariant keeps it. -/
theorem State.Agreed.onExpiry {s : State} (a : s.Agreed) (dt : Nat) (t : Timer) (act : State → State)
    (h : ∀ u : State, t.isSome = true → s.SameRide u → u.Agreed → (act u).Agreed) : (s.onExpiry dt t act).Agreed := by
  have hs (n : Nat) : s.SameRide (s.setNow n) := State.sameRide_of_frame (by simp)
  simp only [State.onExpiry]
  split
  · exact h _ rfl (hs _) ((hs _).agreed a)
  · exact (hs _).agreed a

theorem State.Agreed.raise {s : State} (a : s.Agreed) (c : Cause) : (s.raise c).Agreed :=
  a.of_settled (f := State.raise c) (fun h => by simp [State.raise, h, State.SameRide.refl])
    fun h => ((s.raise_rides c).settled h).agreed

theorem State.Agreed.serve {s : State} (a : s.Agreed) (act : State → State × Reply) (h : (act s).1.Agreed) :
    (s.serve act).Agreed := by
  simp only [State.serve]
  split
  · exact (State.sameRide_of_frame (by simp)).agreed h
  · exact a

theorem State.Agreed.serviceStop {s : State} (a : s.Agreed) (on : Bool) : (serviceStop on s).1.Agreed := by
  simp only [Machine.serviceStop]
  split
  · exact a
  · split
    · exact a.awake.raise _
    · exact (State.withdraw_sameRide ..).agreed a.awake

theorem State.Agreed.parkCommand {s : State} (a : s.Agreed) : (parkCommand s).1.Agreed := by
  simp only [Machine.parkCommand]
  split
  · next h =>
    have ha : s.active = true := by
      simp only [State.parkAccepted, Bool.and_eq_true, Bool.or_eq_true, decide_eq_true_eq] at h
      rw [State.active_iff]
      rcases h.2 with m | m <;> simp [h.1, m]
    exact ((State.agreed_iff_settled ha).mp a).parkAll
  · exact a

theorem State.Agreed.restartCommand {s : State} (a : s.Agreed) : (restartCommand s).1.Agreed := by
  simp only [Machine.restartCommand]
  split
  · exact a
  · exact (State.sameRide_of_frame (by simp)).agreed a

theorem State.Agreed.testClipCommand {s : State} (a : s.Agreed) (clip : Nat) : (testClipCommand clip s).1.Agreed := by
  simp only [Machine.testClipCommand]
  split
  · exact a
  · split
    · exact a
    · exact (State.sameRide_of_frame (by simp)).agreed a.awake

theorem State.Agreed.clearIncidentList {s : State} (a : s.Agreed) : (clearIncidentList s).1.Agreed :=
  (State.sameRide_of_frame (by simp [Machine.clearIncidentList])).agreed a

theorem State.Agreed.act {s : State} (a : s.Agreed) (c : ServiceCommand) : (c.act s).1.Agreed := by
  cases c with
  | clearIncidents => exact a.clearIncidentList
  | stopOn => exact a.serviceStop true
  | stopOff => exact a.serviceStop false
  | park => exact a.parkCommand
  | restart => exact a.restartCommand
  | testClip clip => exact a.testClipCommand clip
  | _ => exact a

theorem State.Agreed.actLine {s : State} (a : s.Agreed) (line : String) : (actLine line s).1.Agreed := by
  simp only [Machine.actLine]
  split
  · exact a.act _
  · exact a

/-- A sample acts on the seats of an acting part, and wakes a parked one at a change (R106, R122). -/
theorem State.Agreed.seatSample {s : State} (a : s.Agreed) (ht : s.rm.timer.isSome = true) (raw : List SeatInput) :
    (s.seatSample raw).Agreed := by
  have hlife := a.2.2.2.2.1.mp ht
  have ha : (s.sampled raw).active = s.active := by simp [State.active]
  have h : (s.sampled raw).Agreed := by
    cases hs : s.active
    · rw [State.agreed_iff_of_inactive hs] at a
      rw [State.agreed_iff_of_inactive (ha.trans hs)]
      obtain ⟨hm, htimer, hdwell, -⟩ := a
      refine ⟨hm, htimer, hdwell, ?_⟩
      simpa [State.sampled] using hlife
    · have b := (State.agreed_iff_settled hs).mp a
      exact State.Settled.agreed ⟨⟨ha.trans hs, by simpa using b.period, rfl, by simpa using b.agrees⟩, b.dwells⟩
  simp only [State.seatSample]
  split
  · next hp =>
    split
    · exact h
    · exact h.wake (by simpa [State.parked] using hp) _
  · next hp =>
    have hs : s.active = true := by
      obtain ⟨hpow, hload, hfault⟩ := hlife
      exact s.active_iff.mpr ⟨hpow, hload, by simpa [State.parked, hpow, hload] using hp, hfault⟩
    exact ((State.seatChanges_rides _ _).settled ((State.agreed_iff_settled (ha.trans hs)).mp h)).agreed

theorem State.Agreed.receiveBytes {s : State} (a : s.Agreed) (bytes : List Byte) : (s.receiveBytes bytes).Agreed := by
  simp only [State.receiveBytes]
  split
  · exact a.receive _
  · exact (State.sameRide_of_frame (by simp)).agreed a

theorem State.agreed_pinStart (s : State) : s.pinStart.Agreed := State.agreed_of_start rfl rfl rfl rfl

theorem State.Agreed.ifPowered {s : State} (a : s.Agreed) {act : State → State} (h : (act s).Agreed) :
    (s.ifPowered act).Agreed := by
  simp only [State.ifPowered]
  split
  · exact h
  · exact a

theorem State.Agreed.replySent {s : State} (a : s.Agreed) : s.replySent.Agreed := by
  simp only [State.replySent]
  split
  · split
    · exact s.agreed_pinStart
    · exact (State.sameRide_of_frame (by simp)).agreed a
  · exact a

theorem State.Agreed.pulse {s : State} (a : s.Agreed) : (if s.active then s.pulse else s).Agreed := by
  split
  · next h => exact ((State.agreed_iff_settled h).mp a).pulse.agreed
  · exact a

theorem State.Agreed.markerHeard {s : State} (a : s.Agreed) (id : Nat) : (s.markerHeard id).Agreed := by
  simp only [State.markerHeard]
  split
  · next h =>
    simp only [Bool.and_eq_true] at h
    exact ((((State.agreed_iff_settled h.1).mp a).readMarker id).afterSlots _).agreed
  · exact a

theorem State.Agreed.soundPeriod {s : State} (a : s.Agreed) : s.soundPeriod.Agreed := by
  simp only [State.soundPeriod]
  split <;> exact (State.sameRide_of_frame (by simp)).agreed a

theorem State.Agreed.elapse {s : State} (a : s.Agreed) (dt : Nat) : (s.elapse dt).Agreed :=
  (State.sameRide_of_frame (by simp)).agreed a

/-- Every command keeps the invariant: a timer that it ends runs only while the part acts. -/
theorem State.Agreed.exec {s t : State} (a : s.Agreed) (c : Instr) (h : exec c s = .next t) : t.Agreed := by
  have e (dt) := a.elapse dt
  have keep (dt : Nat) (x : Timer) {act : State → State} (hact : ∀ u : State, u.SameRide (act u)) :
      (s.onExpiry dt x act).Agreed := a.onExpiry dt x act fun u _ _ hu => (hact u).agreed hu
  have slots (dt : Nat) (x : Timer) {act : State → State} (hact : ∀ u : State, u.SameRide (act u)) :
      (s.onExpiry dt x fun u => (act u).afterSlots u.scu).Agreed :=
    a.onExpiry dt x _ fun u _ _ hu => ((hact u).agreed hu).afterSlots _
  cases c <;> cases h
  case powerOn => exact State.agreed_of_start rfl rfl rfl rfl
  case resetInput dt => exact (e dt).ifPowered (State.agreed_pinStart _)
  case loadEnd dt memory => exact (e dt).loadEnds memory
  case powerLoss => exact State.agreed_of_start rfl rfl rfl rfl
  case candidateDiscarded dt bytes => exact (e dt).receiveBytes bytes
  case carrierBusy dt => exact (e dt).ifPowered ((State.sameRide_of_frame (by simp)).agreed (e dt))
  case frameTransmit dt => exact (State.sameRide_of_frame (by simp)).agreed a
  case posPeriodTimerExpiry dt => exact keep dt _ fun u => State.sameRide_of_frame (by simp)
  case netSilenceTimerExpiry dt =>
    exact a.onExpiry dt _ _ fun u _ _ hu =>
      ((State.sameRide_of_frame (t := u.setNi { u.ni with silence := none }) (by simp)).agreed hu).raise _
  case staleTime dt station => exact slots dt _ fun u => State.sameRide_of_frame (by simp)
  case dropTime dt station => exact slots dt _ fun u => State.sameRide_of_frame (by simp)
  case claimWindowExpiry dt k => exact slots dt _ fun u => State.sameRide_of_frame (by simp)
  case odometerPulse dt => exact (e dt).pulse
  case markerRead dt id => exact (e dt).markerHeard id
  case dwellTimerExpiry dt =>
    refine a.onExpiry dt _ _ fun u ht hu ua => ?_
    have hs : s.active = true := a.2.2.2.2.2 ht
    exact ((State.agreed_iff_settled (hu.active.trans hs)).mp ua).dwellOver.agreed
  case controlPeriodExpiry dt coils =>
    refine a.onExpiry dt _ _ fun u ht hu ua => ?_
    have hs : s.active = true := a.2.2.2.1.mp ht
    exact (((State.agreed_iff_settled (hu.active.trans hs)).mp ua).controlPeriod coils).agreed
  case sampleTimerExpiry dt raw =>
    exact a.onExpiry dt _ _ fun u ht hu ua => ua.seatSample (by rw [hu.rides.sample]; exact ht) raw
  case confirmTimerExpiry dt seat => exact keep dt _ fun u => u.confirmed_sameRide _
  case contradictionTimerExpiry dt seat => exact keep dt _ fun u => u.contradicted_sameRide _
  case pendingTimerExpiry dt => exact keep dt _ fun u => State.sameRide_of_frame (by simp)
  case cueTimeout dt ref => exact keep dt _ fun u => State.sameRide_of_frame (by simp)
  case lateWindowExpiry dt ref => exact keep dt _ fun u => State.sameRide_of_frame (by simp)
  case referenceSilent dt => exact keep dt _ fun u => State.sameRide_of_frame (by simp)
  case samplePeriod dt => exact (e dt).soundPeriod
  case transferCompletion dt samples =>
    exact (e dt).ifPowered ((State.sameRide_of_frame (by simp)).agreed (e dt))
  case clearIncidents dt => exact (e dt).serve _ (e dt).clearIncidentList
  case serviceStopOn dt => exact (e dt).serve _ ((e dt).serviceStop true)
  case serviceStopOff dt => exact (e dt).serve _ ((e dt).serviceStop false)
  case park dt => exact (e dt).serve _ (e dt).parkCommand
  case restart dt => exact (e dt).serve _ (e dt).restartCommand
  case testClip dt clip => exact (e dt).serve _ ((e dt).testClipCommand clip)
  case unknownCommand dt line => exact (e dt).serve _ ((e dt).actLine line)
  case serviceReplySent dt => exact (e dt).replySent
  case status dt | readRoute dt | readPeers dt | readSeats dt | readScenes dt | readVoices dt | readClock dt
    | readIncidents dt => exact (e dt).serve _ (e dt)
  case posFrame dt _ _ | stopFrame dt _ _ _ | resumeFrame dt _ | claimFrame dt _ _ | freeFrame dt _ _
    | cueFrame dt _ _ | cuestFrame dt _ _ | syncFrame dt _ _ _ | grantUnlock dt _ _ | grantLock dt _ _
    | grantDispatch dt _ _ | grantPark dt _ _ | grantWake dt _ _ | fixFrame dt _ _ _ _ | clearFrame dt _ _ =>
    exact (e dt).receive _

/-- A step runs the command at the front of the queue, or none. -/
theorem step_keeps {P : State → Prop} (hq : ∀ (s : State) (q : List Instr), P s → P (s.setPending q))
    (he : ∀ (c : Instr) (s t : State), P s → exec c s = .next t → P t) {s t : State} (h : P s)
    (hst : step s = .next t) : P t := by
  simp only [step] at hst
  split at hst
  · cases hst; exact h
  · exact he _ _ _ (hq _ _ h) hst

/-- Settles O54: every operation of an acting part keeps it settled, and the few that act in other load and motion
states set motion, position and timers together. -/
theorem positionStaysAgreed : Obligations.PositionStaysAgreed := fun s t h hst =>
  step_keeps (P := State.Agreed) (fun s _ a => (State.sameRide_of_frame (by simp)).agreed a)
    (fun c _ _ a h => a.exec c h) h hst

end Sys2Proof.Machine

/-- Settles O3: the power-on start is one closed state, and its fields are read off. -/
theorem resetHoldsTheStartValues : Obligations.ResetHoldsTheStartValues := by
  unfold Obligations.ResetHoldsTheStartValues
  decide

namespace Sys2Proof.Machine

/-! ### The reads of the service link -/

/-- A read that reaches an IDLE parser begins a data reply and changes nothing else (R200, R201). -/
theorem State.serve_reading {s : State} (hp : s.powered = true) (hr : s.cfs.reply = none) (dt : Nat)
    (items : State → List Item) :
    (s.elapse dt).serve (reading items)
      = { s with now := s.now + dt, cfs := { s.cfs with reply := some (.data (items (s.elapse dt))) } } := by
  have idle : (s.elapse dt).powered && (s.elapse dt).cfs.reply.isNone := by simp [hp, hr]
  exact if_pos idle

theorem State.exec_reading {s : State} {dt : Nat} {c : Instr} {f : State → List Item} {items : List Item}
    (hp : s.powered = true) (hr : s.cfs.reply = none) (hc : exec c s = .next ((s.elapse dt).serve (reading f)))
    (hf : f (s.elapse dt) = items) :
    exec c s = .next { s with now := s.now + dt, cfs := { s.cfs with reply := some (.data items) } } := by
  rw [hc, State.serve_reading hp hr, hf]

theorem sceneItems_eq (xs : List Nat) : sceneItems xs = Item.nat xs.length :: xs.map Item.nat := by
  simp [sceneItems, Item.list, List.map_eq_flatMap]

theorem dataItems_eq (x : Option VehicleData) : dataItems x =
    match x with
    | none => [Item.absent]
    | some d => [Item.opt d.ordinate, Item.nat d.lane, Item.nat d.entry, Item.nat d.speed, .name (Motion.name d.motion),
        .name (Restraint.name d.restraint), Item.nat d.level]
        ++ (Item.nat d.held.length :: d.held.map Item.nat) ++ [Item.orNone d.claiming] := by
  cases x with
  | none => rfl
  | some d => simp only [dataItems, sceneItems_eq]

theorem causeItems_eq (xs : List Cause) :
    xs.flatMap (fun c => [Item.name c.name]) = xs.map (fun c => .name c.name) := by
  simp [List.map_eq_flatMap]

theorem Dsc.coilItems_eq (d : Dsc) : d.coilItems =
    if d.channel = none then [.absent, .absent] else
      match d.coils with
      | some c => [Item.nat c.left, Item.nat c.right]
      | none => [.absent, .absent] := by
  cases hc : d.channel <;> cases hk : d.coils <;> simp [Dsc.coilItems, hc, hk]

theorem channelItem_eq (c : Option Nat) : channelItem c =
    match c with
    | none => .name "NONE"
    | some c => Item.nat c := by
  cases c <;> rfl

theorem State.voicesItems_eq (s : State) : s.voicesItems =
    [s.spe.v0, s.spe.v1, s.spe.v2, s.spe.v3].flatMap Voice.items
      ++ [Item.nat s.spe.lastServed, Item.name (if s.spe.ducking then "yes" else "no")] := by
  simp [State.voicesItems]

theorem State.opt_ordinate (s : State) : Item.opt s.ordinate =
    if s.rsq.known then Item.nat ((s.entry.start + s.distanceMm) % s.cfg.opt.routeLength) else .absent := by
  simp only [State.ordinate]
  split <;> rfl

end Sys2Proof.Machine

open Sys2Proof.Machine in
/-- Settles O48: each read is `serve_reading` at its list, which is the list of its rule. -/
theorem readsReplyAndChangeNothing : Obligations.ReadsReplyAndChangeNothing := by
  unfold Obligations.ReadsReplyAndChangeNothing
  intro dt s hp hr
  refine ⟨State.exec_reading hp hr rfl ?status, State.exec_reading hp hr rfl ?route, State.exec_reading hp hr rfl ?peers,
    State.exec_reading hp hr rfl ?seats, State.exec_reading hp hr rfl ?scenes, State.exec_reading hp hr rfl ?voices,
    State.exec_reading hp hr rfl ?clock, State.exec_reading hp hr rfl ?incidents⟩
  case status =>
    simp only [State.statusItems, State.cfsItems, State.sauItems, State.dscItems, State.stcItems, Dsc.coilItems_eq,
      channelItem_eq,       Item.list, causeItems_eq, List.append_assoc]
    rfl
  case route =>
    simp only [State.routeItems, State.opt_ordinate]
    rfl
  case peers =>
    simp only [State.peersItems, Item.list]
    refine congrArg _ (List.flatMap_congr fun p _ => ?_)
    simp only [State.peerItems, dataItems_eq]
    rfl
  case seats =>
    simp only [State.seatsItems, activity, List.contains_iff_mem]
    rfl
  case scenes =>
    rfl
  case voices =>
    rw [State.voicesItems_eq]
    rfl
  case clock =>
    simp only [State.clockItems]
    rfl
  case incidents =>
    refine congrArg (· ++ [Item.nat s.stc.nextSeq]) (congrArg _ (List.flatMap_congr fun i _ => ?_))
    simp only [Incident.items, sceneItems_eq]

namespace Sys2Proof.Machine

/-! ### A frame that a block acts on beside the hearing -/

/-- The state in which the block acts after the hearing: the order has been settled (R33). -/
def State.heardFirst (dt src : Nat) (s : State) : State := { s.heard dt src with choices := s.choices + 1 }

/-- The state in which the block acts before the hearing: the order has been settled (R33). -/
def State.heardLast (dt : Nat) (s : State) : State := { s.netted dt with choices := s.choices + 1 }

/-- What holds after the block and the hearing in both orders, and then of the action on the slots, holds after the
reception (R33). -/
theorem State.receive_beside {P : State → Prop} {s : State} {dt : Nat} {f : Frame} (g : State → State)
    (hr : s.Receives f)
    (hd : State.deliver f.src f.body (s.netted dt) = (s.netted dt).inEitherOrder (State.hear f.src) g)
    (first : P ((g (s.heardFirst dt f.src)).afterSlots s.scu))
    (last : P (((g (s.heardLast dt)).hear f.src).afterSlots s.scu)) :
    P ((s.elapse dt).receive f) := by
  rw [State.receive_of_receives dt s f hr, hd]
  apply State.inEitherOrder_of (P := fun x => P (x.afterSlots s.scu))
  · have h : State.hear f.src (s.netted dt).settled = s.heardFirst dt f.src := State.hear_netted_settled dt f s hr
    rwa [h]
  · exact last

theorem State.deliver_grant {s : State} (dt src : Nat) (k : GrantKind) :
    State.deliver src (.grant s.cfg.opt.station k) (s.netted dt)
      = (s.netted dt).inEitherOrder (State.hear src) (State.grant src k) := if_pos rfl

theorem State.deliver_fix {s : State} (dt src e d : Nat) :
    State.deliver src (.fix s.cfg.opt.station e d) (s.netted dt)
      = (s.netted dt).inEitherOrder (State.hear src) (State.relocate e d) := if_pos rfl

theorem State.hear_of_inactive {s : State} (h : s.active = false) (src : Nat) : s.hear src = s := by
  simp [State.hear, h]

theorem State.afterSlots_of_inactive {s : State} (h : s.active = false) (u : Scu) : s.afterSlots u = s := by
  simp [State.afterSlots, h]

/-- The hearing after a block that left the table alone refreshes the sender's record and does nothing else (R50). -/
theorem State.Receives.hear_last {s u : State} {f : Frame} (hr : s.Receives f) (ha : u.active = true)
    (hp : u.ptb = s.ptb) : u.hear f.src = { u with ptb := refreshed f.src u.ms s.ptb } := by
  obtain ⟨-, -, -, hk, hf, -⟩ := hr
  rw [State.hear_of_known u f.src ha (hp ▸ hk) (hp ▸ hf), hp]

end Sys2Proof.Machine

namespace Sys2Proof.Machine

/-! ### Park requests (R198) -/

/-- Parking leaves the park values of every block. -/
theorem State.parkedFrom_parkAll (s : State) : s.ParkedFrom s.parkAll := by
  refine ⟨?_, ⟨rfl, rfl, rfl, rfl, rfl⟩, ⟨rfl, rfl, rfl, rfl, rfl⟩, ⟨rfl, rfl, rfl, rfl⟩, ⟨rfl, rfl, rfl⟩, rfl,
    ⟨rfl, rfl, rfl, rfl, ?_⟩, ⟨rfl, rfl, rfl, rfl, rfl⟩, ⟨rfl, rfl, rfl, rfl, rfl, rfl, rfl⟩, ⟨rfl, rfl, rfl, rfl, rfl⟩⟩
  · simp [State.parkAll, Dsc.park, Dsc.enter]
  · simp only [State.parkAll, State.parkScu, Counters.abandon]
    split <;> rfl

theorem State.parkAll_inactive (s : State) : s.parkAll.active = false := by
  simp [State.active, State.parkAll, Dsc.park, Dsc.enter]

theorem State.parkAccepted_of {s : State} (hp : s.powered = true) (hl : s.cfs.load = .ready)
    (hm : s.dsc.motion = .held ∨ s.dsc.motion = .lost) : s.parkAccepted = true := by
  simpa [State.parkAccepted, hp, hl] using hm

/-- A part that acts accepts a park request in HELD and in LOST. -/
theorem State.grantPark_eq_parkAll {s : State} (ha : s.active = true)
    (hm : s.dsc.motion = .held ∨ s.dsc.motion = .lost) : s.grantPark = s.parkAll := by
  obtain ⟨hp, hl, -⟩ := s.active_iff.mp ha
  exact if_pos (State.parkAccepted_of hp hl hm)

theorem State.not_parkAccepted {s : State}
    (hm : s.cfs.load ≠ .ready ∨ (s.dsc.motion ≠ .held ∧ s.dsc.motion ≠ .lost)) : s.parkAccepted ≠ true := by
  rcases hm with hl | ⟨hheld, hlost⟩
  · simp [State.parkAccepted, hl]
  · simp [State.parkAccepted, hheld, hlost]

theorem State.grantPark_of_not_parkAccepted {s : State} (h : s.parkAccepted ≠ true) : s.grantPark = s :=
  if_neg h

/-- A command that reaches an IDLE parser is acted on, and its reply begun (R200). -/
theorem State.serve_of_idle {s : State} (act : State → State × Reply) (hp : s.powered = true)
    (hr : s.cfs.reply = none) :
    s.serve act = (act s).1.setCfs { (act s).1.cfs with reply := some (act s).2 } :=
  if_pos (by simp [hp, hr])

end Sys2Proof.Machine

open Sys2Proof.Machine in
/-- Settles O25: an accepted request is `parkAll` in both orders of the hearing, and one not accepted is none. -/
theorem parkRequestsParkThePart : Obligations.ParkRequestsParkThePart := by
  unfold Obligations.ParkRequestsParkThePart
  refine ⟨fun dt h s hr hm => ?grant, fun dt s ha hr hm => ?command, fun dt s hp hr hm => ?refused,
    fun dt h s hr hheld hlost => ?ignored⟩
  case grant =>
    have parks : ∀ u : State, u.active = s.active → u.dsc = s.dsc → u.grantPark = u.parkAll :=
      fun u hu hd => State.grantPark_eq_parkAll (hu.trans hr.1) (hd ▸ hm)
    refine ⟨_, rfl, State.receive_beside (P := fun t => s.ParkedFrom t ∧ t.cfg = s.cfg ∧ t.cfs = s.cfs ∧ t.now = s.now + dt)
      (f := ⟨h.src, h.sig, .grant s.cfg.opt.station .park⟩) _ hr (State.deliver_grant dt h.src .park) ?_ ?_⟩
    · simp only [State.grant]
      rw [parks (s.heardFirst dt h.src) rfl rfl, State.afterSlots_of_inactive (State.parkAll_inactive _)]
      exact ⟨State.parkedFrom_parkAll (s.heardFirst dt h.src), rfl, rfl, rfl⟩
    · simp only [State.grant]
      rw [parks (s.heardLast dt) rfl rfl, State.hear_of_inactive (State.parkAll_inactive _),
        State.afterSlots_of_inactive (State.parkAll_inactive _)]
      exact ⟨State.parkedFrom_parkAll (s.heardLast dt), rfl, rfl, rfl⟩
  case command =>
    obtain ⟨hp, hl, -⟩ := s.active_iff.mp ha
    have acc : (s.elapse dt).parkAccepted = true := State.parkAccepted_of hp hl hm
    have hs : (s.elapse dt).serve parkCommand
        = (s.elapse dt).parkAll.setCfs { s.cfs with reply := some .ok } := by
      rw [State.serve_of_idle parkCommand (s := s.elapse dt) hp hr, parkCommand, if_pos acc]
      rfl
    exact ⟨_, congrArg Host.Outcome.next hs, State.parkedFrom_parkAll (s.elapse dt), rfl, rfl, rfl⟩
  case refused =>
    have acc : (s.elapse dt).parkAccepted ≠ true := State.not_parkAccepted hm
    have hs : (s.elapse dt).serve parkCommand = (s.elapse dt).setCfs { s.cfs with reply := some (.refused .state) } := by
      rw [State.serve_of_idle parkCommand (s := s.elapse dt) hp hr, parkCommand, if_neg acc]
      rfl
    exact congrArg Host.Outcome.next hs
  case ignored =>
    exact congrArg Host.Outcome.next (State.receive_grant_ignored dt h .park s hr
      (State.grantPark_of_not_parkAccepted (State.not_parkAccepted (.inr ⟨hheld, hlost⟩)))
      (State.grantPark_of_not_parkAccepted (State.not_parkAccepted (.inr ⟨hheld, hlost⟩))))

namespace Sys2Proof.Machine

/-! ### What a stop cause does to the drive -/

/-- A change that lowers authority and command at most, moves neither a LOST nor a BRAKED vehicle, and leaves the
sequencer's state where no DWELL hold is untimed. -/
structure State.Damps (s t : State) : Prop where
  rides : s.Rides t
  authority : t.sau.authority ≤ s.sau.authority
  command : t.dsc.command ≤ s.dsc.command
  targets : t.sau.targets = s.sau.targets
  curve : t.sau.curve = s.sau.curve
  still : s.dsc.motion = .lost ∨ s.dsc.motion = .braked →
    t.dsc.motion = s.dsc.motion ∧ t.dsc.brakeReleased = s.dsc.brakeReleased
  rsq : s.Dwells → t.rsq = s.rsq

theorem State.damps_of_same {s t : State} (h : s.SameRide t) (hs : t.sau = s.sau) (hd : t.dsc = s.dsc) : s.Damps t := by
  have hr := h.rides
  obtain ⟨-, -, -, -, -, -, hrsq⟩ := h
  exact ⟨hr, by rw [hs], by rw [hd], by rw [hs], by rw [hs], fun _ => by simp [hd], fun _ => hrsq⟩

theorem State.Damps.refl (s : State) : s.Damps s := State.damps_of_same (.refl s) rfl rfl

theorem State.Damps.trans {s t u : State} (h : s.Damps t) (k : t.Damps u) : s.Damps u where
  rides := h.rides.trans k.rides
  authority := k.authority.trans h.authority
  command := k.command.trans h.command
  targets := k.targets.trans h.targets
  curve := k.curve.trans h.curve
  still := fun a => by
    obtain ⟨hm, hb⟩ := h.still a
    obtain ⟨km, kb⟩ := k.still (hm ▸ a)
    exact ⟨km.trans hm, kb.trans hb⟩
  rsq := fun a => (k.rsq (h.rides.dwells a)).trans (h.rsq a)

theorem State.handAuthority_damps {a : Nat} {s : State} (h : a ≤ s.sau.authority) (src : LimitSource) :
    s.Damps (s.handAuthority a src) :=
  ⟨(s.handAuthority_sameRide a src).rides, h, Nat.min_le_left .., rfl, rfl, fun _ => ⟨rfl, rfl⟩, fun _ => rfl⟩

theorem State.forceAuthority_damps (s : State) : s.Damps s.forceAuthority := State.handAuthority_damps (Nat.zero_le _) _

theorem State.authorityRise_damps (was level : Nat) (s : State) : s.Damps (s.authorityRise was level) := by
  simp only [State.authorityRise]
  split
  · exact s.forceAuthority_damps
  · split
    · next h => exact State.handAuthority_damps (Nat.le_of_lt h.2) _
    · exact .refl s

theorem State.setMotion_dsc (m : Motion) (s : State) : (s.setMotion m).dsc = s.dsc.enter m := by
  simp [State.setMotion]

theorem Dsc.enter_command_le (m : Motion) (d : Dsc) : (d.enter m).command ≤ d.command := by
  simp only [Dsc.enter]; split <;> simp

theorem State.startDwell_of_dwells {s : State} (hm : s.dsc.motion = .held) (h : s.Dwells) : s.startDwell = s := by
  simp only [State.startDwell]
  split
  · next t ht =>
    split
    · next hc =>
      simp only [Bool.and_eq_true, Bool.not_eq_true'] at hc
      have := h hc.1.1 hm hc.1.2 t ht
      cases hd : s.rsq.dwell <;> simp_all
    · rfl
  all_goals rfl

theorem State.enterHeld_dsc_command (s : State) : s.enterHeld.dsc.command = 0 := by
  simp only [State.enterHeld]
  split <;> simp [State.setMotion_dsc, Dsc.enter]

/-- A rise of the latch moves a HELD, RUNNING or STOPPING vehicle, and no other (R88, R89). -/
theorem State.driveRise_of_still {s : State} (h : s.dsc.motion = .lost ∨ s.dsc.motion = .braked) (level : Nat) :
    s.driveRise level = s := by
  rcases h with h | h <;> simp [State.driveRise, h]

theorem State.driveRise_command_le (level : Nat) (s : State) : (s.driveRise level).dsc.command ≤ s.dsc.command := by
  have hm (m : Motion) : (s.setMotion m).dsc.command ≤ s.dsc.command := by
    rw [State.setMotion_dsc]; exact Dsc.enter_command_le ..
  simp only [State.driveRise]
  split
  · split
    · exact hm _
    · split
      · simp [State.enterHeld_dsc_command]
      · exact hm _
  · split <;> exact hm _
  · split
    · exact hm _
    · exact Nat.le_refl _
  all_goals exact Nat.le_refl _

/-- A DWELL hold that is timed is left as it is where a rise of the latch passes through STOPPING back to HELD. -/
theorem State.driveRise_rsq {s : State} (h : s.Dwells) (level : Nat) : (s.driveRise level).rsq = s.rsq := by
  simp only [State.driveRise]
  split
  · next hm =>
    split
    · simp
    · split
      · simp only [State.enterHeld, State.setMotion_frame]
        split
        · simp
        · have hd : (State.setMotion .held (State.setMotion .stopping s)).Dwells := by
            intro hk _ hr t ht
            simp only [State.setMotion_frame, State.entry] at hk hr ht ⊢
            exact h hk hm hr t ht
          rw [State.startDwell_of_dwells (by simp) hd]
          simp
      · simp
  · split <;> simp
  · split <;> simp
  all_goals rfl

theorem State.driveRise_damps (level : Nat) (s : State) : s.Damps (s.driveRise level) where
  rides := s.driveRise_rides level
  authority := by simp
  command := s.driveRise_command_le level
  targets := by simp
  curve := by simp
  still := fun h => by simp [State.driveRise_of_still h]
  rsq := fun h => State.driveRise_rsq h level

theorem State.notifyRise_damps (was level : Nat) (s : State) : s.Damps (s.notifyRise was level) :=
  ((s.authorityRise_damps was level).trans (State.driveRise_damps level _)).trans
    (State.damps_of_same (by simp [State.SameRide, State.notifyRise]) (by simp [State.notifyRise])
      (by simp [State.notifyRise]))

theorem State.raiseLatch_damps (level : Nat) (c : StopCause) (o : Nat) (s : State) :
    s.Damps (s.raiseLatch level c o) := by
  simp only [State.raiseLatch]
  split
  · exact State.Damps.trans (State.damps_of_same (t := s.setStc _) (by simp [State.SameRide]) (by simp) (by simp))
      (State.notifyRise_damps s.stc.latch level _)
  · exact .refl s

theorem State.levelRises_damps (c : Cause) (s : State) : s.Damps (s.levelRises c) :=
  ((State.damps_of_same (t := (s.putFrame (.stop c.level c.code)).1.requestPos true) (by simp [State.SameRide])
    (by simp) (by simp)).trans
    (State.raiseLatch_damps c.level (.local_ c) s.cfg.opt.station _)).trans
    (State.damps_of_same (by simp [State.SameRide, State.levelRises]) (by simp [State.levelRises])
      (by simp [State.levelRises]))

/-- A raised cause joins the list, and is recorded. -/
def State.joined (c : Cause) (s : State) : State :=
  (s.setStc { s.stc with causes := s.stc.causes ++ [c] }).writeIncident (.local_ c) c.level s.cfg.opt.station

/-- The three cases of a raising (R182): nothing, the record alone, the record and a rise of the asserted level. -/
theorem State.raise_eq (c : Cause) (s : State) : s.raise c =
    if s.active = true ∧ c ∉ s.stc.causes then
      if s.stc.asserted < c.level then (s.joined c).levelRises c else s.joined c
    else s := by
  by_cases ha : s.active = true <;> by_cases hc : c ∈ s.stc.causes <;> simp [State.raise, State.joined, ha, hc]

theorem State.raise_damps (c : Cause) (s : State) : s.Damps (s.raise c) := by
  have h : s.Damps (s.joined c) :=
    State.damps_of_same (by simp [State.SameRide, State.joined]) (by simp [State.joined]) (by simp [State.joined])
  rw [State.raise_eq]
  split
  · split
    · exact h.trans (State.levelRises_damps ..)
    · exact h
  · exact .refl s

/-! ### The latch and the causes -/

theorem State.raiseLatch_stc (level : Nat) (c : StopCause) (o : Nat) (s : State) :
    (s.raiseLatch level c o).stc.causes = s.stc.causes ∧ (s.raiseLatch level c o).stc.latch = max s.stc.latch level := by
  simp only [State.raiseLatch]
  split
  · next h => simp; omega
  · next h => simp; omega

theorem State.levelRises_stc (c : Cause) (s : State) :
    (s.levelRises c).stc.causes = s.stc.causes ∧ (s.levelRises c).stc.latch = max s.stc.latch c.level := by
  simp [State.levelRises, State.raiseLatch_stc]

theorem State.joined_stc (c : Cause) (s : State) :
    (s.joined c).stc.causes = s.stc.causes ++ [c] ∧ (s.joined c).stc.latch = s.stc.latch := by
  simp [State.joined, State.writeIncident, Stc.append]

theorem State.mem_raise {c x : Cause} {s : State} :
    x ∈ (s.raise c).stc.causes ↔ x ∈ s.stc.causes ∨ (x = c ∧ s.active = true) := by
  rw [State.raise_eq]
  by_cases ha : s.active = true <;> by_cases hc : c ∈ s.stc.causes <;> simp [ha, hc]
  · rintro rfl; exact hc
  · split <;> simp [State.levelRises_stc, State.joined_stc]

/-- The latch after a raising: it follows a rise of the asserted level (R182, R183). -/
theorem State.raise_latch (c : Cause) (s : State) : (s.raise c).stc.latch =
    if s.active = true ∧ c ∉ s.stc.causes ∧ s.stc.asserted < c.level then max s.stc.latch c.level else s.stc.latch := by
  rw [State.raise_eq]
  by_cases ha : s.active = true <;> by_cases hc : c ∈ s.stc.causes <;> simp [ha, hc]
  split <;> simp [State.levelRises_stc, State.joined_stc]

theorem Stc.asserted_le_iff {t : Stc} {n : Nat} : t.asserted ≤ n ↔ ∀ c ∈ t.causes, c.level ≤ n := by
  have h (l : List Cause) : l.foldr (fun x m => max x.level m) 0 ≤ n ↔ ∀ c ∈ l, c.level ≤ n := by
    induction l with
    | nil => simp
    | cons x xs ih => simp [ih]
  exact h t.causes

/-- No standing cause is above the latch, which is at most 2 (R181, R183). -/
def State.Latched (s : State) : Prop := (∀ c ∈ s.stc.causes, c.level ≤ s.stc.latch) ∧ s.stc.latch ≤ 2

theorem State.StopsSound.latched {s : State} (h : s.StopsSound) : s.Latched := by
  obtain ⟨-, ha, hl, -⟩ := h
  exact ⟨Stc.asserted_le_iff.mp ha, hl⟩

theorem Cause.level_le (c : Cause) : c.level ≤ 2 := by cases c <;> decide

/-- A raising in an acting part brings the latch to its level (R183). -/
theorem State.Latched.raise_latch {s : State} (h : s.Latched) (ha : s.active = true) (c : Cause) :
    (s.raise c).stc.latch = max s.stc.latch c.level := by
  rw [State.raise_latch]
  split
  · rfl
  · next hc =>
    by_cases hm : c ∈ s.stc.causes
    · exact (Nat.max_eq_left (h.1 c hm)).symm
    · have hle : c.level ≤ s.stc.asserted := by simpa [ha, hm] using hc
      have := hle.trans (Stc.asserted_le_iff.mpr h.1)
      omega

theorem State.raise_of_inactive {s : State} (h : s.active = false) (c : Cause) : s.raise c = s := by
  simp [State.raise, h]

theorem State.Latched.raise {s : State} (h : s.Latched) (c : Cause) : (s.raise c).Latched := by
  cases ha : s.active
  · rwa [State.raise_of_inactive ha]
  · have hl := h.raise_latch ha c
    obtain ⟨hc, h2⟩ := h
    have := c.level_le
    refine ⟨fun x hx => ?_, by omega⟩
    rcases State.mem_raise.mp hx with hx | ⟨rfl, -⟩
    · have := hc x hx; omega
    · omega

/-- At latch 2 the vehicle has neither authority nor command, where the latch was below 2 before. -/
def State.Halted (s : State) : Prop := s.stc.latch = 2 → s.sau.authority = 0 ∧ s.dsc.command = 0

theorem State.Damps.zero {s t : State} (h : s.Damps t) (z : s.sau.authority = 0 ∧ s.dsc.command = 0) :
    t.sau.authority = 0 ∧ t.dsc.command = 0 := by
  have := h.authority
  have := h.command
  omega

theorem State.notifyRise_zero (was : Nat) (s : State) :
    (s.notifyRise was 2).sau.authority = 0 ∧ (s.notifyRise was 2).dsc.command = 0 := by
  have h : s.forceAuthority.Damps (s.notifyRise was 2) :=
    (State.driveRise_damps 2 s.forceAuthority).trans
      (State.damps_of_same (by simp [State.SameRide, State.notifyRise, State.authorityRise])
        (by simp [State.notifyRise, State.authorityRise]) (by simp [State.notifyRise, State.authorityRise]))
  exact h.zero ⟨rfl, Nat.min_zero _⟩

theorem State.Halted.raiseLatch {s : State} (h : s.Halted) {level : Nat} (hl : level ≤ 2) (c : StopCause) (o : Nat) :
    (s.raiseLatch level c o).Halted := by
  intro h2
  rw [(State.raiseLatch_stc level c o s).2] at h2
  by_cases hs : s.stc.latch = 2
  · exact (State.raiseLatch_damps level c o s).zero (h hs)
  · obtain rfl : level = 2 := by omega
    have hlt : s.stc.latch < 2 := by omega
    simp only [State.raiseLatch, hlt, if_true]
    exact State.notifyRise_zero ..

theorem State.Halted.raise {s : State} (h : s.Halted) (c : Cause) : (s.raise c).Halted := by
  have hj : (s.joined c).Halted := by
    intro h2
    exact h ((State.joined_stc c s).2.symm.trans h2)
  rw [State.raise_eq]
  split
  · split
    · have hp : (((s.joined c).putFrame (.stop c.level c.code)).1.requestPos true).Halted := by
        intro h2
        simpa using hj (by simpa using h2)
      have hr := hp.raiseLatch c.level_le (.local_ c) (s.joined c).cfg.opt.station
      intro h2
      simpa [State.levelRises] using hr (by simpa [State.levelRises] using h2)
    · exact hj
  · exact h

end Sys2Proof.Machine

namespace Sys2Proof.Machine

/-! ### Removals and slot changes leave the stops alone -/

/-- The latch is kept, and of the causes at most FOREIGN changes (R61). -/
def State.Eases (s t : State) : Prop :=
  t.stc.latch = s.stc.latch ∧ ∀ c, c ≠ .foreign → (c ∈ t.stc.causes ↔ c ∈ s.stc.causes)

theorem State.eases_of_stc {s t : State} (h : t.stc = s.stc) : s.Eases t := by simp [State.Eases, h]

theorem State.Eases.refl (s : State) : s.Eases s := State.eases_of_stc rfl

theorem State.Eases.trans {s t u : State} (h : s.Eases t) (k : t.Eases u) : s.Eases u :=
  ⟨k.1.trans h.1, fun c hc => (k.2 c hc).trans (h.2 c hc)⟩

/-- A withdrawing keeps the latch and every other cause (R182). -/
theorem State.withdraw_stc (c : Cause) (s : State) : (s.withdraw c).stc =
    if s.active = true then { s.stc with causes := s.stc.causes.filter (· ≠ c) } else s.stc := by
  by_cases ha : s.active = true
  · by_cases hc : c ∈ s.stc.causes
    · simp [State.withdraw, ha, hc]
      split <;> simp
    · have : s.stc.causes.filter (· ≠ c) = s.stc.causes := by
        rw [List.filter_eq_self]
        intro x hx
        simp
        rintro rfl
        exact hc hx
      rw [this]
      simp [State.withdraw, ha, hc]
  · simp [State.withdraw, ha]

theorem State.withdraw_eases {s : State} : s.Eases (s.withdraw .foreign) := by
  rw [State.Eases, State.withdraw_stc]
  split
  · simp +contextual
  · simp

theorem State.foreignAfter_eases {before : Bool} {s : State} (h : s.foreignSeen = true → before = true) :
    s.Eases (s.foreignAfter before) := by
  rcases State.foreignAfter_withdraws before s h with e | e <;> rw [e]
  · exact .refl s
  · exact State.withdraw_eases

section
variable {tell : Nat → State → State} (h : ∀ (n : Nat) (t : State), t.Eases (tell n t))
include h

theorem State.removeWith_eases (station : Nat) (s : State) : s.Eases (s.removeWith tell station) := by
  simp only [State.removeWith]
  split
  · exact .refl s
  · have w : s.Eases ((s.setPtb (s.ptb.filter fun r => r.station ≠ station)).foreignAfter s.foreignSeen) :=
      State.foreignAfter_eases (s := s.setPtb _) (State.foreignSeen_filter _ s)
    split
    · exact w.trans (h _ _)
    · exact w

theorem State.pinWith_eases (f : Pin) (station : Option Nat) (s : State) : s.Eases (s.pinWith tell f station) := by
  have w : s.Eases (s.setPtb (namePin f station s.ptb)) := .refl s
  simp only [State.pinWith]
  split
  · exact w
  · split
    · exact w
    · split
      · exact w.trans (State.removeWith_eases h _ _)
      · exact w

theorem State.liftWith_eases (k : SlotId) (s : State) : s.Eases (s.liftWith tell k) := by
  simp only [State.liftWith]
  split
  · exact .refl s
  · next x _ =>
    split
    · exact State.pinWith_eases h _ _ (s.setScu _)
    · exact (State.eases_of_stc (t := s.enterClaiming k x) (by simp)).trans (State.pinWith_eases h ..)

end

theorem State.tellGone_eases (n station : Nat) (s : State) : s.Eases (s.tellGone n station) := by
  induction n generalizing station s with
  | zero => exact .refl s
  | succ n ih =>
    have first : s.Eases (if s.scu.slot1.waitsOn station then s.liftWith (State.tellGone n) .one else s) := by
      split
      · exact State.liftWith_eases ih ..
      · exact .refl s
    simp only [State.tellGone]
    generalize (if s.scu.slot1.waitsOn station then s.liftWith (State.tellGone n) .one else s) = u at first ⊢
    split
    · exact first.trans (State.liftWith_eases ih ..)
    · exact first

theorem State.tellScu_eases (station : Nat) (s : State) : s.Eases (s.tellScu station) := s.tellGone_eases _ _

theorem State.removePeer_eases (station : Nat) (s : State) : s.Eases (s.removePeer station) :=
  State.removeWith_eases State.tellScu_eases ..

theorem State.pin_eases (f : Pin) (station : Option Nat) (s : State) : s.Eases (s.pin f station) :=
  State.pinWith_eases State.tellScu_eases ..

theorem State.liftBlock_eases (k : SlotId) (s : State) : s.Eases (s.liftBlock k) :=
  State.liftWith_eases State.tellScu_eases ..

theorem State.enterWaiting_eases (k : SlotId) (x station : Nat) (s : State) : s.Eases (s.enterWaiting k x station) := by
  have w : s.Eases ((s.setScu (s.scu.moveSlot k ⟨some x, .waiting, none, some station, none⟩)).slotNotice) :=
    State.eases_of_stc (by simp)
  simp only [State.enterWaiting]
  split
  · exact w.trans (State.pin_eases ..)
  · exact w.trans (State.liftBlock_eases ..)

theorem State.freeSlot_eases (frame : Bool) (k : SlotId) (s : State) : s.Eases (s.freeSlot frame k) := by
  simp only [State.freeSlot]
  split
  · split
    · exact (State.eases_of_stc (by simp)).trans (State.pin_eases ..)
    · exact (State.eases_of_stc (by simp)).trans (State.pin_eases ..)
  · split
    · exact State.eases_of_stc (by simp)
    · exact State.eases_of_stc (by simp)

theorem State.freeAction_eases (x : Nat) (s : State) : s.Eases (s.freeAction x) := by
  simp only [State.freeAction]
  split
  · exact State.freeSlot_eases ..
  · split
    · exact State.freeSlot_eases ..
    · exact .refl s

theorem State.makeRoom_eases (s : State) : s.Eases s.makeRoom := by
  simp only [State.makeRoom]
  split
  · exact .refl s
  · split
    · exact State.removePeer_eases ..
    · exact .refl s

/-- A first hearing of the own signature adds no FOREIGN record (R48). -/
theorem State.addPeer_own_eases (station : Nat) (s : State) : s.Eases (s.addPeer station false) := by
  simp only [State.addPeer]
  split
  · refine s.makeRoom_eases.trans (State.foreignAfter_eases (s := s.makeRoom.setPtb _) ?_)
    simp [State.foreignSeen, Peer.foreignVehicle, Peer.first]
  · exact s.makeRoom_eases

theorem State.hearOwn_eases (station : Nat) (s : State) : s.Eases (s.hearOwn station) := by
  simp only [State.hearOwn]
  split
  · refine (State.eases_of_stc (by simp)).trans (State.foreignAfter_eases ?_)
    simp only [State.foreignSeen, State.mapPeer, State.setPtb_ptb, List.any_eq_true, List.mem_map]
    rintro ⟨p, ⟨q, hq, rfl⟩, hp⟩
    refine ⟨q, hq, ?_⟩
    split at hp
    · simp [Peer.foreignVehicle] at hp
    · exact hp
  · exact State.addPeer_own_eases ..

theorem State.hear_eases (station : Nat) (s : State) : s.Eases (s.hear station) := by
  simp only [State.hear]
  split
  · exact State.hearOwn_eases ..
  · exact .refl s

/-- A hearing leaves the ride as it is. -/
theorem State.hear_damps (station : Nat) (s : State) : s.Damps (s.hear station) :=
  State.damps_of_same (by simp [State.SameRide]) (by simp) (by simp)

/-! ### The scene action -/

theorem State.sceneAction_damps (s : State) : s.Damps s.sceneAction := by
  simp only [State.sceneAction]
  split
  · next x _ =>
    simp only [State.claimAction]
    split
    · exact .refl s
    · split
      · exact s.raise_damps _
      · split
        · exact State.damps_of_same (by simp [State.SameRide]) (by simp) (by simp)
        · exact State.damps_of_same (by simp [State.SameRide]) (by simp) (by simp)
  · exact State.damps_of_same (by simp [State.SameRide]) (by simp) (by simp)
  · exact .refl s

/-- Of the causes a scene action raises SCENE-OVERFLOW at most and withdraws FOREIGN at most, and the latch is at
least as high as before. -/
theorem State.sceneAction_stops (s : State) : s.stc.latch ≤ s.sceneAction.stc.latch
    ∧ (s.stc.latch = 2 → s.sceneAction.stc.latch = 2)
    ∧ ∀ c, c ≠ .foreign → c ≠ .sceneOverflow → (c ∈ s.sceneAction.stc.causes ↔ c ∈ s.stc.causes) := by
  have eased {t : State} (h : s.Eases t) : s.stc.latch ≤ t.stc.latch ∧ (s.stc.latch = 2 → t.stc.latch = 2)
      ∧ ∀ c, c ≠ .foreign → c ≠ .sceneOverflow → (c ∈ t.stc.causes ↔ c ∈ s.stc.causes) :=
    ⟨h.1.ge, fun e => h.1.trans e, fun c hf _ => h.2 c hf⟩
  simp only [State.sceneAction]
  split
  · next x _ =>
    simp only [State.claimAction]
    split
    · exact eased (.refl s)
    · split
      · refine ⟨?_, ?_, fun c _ ho => ?_⟩
        · rw [State.raise_latch]; split <;> omega
        · rw [State.raise_latch]; split <;> simp +contextual [Cause.level]
        · simp [State.mem_raise, ho]
      · split
        · exact eased (State.enterWaiting_eases ..)
        · exact eased (State.eases_of_stc (by simp))
  · exact eased (State.freeAction_eases ..)
  · exact eased (.refl s)

/-! ### Entering an entry -/

/-- The state in which the entry hands out its actions: place, cap and guide settings are in force (R14, R76). -/
def State.entering (i d : Nat) (s : State) : State :=
  ((s.placeAt i d).capLowering (s.cfg.entry i).cap).guideAction

/-- What follows the scene action of an entering. -/
def State.entryRest (s : State) : State := s.chainAction.clearFlags.evalHold.evalRelease

theorem State.enterEntry_eq (i d : Nat) (s : State) :
    s.enterEntry i d = (s.entering i d).soundAction.sceneAction.entryRest := rfl

theorem State.entryRest_frame (s : State) :
    s.entryRest.dsc = s.dsc ∧ s.entryRest.sau = s.sau ∧ s.entryRest.stc = s.stc ∧ s.entryRest.ptb = s.ptb
      ∧ s.entryRest.spe = s.spe ∧ s.entryRest.powered = s.powered ∧ s.entryRest.cfg = s.cfg
      ∧ s.entryRest.cfs = s.cfs ∧ s.entryRest.now = s.now ∧ s.entryRest.rm.timer = s.rm.timer := by
  simp [State.entryRest, State.evalRelease]

theorem State.entering_frame (i d : Nat) (s : State) :
    (s.entering i d).scu = s.scu ∧ (s.entering i d).stc = s.stc ∧ (s.entering i d).ptb = s.ptb
      ∧ (s.entering i d).spe = s.spe ∧ (s.entering i d).ni = s.ni ∧ (s.entering i d).powered = s.powered
      ∧ (s.entering i d).cfg = s.cfg ∧ (s.entering i d).cfs = s.cfs ∧ (s.entering i d).now = s.now
      ∧ (s.entering i d).sck = s.sck ∧ (s.entering i d).rm = s.rm := by
  simp [State.entering, State.placeAt]

theorem State.entering_rsq (i d : Nat) (s : State) :
    (s.entering i d).rsq = { s.rsq with entry := i, distance := d, effects := (s.cfg.entry i).effects } := by
  simp [State.entering, State.placeAt]

/-- The entry's actions but the chain start leave place, drive and measured values of `entering` at most damped. -/
theorem State.actions_damps (s : State) : s.Damps s.soundAction.sceneAction :=
  (State.damps_of_same (by simp [State.SameRide]) (by simp) (by simp)).trans (State.sceneAction_damps _)

theorem State.entryRest_place (s : State) : s.entryRest.rsq.place = { s.rsq.place with atEnd := false } := by
  have h := ((State.evalHold_rides s.chainAction.clearFlags).trans (State.evalRelease_sameRide _).rides).place
  have hc : s.chainAction.clearFlags.rsq.place = { s.chainAction.rsq.place with atEnd := false } := rfl
  rw [State.entryRest, h, hc, s.chainAction_rides.place]

/-- The place after an entering (R14): entry, distance and effects are the new ones, the end has not been reached. -/
theorem State.enterEntry_place (i d : Nat) (s : State) : (s.enterEntry i d).rsq.place =
    { s.rsq.place with entry := i, distance := d, effects := (s.cfg.entry i).effects, atEnd := false } := by
  rw [State.enterEntry_eq, State.entryRest_place, (State.actions_damps _).rides.place, State.entering_rsq]
  rfl

section
variable (i d : Nat) (s : State)

theorem State.enterEntry_known : (s.enterEntry i d).rsq.known = s.rsq.known := by
  simpa only [Rsq.place] using congrArg Rsq.known (s.enterEntry_place i d)
theorem State.enterEntry_entry : (s.enterEntry i d).rsq.entry = i := by
  simpa only [Rsq.place] using congrArg Rsq.entry (s.enterEntry_place i d)
theorem State.enterEntry_distance : (s.enterEntry i d).rsq.distance = d := by
  simpa only [Rsq.place] using congrArg Rsq.distance (s.enterEntry_place i d)
theorem State.enterEntry_atEnd : (s.enterEntry i d).rsq.atEnd = false := by
  simpa only [Rsq.place] using congrArg Rsq.atEnd (s.enterEntry_place i d)
theorem State.enterEntry_lastMarker : (s.enterEntry i d).rsq.lastMarker = s.rsq.lastMarker := by
  simpa only [Rsq.place] using congrArg Rsq.lastMarker (s.enterEntry_place i d)
theorem State.enterEntry_effects : (s.enterEntry i d).rsq.effects = (s.cfg.entry i).effects := by
  simpa only [Rsq.place] using congrArg Rsq.effects (s.enterEntry_place i d)

/-- The measured values and the timer are kept, and the guide settings are the entry's (R14). -/
theorem State.enterEntry_gauges : (s.enterEntry i d).dsc.gauges =
    { s.dsc.gauges with
      channel := (s.cfg.entry i).channel, gain := (s.cfg.entry i).gain, lossMode := (s.cfg.entry i).lossMode } := by
  have hg := (State.actions_damps (s.entering i d)).rides.gauges
  have hc := (State.capLowering_sameRide (s.cfg.entry i).cap (s.placeAt i d)).rides.gauges
  rw [State.enterEntry_eq, (State.entryRest_frame _).1, hg]
  simp only [State.entering, State.guideAction, State.entry, State.setDsc_dsc, State.capLowering_frame]
  have hp : (s.placeAt i d).dsc.gauges = s.dsc.gauges := rfl
  rw [← hp, ← hc]
  rfl

theorem State.enterEntry_channel : (s.enterEntry i d).dsc.channel = (s.cfg.entry i).channel := by
  simpa only [Dsc.gauges] using congrArg Dsc.channel (s.enterEntry_gauges i d)
theorem State.enterEntry_gain : (s.enterEntry i d).dsc.gain = (s.cfg.entry i).gain := by
  simpa only [Dsc.gauges] using congrArg Dsc.gain (s.enterEntry_gauges i d)
theorem State.enterEntry_lossMode : (s.enterEntry i d).dsc.lossMode = (s.cfg.entry i).lossMode := by
  simpa only [Dsc.gauges] using congrArg Dsc.lossMode (s.enterEntry_gauges i d)

/-- The entered entry's cap is in force, and the authority rises by no entering (R76). -/
theorem State.enterEntry_authority :
    (s.enterEntry i d).sau.authority ≤ (s.cfg.entry i).cap ∧ (s.enterEntry i d).sau.authority ≤ s.sau.authority := by
  have h := (State.actions_damps (s.entering i d)).authority
  have hc : (s.entering i d).sau.authority ≤ (s.cfg.entry i).cap
      ∧ (s.entering i d).sau.authority ≤ s.sau.authority := by
    simp only [State.entering, State.guideAction, State.setDsc_sau, State.capLowering, State.handAuthority]
    split
    · next hlt => exact ⟨Nat.le_refl _, Nat.le_of_lt hlt⟩
    · next hge => exact ⟨Nat.le_of_not_lt hge, Nat.le_refl _⟩
  rw [State.enterEntry_eq, (State.entryRest_frame _).2.1]
  omega

theorem State.entering_dsc : (s.entering i d).dsc.motion = s.dsc.motion
    ∧ (s.entering i d).dsc.brakeReleased = s.dsc.brakeReleased ∧ (s.entering i d).dsc.command ≤ s.dsc.command := by
  simp only [State.entering, State.guideAction, State.setDsc_dsc, State.capLowering]
  split
  · exact ⟨rfl, rfl, Nat.min_le_left ..⟩
  · exact ⟨rfl, rfl, Nat.le_refl _⟩

theorem State.enterEntry_command : (s.enterEntry i d).dsc.command ≤ s.dsc.command := by
  rw [State.enterEntry_eq, (State.entryRest_frame _).1]
  exact (State.actions_damps (s.entering i d)).command.trans (s.entering_dsc i d).2.2

/-- A LOST and a BRAKED vehicle stay so at an entering. -/
theorem State.enterEntry_still (h : s.dsc.motion = .lost ∨ s.dsc.motion = .braked) :
    (s.enterEntry i d).dsc.motion = s.dsc.motion ∧ (s.enterEntry i d).dsc.brakeReleased = s.dsc.brakeReleased := by
  obtain ⟨hm, hb, -⟩ := s.entering_dsc i d
  rw [State.enterEntry_eq, (State.entryRest_frame _).1]
  obtain ⟨km, kb⟩ := (State.actions_damps (s.entering i d)).still (hm ▸ h)
  exact ⟨km.trans hm, kb.trans hb⟩

theorem State.enterEntry_lost : (s.enterEntry i d).dsc.motion = .lost ↔ s.dsc.motion = .lost := by
  rw [State.enterEntry_eq, (State.entryRest_frame _).1, (State.actions_damps (s.entering i d)).rides.lost,
    (s.entering_dsc i d).1]

theorem State.enterEntry_active (h : s.active = true) : (s.enterEntry i d).active = true := by
  have he : (s.entering i d).active = s.active := by
    obtain ⟨-, -, -, -, -, hp, -, hcfs, -⟩ := s.entering_frame i d
    simp only [State.active, hp, hcfs, (s.entering_dsc i d).1]
  obtain ⟨hd, -, -, -, -, hp, -, hcfs, -⟩ := State.entryRest_frame (s.entering i d).soundAction.sceneAction
  have h2 := (State.actions_damps (s.entering i d)).rides.active (he.trans h)
  rw [State.enterEntry_eq]
  simpa only [State.active, hd, hp, hcfs] using h2

/-- An entering raises SCENE-OVERFLOW at most and withdraws FOREIGN at most, and keeps a latch of 2. -/
theorem State.enterEntry_stops : (s.stc.latch = 2 → (s.enterEntry i d).stc.latch = 2)
    ∧ ∀ c, c ≠ .foreign → c ≠ .sceneOverflow → (c ∈ (s.enterEntry i d).stc.causes ↔ c ∈ s.stc.causes) := by
  have h := (s.entering i d).soundAction.sceneAction_stops
  have hs : (s.entering i d).soundAction.stc = s.stc := by simp [State.entering_frame]
  rw [hs] at h
  rw [State.enterEntry_eq, (State.entryRest_frame _).2.2.1]
  exact h.2

end

end Sys2Proof.Machine

namespace Sys2Proof.Machine

/-! ### The end tests -/

/-- Short of an entry's length, and not held at its end, nothing is due. -/
theorem State.endTest_of_short {s : State} (he : s.rsq.atEnd = false) (hd : s.rsq.distance < s.entry.length * 1000) :
    s.endTest = .stay := by
  have hl : ¬ (s.entry.length + s.entry.window) * 1000 ≤ s.rsq.distance := by omega
  simp [State.endTest, he, hd, hl]

theorem State.settleEnds_of_stay {s : State} (h : s.endTest = .stay) : s.settleEnds = s := by
  simp [State.settleEnds, advanceBound, State.runEnds, h]

/-- One advance that leads to a place where nothing is due. -/
theorem State.settleEnds_of_go {s : State} {passed : Bool} {carry : Nat} (hk : s.rsq.known = true)
    (h : s.endTest = .go passed carry) (hs : (s.advance passed false carry).endTest = .stay) :
    s.settleEnds = s.advance passed false carry := by
  simp [State.settleEnds, advanceBound, State.runEnds, hk, h, hs]

theorem State.settleEnds_of_wait {s : State} (hk : s.rsq.known = true) (h : s.endTest = .wait) :
    s.settleEnds = s.setRsq { s.rsq with atEnd := true } := by
  simp [State.settleEnds, advanceBound, State.runEnds, hk, h]

theorem State.settleEnds_of_fault {s : State} (hk : s.rsq.known = true) (h : s.endTest = .fault) :
    s.settleEnds = s.positionFault := by
  simp [State.settleEnds, advanceBound, State.runEnds, hk, h]

theorem State.actOnRelease_of_not_atEnd {s : State} (h : s.rsq.atEnd = false) : s.actOnRelease = s := by
  simp [State.actOnRelease, h]

/-- Of a vehicle that is not held at an entry's end the action on the slots changes the hold-released flag alone, and
that at a KNOWN position only (R18). -/
theorem State.afterSlots_of_not_atEnd {s : State} (h : s.rsq.atEnd = false) (u : Scu) :
    s.afterSlots u = s ∨ (s.rsq.known = true ∧ s.afterSlots u = s.setRsq { s.rsq with released := true }) := by
  simp only [State.afterSlots]
  split
  · have hs : s.sceneTest.rsq.atEnd = false := s.sceneTest_rides.atEnd.trans h
    rw [State.actOnRelease_of_not_atEnd hs]
    simp only [State.sceneTest]
    split
    · split
      · next hc => exact .inr ⟨by simp_all, rfl⟩
      · exact .inl rfl
    all_goals exact .inl rfl
  · exact .inl rfl

/-- A place short of its entry's length: the effects, cap and guide settings of the entry are in force. -/
structure State.Stands (i d : Nat) (marker : Option Nat) (t : State) : Prop where
  known : t.rsq.known = true
  index : t.rsq.entry = i
  distance : t.rsq.distance = d
  atEnd : t.rsq.atEnd = false
  lastMarker : t.rsq.lastMarker = marker
  effects : t.rsq.effects = (t.cfg.entry i).effects
  cap : t.sau.authority ≤ (t.cfg.entry i).cap
  channel : t.dsc.channel = (t.cfg.entry i).channel
  gain : t.dsc.gain = (t.cfg.entry i).gain
  lossMode : t.dsc.lossMode = (t.cfg.entry i).lossMode

/-- The settings in force are those of the entry, whose configuration may stand in another state. -/
theorem State.Stands.settings {t : State} {i d : Nat} {m : Option Nat} {c : Configuration} (h : t.Stands i d m)
    (hc : t.cfg = c) : t.rsq.effects = (c.entry i).effects ∧ t.sau.authority ≤ (c.entry i).cap
      ∧ t.dsc.channel = (c.entry i).channel ∧ t.dsc.gain = (c.entry i).gain
      ∧ t.dsc.lossMode = (c.entry i).lossMode :=
  hc ▸ ⟨h.effects, h.cap, h.channel, h.gain, h.lossMode⟩

theorem State.Stands.damps {s t : State} {i d : Nat} {m : Option Nat} (h : s.Stands i d m) (k : s.Damps t) :
    t.Stands i d m := by
  have hg := k.rides.gauges
  refine ⟨k.rides.known.trans h.known, k.rides.entryIndex.trans h.index, k.rides.distance.trans h.distance,
    k.rides.atEnd.trans h.atEnd, k.rides.lastMarker.trans h.lastMarker, ?_, ?_, ?_, ?_, ?_⟩ <;> rw [k.rides.cfg]
  · exact k.rides.effects.trans h.effects
  · exact k.authority.trans h.cap
  · rw [← h.channel]
    simpa only [Dsc.gauges] using congrArg Dsc.channel hg
  · rw [← h.gain]
    simpa only [Dsc.gauges] using congrArg Dsc.gain hg
  · rw [← h.lossMode]
    simpa only [Dsc.gauges] using congrArg Dsc.lossMode hg

theorem State.Stands.afterSlots {s : State} {i d : Nat} {m : Option Nat} (h : s.Stands i d m) (u : Scu) :
    (s.afterSlots u).Stands i d m := by
  rcases State.afterSlots_of_not_atEnd h.atEnd u with e | ⟨-, e⟩ <;> rw [e]
  · exact h
  · exact ⟨h.known, h.index, h.distance, h.atEnd, h.lastMarker, h.effects, h.cap, h.channel, h.gain, h.lossMode⟩

theorem State.Stands.endTest {s : State} {i d : Nat} {m : Option Nat} (h : s.Stands i d m)
    (hd : d < (s.cfg.entry i).length * 1000) : s.endTest = .stay :=
  State.endTest_of_short h.atEnd (by rwa [State.entry, h.index, h.distance])

theorem State.enterEntry_stands {s : State} (hk : s.rsq.known = true) (i d : Nat) :
    (s.enterEntry i d).Stands i d s.rsq.lastMarker where
  known := (s.enterEntry_known i d).trans hk
  index := s.enterEntry_entry i d
  distance := s.enterEntry_distance i d
  atEnd := s.enterEntry_atEnd i d
  lastMarker := s.enterEntry_lastMarker i d
  effects := by simpa using s.enterEntry_effects i d
  cap := by simpa using (s.enterEntry_authority i d).1
  channel := by simpa using s.enterEntry_channel i d
  gain := by simpa using s.enterEntry_gain i d
  lossMode := by simpa using s.enterEntry_lossMode i d

/-- The state before the entering of an advance: the passed hold's cause is raised, and the last marker set (R12, R20). -/
def State.leaving (passed inTime : Bool) (s : State) : State :=
  let s1 := if passed then s.raise .overrun else s
  s1.setRsq { s1.rsq with lastMarker := s.markerLeft inTime }

/-- The raising before an advance, where it passes a pending hold. -/
theorem State.leaving_damps (passed : Bool) (s : State) : s.Damps (if passed then s.raise .overrun else s) := by
  split
  · exact s.raise_damps _
  · exact .refl s

theorem State.advance_eq (passed inTime : Bool) (carry : Nat) (s : State) :
    s.advance passed inTime carry = (s.leaving passed inTime).enterEntry (s.cfg.successor s.rsq.entry) carry := by
  have h := (s.leaving_damps passed).rides
  have hm (u : State) (hu : s.Rides u) : u.markerLeft inTime = s.markerLeft inTime := by
    simp only [State.markerLeft, hu.entry, hu.atEnd]
  simp only [State.advance, State.leaving, h.cfg, h.entryIndex, hm _ h]

theorem State.advance_stands {s : State} (hk : s.rsq.known = true) (passed inTime : Bool) (carry : Nat) :
    (s.advance passed inTime carry).Stands (s.cfg.successor s.rsq.entry) carry (s.markerLeft inTime) := by
  have hl : (s.leaving passed inTime).rsq.known = true := (s.leaving_damps passed).rides.known.trans hk
  rw [State.advance_eq]
  exact State.enterEntry_stands hl _ carry

/-- What one advance to a place short of the successor's length leaves. -/
theorem State.settleEnds_stands {s : State} {passed : Bool} {carry : Nat} (hk : s.rsq.known = true)
    (h : s.endTest = .go passed carry) (hc : carry < (s.cfg.entry (s.cfg.successor s.rsq.entry)).length * 1000) :
    s.settleEnds = s.advance passed false carry :=
  State.settleEnds_of_go hk h ((State.advance_stands hk passed false carry).endTest (by simpa using hc))

end Sys2Proof.Machine

namespace Sys2Proof.Machine

/-! ### Releases of a hold -/

/-- The conditions of R119, where the flag has yet to be set. -/
def State.Dispatches (src : Nat) (s : State) : Prop :=
  s.entry.platform = some src ∧ s.entry.hold = .dispatch ∧ s.dsc.motion = .held ∧ s.rm.vehicle = .secure
    ∧ s.rsq.released = false

theorem State.grantDispatch_of {s : State} {src : Nat} (h : s.Dispatches src) :
    s.grantDispatch src = (s.setRsq { s.rsq with released := true }).actOnRelease := by
  obtain ⟨hp, hh, hm, hv, hr⟩ := h
  exact if_pos (by simp [State.dispatchAccepted, State.atPlatform, hp, hh, hm, hv, hr])

theorem State.grantDispatch_of_not {s : State} {src : Nat} (h : ¬ s.Dispatches src) : s.grantDispatch src = s := by
  refine if_neg ?_
  simpa [State.Dispatches, State.dispatchAccepted, State.atPlatform, and_assoc] using h

/-- A released hold at an entry's end, with less than 100 mm of creep, is left into the successor (R13, R20). -/
theorem State.actOnRelease_stands {s : State} (hk : s.rsq.known = true) (hr : s.rsq.released = true)
    (he : s.rsq.atEnd = true) (hd : s.rsq.distance < s.entry.length * 1000 + 100000)
    (hle : s.entry.length * 1000 ≤ s.rsq.distance)
    (hl : 100 ≤ (s.cfg.entry (s.cfg.successor s.rsq.entry)).length) :
    s.actOnRelease.Stands (s.cfg.successor s.rsq.entry) (s.rsq.distance - s.entry.length * 1000)
      (if s.entry.marker = 0 then none else some s.entry.marker) := by
  have ht : s.endTest = .go false (s.rsq.distance - s.entry.length * 1000) := by
    simp [State.endTest, State.holdPending, he, hr]
  have hm : s.markerLeft false = if s.entry.marker = 0 then none else some s.entry.marker := by
    simp [State.markerLeft, he]
  have ha : s.actOnRelease = s.settleEnds := if_pos (by simp [hk, hr, he])
  rw [ha, State.settleEnds_stands hk ht (by omega), ← hm]
  exact State.advance_stands hk ..

end Sys2Proof.Machine

open Sys2Proof.Machine in
/-- Settles O24: a release sets the flag; short of the end nothing follows, and at the end one advance does. -/
theorem releasesSetTheFlagAndAdvanceAtTheEnd : Obligations.ReleasesSetTheFlagAndAdvanceAtTheEnd := by
  unfold Obligations.ReleasesSetTheFlagAndAdvanceAtTheEnd
  refine ⟨fun dt h s hr hp hh hm hv hrel he => ?flag, fun dt h s hr hn => ?hearing, fun dt d s hd he => ?dwell,
    fun dt h s hr hp hh hm hv hrel he hk hle hlt hl => ?advance⟩
  case flag =>
    have acts (u : State) (hu : u.Dispatches h.src) (e : u.rsq.atEnd = false) :
        u.grantDispatch h.src = u.setRsq { u.rsq with released := true } := by
      rw [State.grantDispatch_of hu]
      exact State.actOnRelease_of_not_atEnd e
    refine congrArg Host.Outcome.next (State.receive_beside (f := ⟨h.src, h.sig, .grant s.cfg.opt.station .dispatch⟩)
      (P := fun t => t = { s.heard dt h.src with choices := s.choices + 1, rsq := { s.rsq with released := true } })
      _ hr (State.deliver_grant dt h.src .dispatch) ?_ ?_)
    · simp only [State.grant]
      rw [acts (s.heardFirst dt h.src) ⟨hp, hh, hm, hv, hrel⟩ he]
      exact State.afterSlots_of_same _ s.scu rfl rfl
    · simp only [State.grant]
      rw [acts (s.heardLast dt) ⟨hp, hh, hm, hv, hrel⟩ he, hr.hear_last (u := (s.heardLast dt).setRsq _) hr.1 rfl]
      exact State.afterSlots_of_same _ s.scu rfl rfl
  case hearing =>
    have refused : ∀ u : State, u.entry = s.entry → u.dsc = s.dsc → u.rm = s.rm → u.rsq = s.rsq →
        ¬ u.Dispatches h.src := by
      rintro u e1 e2 e3 e4 ⟨hp, hh, hm, hv, hrel⟩
      rw [e1, e2, e3, e4] at *
      simp_all
    exact congrArg Host.Outcome.next (State.receive_grant_ignored dt h .dispatch s hr
      (State.grantDispatch_of_not (refused _ rfl rfl rfl rfl))
      (State.grantDispatch_of_not (refused _ rfl rfl rfl rfl)))
  case dwell =>
    have hx : s.onExpiry dt s.rsq.dwell State.dwellOver = (s.elapseTo dt (d * 1000)).dwellOver := by
      rw [hd]
      rfl
    have ho : (s.elapseTo dt (d * 1000)).dwellOver
        = (s.elapseTo dt (d * 1000)).setRsq { s.rsq with released := true, dwell := none } := by
      have e : ((s.elapseTo dt (d * 1000)).setRsq { s.rsq with released := true, dwell := none }).actOnRelease = _ :=
        State.actOnRelease_of_not_atEnd he
      exact (congrArg (State.afterSlots s.scu) e).trans (State.afterSlots_of_same _ _ rfl rfl)
    exact congrArg Host.Outcome.next (hx.trans ho)
  case advance =>
    have acts (u : State) (hu : u.Dispatches h.src) (er : u.rsq = s.rsq) (ec : u.cfg = s.cfg) :
        (u.grantDispatch h.src).Stands (s.cfg.successor s.rsq.entry) (s.rsq.distance - s.entry.length * 1000)
          (if s.entry.marker = 0 then none else some s.entry.marker) := by
      have ee : u.entry = s.entry := by rw [State.entry, er, ec]; rfl
      rw [State.grantDispatch_of hu, ← er, ← ec, ← ee]
      rw [← er] at hk he hlt hle hl
      rw [← ec] at hl
      rw [← ee] at hlt hle
      exact State.actOnRelease_stands (s := u.setRsq { u.rsq with released := true }) hk rfl he hlt hle hl
    have key := State.receive_beside (dt := dt) (f := ⟨h.src, h.sig, .grant s.cfg.opt.station .dispatch⟩)
      (P := fun t => t.Stands (s.cfg.successor s.rsq.entry) (s.rsq.distance - s.entry.length * 1000)
        (if s.entry.marker = 0 then none else some s.entry.marker) ∧ t.cfg = s.cfg ∧ t.cfs = s.cfs ∧ t.now = s.now + dt)
      _ hr (State.deliver_grant dt h.src .dispatch)
      ⟨(acts (s.heardFirst dt h.src) ⟨hp, hh, hm, hv, hrel⟩ rfl rfl).afterSlots _, by simp [State.grant]; exact ⟨rfl, rfl, rfl⟩⟩
      ⟨((acts (s.heardLast dt) ⟨hp, hh, hm, hv, hrel⟩ rfl rfl).damps (State.hear_damps ..)).afterSlots _,
        by simp [State.grant]; exact ⟨rfl, rfl, rfl⟩⟩
    obtain ⟨ht, hcfg, hcfs, hnow⟩ := key
    obtain ⟨heff, hcap, hch, -⟩ := ht.settings hcfg
    exact ⟨_, rfl, ht.known, ht.index, ht.distance, ht.atEnd, ht.lastMarker, heff, hcap, hch, hcfg, hcfs, hnow⟩

namespace Sys2Proof.Machine

/-! ### Pulses -/

/-- The measured values of the DSC, which no event of the route touches: motion, command, brake line and the guide
settings set aside. -/
def Dsc.measures (d : Dsc) : Dsc := { d.gauges with channel := none, gain := 0, lossMode := .hold }

/-- A change that keeps the measured values, an acting part acting and GUIDE raised. -/
structure State.Counts (s t : State) : Prop where
  measures : t.dsc.measures = s.dsc.measures
  active : s.active = true → t.active = true
  guide : .guide ∈ s.stc.causes → .guide ∈ t.stc.causes

theorem State.Counts.refl (s : State) : s.Counts s := ⟨rfl, id, id⟩

theorem State.Counts.trans {s t u : State} (h : s.Counts t) (k : t.Counts u) : s.Counts u :=
  ⟨k.measures.trans h.measures, k.active ∘ h.active, k.guide ∘ h.guide⟩

theorem State.Rides.counts {s t : State} (h : s.Rides t) (hg : .guide ∈ s.stc.causes → .guide ∈ t.stc.causes) :
    s.Counts t :=
  ⟨by rw [Dsc.measures, Dsc.measures, h.gauges], h.active, hg⟩

theorem State.raise_counts (c : Cause) (s : State) : s.Counts (s.raise c) :=
  (s.raise_rides c).counts fun h => State.mem_raise.mpr (.inl h)

theorem State.setRsq_counts (r : Rsq) (s : State) : s.Counts (s.setRsq r) := ⟨rfl, id, id⟩

theorem State.chainPulse_counts (s : State) : s.Counts (if s.rsq.known then s.chainPulse else s) := by
  split
  · exact s.chainPulse_sameRide.rides.counts (by simp)
  · exact .refl s

theorem State.enterEntry_counts (i d : Nat) (s : State) : s.Counts (s.enterEntry i d) where
  measures := by simp only [Dsc.measures, State.enterEntry_gauges]
  active := s.enterEntry_active i d
  guide := ((s.enterEntry_stops i d).2 .guide (by decide) (by decide)).mpr

theorem State.leaving_counts (passed inTime : Bool) (s : State) : s.Counts (s.leaving passed inTime) := by
  have h : s.Counts (if passed then s.raise .overrun else s) := by
    split
    · exact s.raise_counts _
    · exact .refl s
  exact h.trans (State.setRsq_counts _ _)

theorem State.advance_counts (passed inTime : Bool) (carry : Nat) (s : State) :
    s.Counts (s.advance passed inTime carry) := by
  rw [State.advance_eq]
  exact (s.leaving_counts ..).trans (State.enterEntry_counts ..)

/-- The state of a position fault before POSITION is raised (R21, R75, R91). -/
def State.lostPosition (s : State) : State := ((s.setRsq s.rsq.lose).authorityLost).setMotion .lost

theorem State.positionFault_eq (s : State) : s.positionFault = s.lostPosition.raise .position := rfl

theorem State.lostPosition_active {s : State} (h : s.active = true) : s.lostPosition.active = true := by
  obtain ⟨hp, hl, -⟩ := s.active_iff.mp h
  simp [State.active_iff, State.lostPosition, hp, hl]

theorem State.lostPosition_counts (s : State) : s.Counts s.lostPosition where
  measures := by
    simp only [Dsc.measures, State.lostPosition, State.setMotion_gauges,
      (State.authorityLost_sameRide (s.setRsq s.rsq.lose)).rides.gauges, State.setRsq_dsc]
  active := State.lostPosition_active
  guide := by simp [State.lostPosition]

theorem State.positionFault_counts (s : State) : s.Counts s.positionFault :=
  s.lostPosition_counts.trans (State.raise_counts ..)

theorem State.runEnds_counts (n : Nat) (s : State) : s.Counts (s.runEnds n) := by
  induction n generalizing s with
  | zero => exact .refl s
  | succ n ih =>
    simp only [State.runEnds]
    split
    · exact .refl s
    · exact s.setRsq_counts _
    · exact s.positionFault_counts
    · exact (s.advance_counts ..).trans (ih _)

theorem State.settleEnds_counts (s : State) : s.Counts s.settleEnds := by
  simp only [State.settleEnds]
  split
  · exact s.runEnds_counts _
  · exact .refl s

theorem State.afterSlots_counts (u : Scu) (s : State) : s.Counts (s.afterSlots u) := by
  simp only [State.afterSlots, State.actOnRelease]
  have ht : s.Counts s.sceneTest := s.sceneTest_rides.counts (by simp)
  split
  · split
    · exact ht.trans (State.settleEnds_counts _)
    · exact ht
  · exact .refl s

theorem State.routePulse_counts (s : State) : s.Counts s.routePulse := by
  simp only [State.routePulse]
  split
  · exact (s.setRsq_counts _).trans (State.settleEnds_counts _)
  · exact .refl s

theorem State.chainAndRoute_counts (s : State) : s.Counts s.chainAndRoute :=
  s.chainPulse_counts.trans (State.routePulse_counts _)

/-- In each of the three orders GUIDE is raised in the part that acts (R102). -/
theorem State.pulseWithLoss_counts (s : State) :
    s.Counts s.pulseWithLoss ∧ (s.active = true → .guide ∈ s.pulseWithLoss.stc.causes) := by
  have h0 : s.Counts s.settled := (State.settled_sameRide s).rides.counts (by simp)
  have raised {t : State} (h : s.Counts t) :
      s.Counts (t.raise .guide) ∧ (s.active = true → .guide ∈ (t.raise .guide).stc.causes) :=
    ⟨h.trans (t.raise_counts _), fun ha => State.mem_raise.mpr (.inr ⟨rfl, h.active ha⟩)⟩
  have after {t u : State} (h : s.Counts t ∧ (s.active = true → .guide ∈ t.stc.causes)) (k : t.Counts u) :
      s.Counts u ∧ (s.active = true → .guide ∈ u.stc.causes) :=
    ⟨h.1.trans k, fun ha => k.guide (h.2 ha)⟩
  simp only [State.pulseWithLoss]
  split
  · exact after (raised h0) (State.chainAndRoute_counts _)
  · exact after (raised (h0.trans (State.chainPulse_counts _))) (State.routePulse_counts _)
  · exact raised (h0.trans (State.chainAndRoute_counts _))

theorem exec_odometerPulse {s : State} (h : s.active = true) (dt : Nat) :
    exec (.odometerPulse dt) s = .next (s.elapse dt).pulse :=
  congrArg Host.Outcome.next (if_pos h)

/-- The state in which the blocks act on a pulse that counts no loss. -/
def State.counted (dt : Nat) (s : State) : State :=
  { s with now := s.now + dt, dsc := { s.dsc with pulses := s.dsc.pulses + 1 } }

/-- On the wire a pulse neither counts a loss nor raises GUIDE. -/
theorem exec_odometerPulse_onWire {s : State} (ha : s.active = true) (hg : s.dsc.guide ≠ .offWire) (dt : Nat) :
    exec (.odometerPulse dt) s = .next ((s.counted dt).chainAndRoute.afterSlots s.scu) := by
  have hr : (s.elapse dt).dsc.lossReached (s.elapse dt).cfg.opt = false := by simp [Dsc.lossReached, hg]
  have hc : (s.elapse dt).setDsc ((s.elapse dt).dsc.pulse (s.elapse dt).cfg.opt) = s.counted dt := by
    simp [Dsc.pulse, Dsc.countLoss, hg]
    rfl
  rw [exec_odometerPulse ha, State.pulse, hc, if_neg (by rw [hr]; simp)]
  rfl

theorem State.chainAndRoute_of_known {s : State} (h : s.rsq.known = true) :
    s.chainAndRoute = s.chainPulse.routePulse := congrArg State.routePulse (if_pos h)

/-- With the position LOST a pulse moves nothing (R4). -/
theorem State.chainAndRoute_of_lost {s : State} (h : s.rsq.known = false) : s.chainAndRoute = s := by
  simp [State.chainAndRoute, State.routePulse, h]

end Sys2Proof.Machine

namespace Sys2Proof.Machine

/-! ### Pulses that are counted -/

/-- A pulse leaves the measured values as the DSC's counting does, and raises GUIDE where the loss is reached. -/
theorem State.pulse_counts (s : State) : s.pulse.dsc.measures = (s.dsc.pulse s.cfg.opt).measures
    ∧ (s.active = true → s.dsc.lossReached s.cfg.opt = true → .guide ∈ s.pulse.stc.causes) := by
  have ha : (s.setDsc (s.dsc.pulse s.cfg.opt)).active = s.active := by
    simp only [State.active, State.setDsc_dsc, (s.dsc.pulse_timer s.cfg.opt).2]
    rfl
  simp only [State.pulse]
  split
  · next hl =>
    obtain ⟨h, hg⟩ := State.pulseWithLoss_counts (s.setDsc (s.dsc.pulse s.cfg.opt))
    exact ⟨(h.trans (State.afterSlots_counts ..)).measures,
      fun h _ => (State.afterSlots_counts ..).guide (hg (ha.trans h))⟩
  · next hl => exact ⟨((State.chainAndRoute_counts _).trans (State.afterSlots_counts ..)).measures, fun _ h => absurd h hl⟩

theorem Dsc.fields_of_measures {d e : Dsc} (h : d.measures = e.measures) :
    d.pulses = e.pulses ∧ d.history = e.history ∧ d.speed = e.speed ∧ d.steering = e.steering ∧ d.loss = e.loss := by
  simp only [Dsc.measures, Dsc.gauges, Dsc.mk.injEq] at h
  tauto

theorem Dsc.pulse_fields (opt : Options) (d : Dsc) : (d.pulse opt).pulses = d.pulses + 1
    ∧ (d.pulse opt).history = d.history ∧ (d.pulse opt).speed = d.speed ∧ (d.pulse opt).steering = d.steering := by
  simp only [Dsc.pulse, Dsc.countLoss]
  split <;> simp

/-- A pulse that stays short of the entry's length moves the distance alone (R5). -/
theorem State.routePulse_of_short {s : State} (hk : s.rsq.known = true) (he : s.rsq.atEnd = false)
    (hd : s.rsq.distance + s.cfg.opt.odometer < s.entry.length * 1000) :
    s.routePulse = s.setRsq { s.rsq with distance := s.rsq.distance + s.cfg.opt.odometer } :=
  (if_pos hk).trans (State.settleEnds_of_stay (State.endTest_of_short he hd))

/-- A word that waits for no distance leaves a pulse to the chain distance alone (R134). -/
theorem State.chainPulse_of_not_trigger {s : State} (hc : s.scu.chain.running = true)
    (hr : s.scu.chain.reason ≠ .trigger) : s.chainPulse = s.setChain { s.scu.chain with
      distance := min 4294967295 (s.scu.chain.distance + s.cfg.opt.odometer) } := by
  exact (if_pos hc).trans (if_neg (by simp [State.setChain, hr]))

theorem State.chainPulse_of_none {s : State} (hc : s.scu.chain.running = false) : s.chainPulse = s := by
  simp [State.chainPulse, hc]

/-- The expected marker, read in time with the hold pending, snaps the distance and sets the at-end flag (R7). -/
theorem State.readMarker_inTime_hold {s : State} {id : Nat} (he : s.rsq.atEnd = false) (hm : s.entry.marker ≠ 0)
    (hid : id = s.entry.marker) (hd : s.entry.length * 1000 ≤ s.rsq.distance + s.entry.window * 1000)
    (hh : s.holdPending = true) :
    s.readMarker id = s.setRsq { s.rsq with distance := s.entry.length * 1000, atEnd := true } := by
  have h : s.readMarker id = s.inTimeRead := by simp [State.readMarker, hm, hid, he, hd]
  rw [h]
  exact if_pos hh

/-- A marker read while the part acts at a KNOWN position. -/
theorem exec_markerRead {s : State} (ha : s.active = true) (hk : s.rsq.known = true) (dt id : Nat) :
    exec (.markerRead dt id) s = .next (((s.elapse dt).readMarker id).afterSlots s.scu) :=
  congrArg Host.Outcome.next (if_pos (by simp only [Bool.and_eq_true]; exact ⟨ha, hk⟩))

theorem exec_markerRead_inTime_hold {dt id : Nat} {s : State} (ha : s.active = true) (hk : s.rsq.known = true)
    (he : s.rsq.atEnd = false) (hm : s.entry.marker ≠ 0) (hid : id = s.entry.marker)
    (hd : s.entry.length * 1000 ≤ s.rsq.distance + s.entry.window * 1000) (hh : s.holdPending = true) :
    exec (.markerRead dt id) s = .next { s with
      now := s.now + dt, rsq := { s.rsq with distance := s.entry.length * 1000, atEnd := true } } := by
  rw [exec_markerRead ha hk, State.readMarker_inTime_hold (s := s.elapse dt) he hm hid hd hh]
  exact congrArg Host.Outcome.next (State.afterSlots_of_same _ s.scu rfl rfl)

end Sys2Proof.Machine

open Sys2Proof.Machine in
/-- Settles O31: the count by `pulse_counts`, the rest by the state a pulse short of every threshold leaves. -/
theorem pulsesAreCounted : Obligations.PulsesAreCounted := by
  unfold Obligations.PulsesAreCounted
  refine ⟨fun dt s ha => ?count, fun dt s ha hk he hg hc hd => ?short, fun dt s ha hk he hg hc hr hd => ?chain,
    fun dt s ha hk hg => ?lost, fun dt id s ha hk he hm hid hd hh => exec_markerRead_inTime_hold ha hk he hm hid hd hh⟩
  case count =>
    obtain ⟨hm, hguide⟩ := (s.elapse dt).pulse_counts
    obtain ⟨hp, hh, hsp, hst, hl⟩ := Dsc.fields_of_measures hm
    obtain ⟨kp, kh, ksp, kst⟩ := s.dsc.pulse_fields s.cfg.opt
    refine ⟨_, exec_odometerPulse ha dt, by simp, hp.trans kp, hh.trans kh, hsp.trans ksp, hst.trans kst,
      fun hg => hl.trans ?onWire, fun hg hle => ⟨hl.trans ?offWire, fun hr => hguide ha ?reached⟩⟩
    case onWire => simp [Dsc.pulse, Dsc.countLoss, hg]
    case offWire => simp [Dsc.pulse, Dsc.countLoss, hg, hle]
    case reached => simp [Dsc.lossReached, hg, hle, hr]
  case short =>
    have hr : (s.counted dt).chainAndRoute = _ := (State.chainAndRoute_of_known (s := s.counted dt) hk).trans
      ((congrArg State.routePulse (State.chainPulse_of_none (s := s.counted dt) hc)).trans
        (State.routePulse_of_short hk he hd))
    rw [exec_odometerPulse_onWire ha hg, hr]
    exact congrArg Host.Outcome.next (State.afterSlots_of_same _ s.scu rfl rfl)
  case chain =>
    have hr' : (s.counted dt).chainAndRoute = _ := (State.chainAndRoute_of_known (s := s.counted dt) hk).trans
      ((congrArg State.routePulse (State.chainPulse_of_not_trigger (s := s.counted dt) hc hr)).trans
        (State.routePulse_of_short hk he hd))
    rw [exec_odometerPulse_onWire ha hg, hr']
    exact congrArg Host.Outcome.next (State.afterSlots_of_same _ s.scu rfl rfl)
  case lost =>
    rw [exec_odometerPulse_onWire ha hg, State.chainAndRoute_of_lost (s := s.counted dt) hk]
    exact congrArg Host.Outcome.next (State.afterSlots_of_same _ s.scu rfl rfl)

namespace Sys2Proof.Machine

/-! ### Chains leave the slots alone -/

/-- Both slots are as they were. -/
def State.SameSlots (s t : State) : Prop := t.scu.slot1 = s.scu.slot1 ∧ t.scu.slot2 = s.scu.slot2

theorem State.SameSlots.refl (s : State) : s.SameSlots s := ⟨rfl, rfl⟩

theorem State.SameSlots.trans {s t u : State} (h : s.SameSlots t) (k : t.SameSlots u) : s.SameSlots u :=
  ⟨k.1.trans h.1, k.2.trans h.2⟩

theorem State.sameSlots_of_scu {s t : State} (h : t.scu = s.scu) : s.SameSlots t := by simp [State.SameSlots, h]

theorem State.SameSlots.slot {s t : State} (h : s.SameSlots t) (k : SlotId) : t.scu.slot k = s.scu.slot k := by
  cases k
  · exact h.1
  · exact h.2

/-- The RSQ has nothing to act on where the slots are as they were. -/
theorem State.SameSlots.afterSlots {s t : State} (h : s.SameSlots t) : t.afterSlots s.scu = t :=
  State.afterSlots_of_same t s.scu (by rw [h.1]) (by rw [h.2])

theorem State.setChain_sameSlots (c : Chain) (s : State) : s.SameSlots (s.setChain c) := ⟨rfl, rfl⟩

theorem State.abandonChain_sameSlots (e : ChainEnd) (s : State) : s.SameSlots (s.abandonChain e) := by
  simp only [State.abandonChain]
  split
  · exact ⟨rfl, rfl⟩
  · exact .refl s

theorem Scu.dropReport_slots (ref : Nat) (u : Scu) :
    (u.dropReport ref).slot1 = u.slot1 ∧ (u.dropReport ref).slot2 = u.slot2 := by
  simp only [Scu.dropReport]
  split
  · split <;> exact ⟨rfl, rfl⟩
  · exact ⟨rfl, rfl⟩

theorem Scu.supersede_slots (w : CueWord) (u : Scu) :
    (u.supersede w).slot1 = u.slot1 ∧ (u.supersede w).slot2 = u.slot2 := by
  simp only [Scu.supersede]
  split <;> exact ⟨rfl, rfl⟩

theorem State.nextPending_sameSlots (i : Nat) (s : State) : s.SameSlots (s.nextPending i) := by
  simp only [State.nextPending]
  split <;> exact ⟨rfl, rfl⟩

theorem State.issue_sameSlots (w : CueWord) (s : State) : s.SameSlots (s.issue w) := by
  have h := s.scu.supersede_slots w
  simp only [State.issue]
  split
  · next r _ =>
    have hd := Scu.dropReport_slots r ((s.scu.supersede w).appendRecord w s.ms)
    simpa [State.SameSlots, Scu.appendRecord, h] using hd
  · simpa [State.SameSlots, Scu.appendRecord] using h

theorem State.runChain_sameSlots (n : Nat) (met : Bool) (s : State) : s.SameSlots (s.runChain n met) := by
  induction n generalizing met s with
  | zero => exact .refl s
  | succ n ih =>
    simp only [State.runChain]
    split
    · exact .refl s
    · next i _ =>
      split
      · exact s.abandonChain_sameSlots _
      · split
        · exact .refl s
        · split
          · exact s.setChain_sameSlots _
          · split
            · have hs : s.SameSlots (s.setScu s.scu.skipWord) := ⟨rfl, rfl⟩
              exact (hs.trans (State.nextPending_sameSlots i _)).trans (ih false _)
            · split
              · exact s.setChain_sameSlots _
              · exact ((s.issue_sameSlots _).trans (State.nextPending_sameSlots i _)).trans (ih false _)

theorem State.testChain_sameSlots (s : State) : s.SameSlots s.testChain := by
  simp only [State.testChain]
  split
  · exact s.runChain_sameSlots ..
  · exact .refl s

theorem State.chainPulse_sameSlots (s : State) : s.SameSlots s.chainPulse := by
  simp only [State.chainPulse]
  split
  · exact (s.setChain_sameSlots _).trans (State.testChain_sameSlots _)
  · exact .refl s

theorem State.startChain_sameSlots (i : Nat) (s : State) : s.SameSlots (s.startChain i) :=
  (((s.abandonChain_sameSlots _).trans (State.setChain_sameSlots _ _)).trans
    (State.SameSlots.trans (State.setChain_sameSlots _ _) (.refl _))).trans (State.testChain_sameSlots _)

theorem State.chainAction_sameSlots (s : State) : s.SameSlots s.chainAction := by
  simp only [State.chainAction]
  split
  · exact (s.startChain_sameSlots _).trans (State.sameSlots_of_scu rfl)
  · exact .refl s

theorem State.retryChain_sameSlots (r : WaitReason) (s : State) : s.SameSlots (s.retryChain r) := by
  simp only [State.retryChain]
  split
  · exact s.runChain_sameSlots ..
  · exact .refl s

theorem State.reportDropped_sameSlots (f : Option Waiting) (s : State) : s.SameSlots (s.reportDropped f) := by
  simp only [State.reportDropped]
  split
  · next r _ =>
    have h : s.SameSlots (s.setScu (s.scu.dropReport r)) := s.scu.dropReport_slots r
    simp only [State.recordFreed]
    split
    · exact h.trans (State.retryChain_sameSlots ..)
    · exact h.trans (State.testChain_sameSlots _)
  · exact .refl s

theorem State.requestFrame_sameSlots (f : Waiting) (s : State) : s.SameSlots (s.requestFrame f) :=
  (State.sameSlots_of_scu (by simp)).trans (State.reportDropped_sameSlots ..)

theorem State.raise_sameSlots (c : Cause) (s : State) : s.SameSlots (s.raise c) := by
  have hn (was level : Nat) (t : State) : t.SameSlots (t.notifyRise was level) := by
    refine (State.SameSlots.trans (State.sameSlots_of_scu ?_)
      (State.abandonChain_sameSlots .abandoned ((t.authorityRise was level).driveRise level))).trans
      (State.sameSlots_of_scu rfl)
    simp
  have hl (level : Nat) (t : State) (x : StopCause) (o : Nat) : t.SameSlots (t.raiseLatch level x o) := by
    simp only [State.raiseLatch]
    split
    · exact State.SameSlots.trans (t := t.setStc _) (.refl t) (hn ..)
    · exact .refl t
  have hj : s.SameSlots (s.joined c) := .refl s
  rw [State.raise_eq]
  split
  · split
    · refine hj.trans (State.SameSlots.trans (State.SameSlots.trans (State.sameSlots_of_scu ?_) (hl c.level _ _ _))
        (State.reportDropped_sameSlots _ _))
      simp
    · exact hj
  · exact .refl s

end Sys2Proof.Machine

namespace Sys2Proof.Machine

/-! ### The end of an entry -/

/-- What the stops of a pulse may do: drive and place are damped at most, no cause is withdrawn, the latch stays at
least where it was, and its invariants are kept. -/
structure State.Tightens (s t : State) : Prop extends s.Damps t where
  causes : ∀ c ∈ s.stc.causes, c ∈ t.stc.causes
  latched : s.Latched → t.Latched
  atTwo : s.stc.latch = 2 → t.stc.latch = 2
  halted : s.Halted → t.Halted

theorem State.Tightens.refl (s : State) : s.Tightens s := ⟨.refl s, fun _ => id, id, id, id⟩

theorem State.Tightens.trans {s t u : State} (h : s.Tightens t) (k : t.Tightens u) : s.Tightens u :=
  ⟨h.toDamps.trans k.toDamps, fun c hc => k.causes c (h.causes c hc), k.latched ∘ h.latched, k.atTwo ∘ h.atTwo,
    k.halted ∘ h.halted⟩

/-- A change outside drive, place, authority and stops. -/
theorem State.tightens_of_same {s t : State} (h : s.SameRide t) (hs : t.sau = s.sau) (hd : t.dsc = s.dsc)
    (hc : t.stc = s.stc) : s.Tightens t :=
  ⟨State.damps_of_same h hs hd, fun _ h => hc ▸ h, fun h => by rwa [State.Latched, hc], fun h => hc ▸ h,
    fun h => by rwa [State.Halted, hc, hs, hd]⟩

theorem State.raise_tightens (c : Cause) (s : State) : s.Tightens (s.raise c) where
  toDamps := s.raise_damps c
  causes := fun _ h => State.mem_raise.mpr (.inl h)
  latched := fun h => h.raise c
  atTwo := fun h => by
    have := c.level_le
    rw [State.raise_latch]
    split <;> omega
  halted := fun h => h.raise c

theorem State.chainPulse_tightens (s : State) : s.Tightens (if s.rsq.known then s.chainPulse else s) := by
  split
  · exact State.tightens_of_same s.chainPulse_sameRide (by simp) (by simp) (by simp)
  · exact .refl s

/-- Whatever the order, the route's part of a pulse follows stops that tighten at most, and a raising of GUIDE may
follow it (R5, R102). -/
theorem State.pulse_cases (s : State) : ∃ u, (s.setDsc (s.dsc.pulse s.cfg.opt)).Tightens u
    ∧ (s.pulse = u.routePulse.afterSlots s.scu ∨ s.pulse = (u.routePulse.raise .guide).afterSlots s.scu) := by
  generalize hs : s.setDsc (s.dsc.pulse s.cfg.opt) = s1
  have h0 : s1.Tightens s1.settled := State.tightens_of_same s1.settled_sameRide rfl rfl rfl
  simp only [State.pulse, hs, State.pulseWithLoss]
  split
  · split
    · exact ⟨_, (h0.trans (State.raise_tightens .guide _)).trans (State.chainPulse_tightens _), .inl rfl⟩
    · exact ⟨_, (h0.trans (State.chainPulse_tightens _)).trans (State.raise_tightens .guide _), .inl rfl⟩
    · exact ⟨_, h0.trans (State.chainPulse_tightens _), .inr rfl⟩
  · exact ⟨_, State.chainPulse_tightens s1, .inl rfl⟩

/-- The place of a state after the stops of a pulse, with the distance that the pulse adds. -/
theorem State.Tightens.pulsed {s u : State} (h : (s.setDsc (s.dsc.pulse s.cfg.opt)).Tightens u) :
    u.cfg = s.cfg ∧ u.entry = s.entry ∧ u.rsq.known = s.rsq.known ∧ u.rsq.entry = s.rsq.entry
      ∧ u.rsq.distance = s.rsq.distance ∧ u.rsq.atEnd = s.rsq.atEnd
      ∧ (s.rsq.released = true → u.rsq.released = true) ∧ (s.active = true → u.active = true) := by
  have ha : (s.setDsc (s.dsc.pulse s.cfg.opt)).active = s.active := by
    simp only [State.active, State.setDsc_dsc, (s.dsc.pulse_timer s.cfg.opt).2]
    rfl
  have hr := h.rides
  exact ⟨hr.cfg, hr.entry, hr.known, hr.entryIndex, hr.distance, hr.atEnd, hr.released, fun a => hr.active (ha.trans a)⟩

/-- A property that the stops and the action on the slots keep holds after a pulse where it holds after the route's
part of it. -/
theorem State.pulse_of_routePulse {P : State → Prop} (s : State) (tight : ∀ t t' : State, t.Tightens t' → P t → P t')
    (slots : ∀ t, P t → P (t.afterSlots s.scu))
    (route : ∀ u, (s.setDsc (s.dsc.pulse s.cfg.opt)).Tightens u → P u.routePulse) : P s.pulse := by
  obtain ⟨u, hu, e | e⟩ := s.pulse_cases
  · exact e ▸ slots _ (route u hu)
  · exact e ▸ slots _ (tight _ _ (State.raise_tightens .guide _) (route u hu))

/-- The distance risen by one pulse. -/
def State.moved (s : State) : State := s.setRsq { s.rsq with distance := s.rsq.distance + s.cfg.opt.odometer }

theorem State.routePulse_of_known {s : State} (h : s.rsq.known = true) : s.routePulse = s.moved.settleEnds := if_pos h

section
variable {s : State}

theorem State.endTest_end (he : s.rsq.atEnd = false) (hm : s.entry.marker = 0) (hh : s.holdPending = false)
    (hd : s.entry.length * 1000 ≤ s.rsq.distance) : s.endTest = .go false (s.rsq.distance - s.entry.length * 1000) := by
  simp [State.endTest, he, hm, hh, Nat.not_lt.mpr hd]

theorem State.endTest_wait (he : s.rsq.atEnd = false) (hm : s.entry.marker = 0) (hh : s.holdPending = true)
    (hd : s.entry.length * 1000 ≤ s.rsq.distance) (hl : s.rsq.distance ≤ (s.entry.length + s.entry.window) * 1000) :
    s.endTest = .wait := by
  simp [State.endTest, he, hm, hh, Nat.not_lt.mpr hd, Nat.not_lt.mpr hl]

theorem State.endTest_pass (he : s.rsq.atEnd = true ∨ s.entry.marker = 0) (hh : s.holdPending = true)
    (hl : (s.entry.length + s.entry.window) * 1000 < s.rsq.distance) :
    s.endTest = .go true (s.rsq.distance - s.entry.length * 1000) := by
  have hd : ¬ s.rsq.distance < s.entry.length * 1000 := by omega
  cases ha : s.rsq.atEnd
  · have hm : s.entry.marker = 0 := by simpa [ha] using he
    simp [State.endTest, ha, hm, hh, hl, hd]
  · simp [State.endTest, ha, hh, hl]

theorem State.endTest_missing (he : s.rsq.atEnd = false) (hm : s.entry.marker ≠ 0)
    (hl : (s.entry.length + s.entry.window) * 1000 ≤ s.rsq.distance) :
    s.endTest = if s.entry.suppress then .go s.holdPending (s.rsq.distance - s.entry.length * 1000) else .fault := by
  simp [State.endTest, he, hm, hl]

end

/-! ### A passed hold (R20) -/

/-- OVERRUN stands with the latch at 2, and where the latch was found below 2 the vehicle has neither authority nor
command. -/
def State.Passed (below : Prop) (t : State) : Prop :=
  .overrun ∈ t.stc.causes ∧ t.stc.latch = 2 ∧ (below → t.sau.authority = 0 ∧ t.dsc.command = 0)

theorem State.Passed.tightens {below : Prop} {t u : State} (h : t.Passed below) (k : t.Tightens u) : u.Passed below :=
  ⟨k.causes _ h.1, k.atTwo h.2.1, fun hs => k.zero (h.2.2 hs)⟩

theorem State.Passed.afterSlots {below : Prop} {t : State} (h : t.Passed below) (he : t.rsq.atEnd = false) (u : Scu) :
    (t.afterSlots u).Passed below := by
  rcases State.afterSlots_of_not_atEnd he u with e | ⟨-, e⟩ <;> rw [e] <;> exact h

theorem State.advance_passed {s : State} (ha : s.active = true) (hl : s.Latched) (inTime : Bool) (carry : Nat) :
    (s.advance true inTime carry).Passed s.Halted := by
  have hstc : (s.leaving true inTime).stc = (s.raise .overrun).stc := rfl
  have hc : .overrun ∈ (s.leaving true inTime).stc.causes := hstc ▸ State.mem_raise.mpr (.inr ⟨rfl, ha⟩)
  have h2 : (s.leaving true inTime).stc.latch = 2 := by
    rw [hstc, hl.raise_latch ha]
    exact Nat.max_eq_right hl.2
  rw [State.advance_eq]
  obtain ⟨k2, kc⟩ := State.enterEntry_stops (s.cfg.successor s.rsq.entry) carry (s.leaving true inTime)
  refine ⟨(kc .overrun (by decide) (by decide)).mpr hc, k2 h2, fun hs => ?_⟩
  have hz : (s.leaving true inTime).sau.authority = 0 ∧ (s.leaving true inTime).dsc.command = 0 :=
    hs.raise .overrun h2
  have hau := (State.enterEntry_authority (s.cfg.successor s.rsq.entry) carry (s.leaving true inTime)).2
  have hco := State.enterEntry_command (s.cfg.successor s.rsq.entry) carry (s.leaving true inTime)
  omega

/-! ### Position faults (R21) -/

/-- The position is LOST at the place where it was, and what goes with a position fault. -/
structure State.Faulted (i d : Nat) (t : State) : Prop where
  known : t.rsq.known = false
  index : t.rsq.entry = i
  distance : t.rsq.distance = d
  effects : t.rsq.effects = 0
  atEnd : t.rsq.atEnd = false
  released : t.rsq.released = false
  dwell : t.rsq.dwell = none
  lastMarker : t.rsq.lastMarker = none
  motion : t.dsc.motion = .lost
  brake : t.dsc.brakeReleased = false
  command : t.dsc.command = 0
  authority : t.sau.authority = 0
  targets : t.sau.targets = []
  curve : t.sau.curve = none
  position : .position ∈ t.stc.causes
  latch : t.stc.latch = 2

theorem State.Faulted.tightens {t u : State} {i d : Nat} (h : t.Faulted i d) (k : t.Tightens u) : u.Faulted i d := by
  have hr : u.rsq = t.rsq := k.rsq fun hk => by simp [h.known] at hk
  obtain ⟨hm, hb⟩ := k.still (.inl h.motion)
  obtain ⟨hau, hco⟩ := k.zero ⟨h.authority, h.command⟩
  exact ⟨hr ▸ h.known, hr ▸ h.index, hr ▸ h.distance, hr ▸ h.effects, hr ▸ h.atEnd, hr ▸ h.released, hr ▸ h.dwell,
    hr ▸ h.lastMarker, hm.trans h.motion, hb.trans h.brake, hco, hau, k.targets.trans h.targets,
    k.curve.trans h.curve, k.causes _ h.position, k.atTwo h.latch⟩

theorem State.Faulted.afterSlots {t : State} {i d : Nat} (h : t.Faulted i d) (u : Scu) : (t.afterSlots u).Faulted i d := by
  rcases State.afterSlots_of_not_atEnd h.atEnd u with e | ⟨hk, -⟩
  · rwa [e]
  · simp [h.known] at hk

theorem State.positionFault_faulted {s : State} (ha : s.active = true) (hl : s.Latched) :
    s.positionFault.Faulted s.rsq.entry s.rsq.distance := by
  have hstc : s.lostPosition.stc = s.stc := by simp [State.lostPosition]
  have hrsq : s.lostPosition.rsq = s.rsq.lose := by simp [State.lostPosition]
  have hdsc : s.lostPosition.dsc.motion = .lost ∧ s.lostPosition.dsc.brakeReleased = false
      ∧ s.lostPosition.dsc.command = 0 := by
    simp [State.lostPosition, State.setMotion_dsc, Dsc.enter]
  have hsau : s.lostPosition.sau.authority = 0 ∧ s.lostPosition.sau.targets = [] ∧ s.lostPosition.sau.curve = none := by
    simp [State.lostPosition, State.authorityLost, State.forceAuthority, State.handAuthority]
  have hll : s.lostPosition.Latched := by rwa [State.Latched, hstc]
  have hal := State.lostPosition_active ha
  have k := State.raise_tightens .position s.lostPosition
  have hr : (s.lostPosition.raise .position).rsq = s.rsq.lose :=
    (k.rsq fun hk => by simp [hrsq, Rsq.lose] at hk).trans hrsq
  obtain ⟨hm, hb⟩ := k.still (.inl hdsc.1)
  obtain ⟨hau, hco⟩ := k.zero ⟨hsau.1, hdsc.2.2⟩
  have h2 : (s.lostPosition.raise .position).stc.latch = 2 := by
    rw [hll.raise_latch hal]
    exact Nat.max_eq_right hll.2
  rw [State.positionFault_eq]
  exact ⟨hr ▸ rfl, hr ▸ rfl, hr ▸ rfl, hr ▸ rfl, hr ▸ rfl, hr ▸ rfl, hr ▸ rfl, hr ▸ rfl, hm.trans hdsc.1,
    hb.trans hdsc.2.1, hco, hau, k.targets.trans hsau.2.1, k.curve.trans hsau.2.2,
    State.mem_raise.mpr (.inr ⟨rfl, hal⟩), h2⟩

end Sys2Proof.Machine

namespace Sys2Proof.Machine

/-! ### Marker reads -/

/-- A read of the expected marker that counts in no entry: the marker has ended the entry already, or was the last one
read (R7, R12). -/
theorem State.readMarker_of_read {s : State} {id : Nat}
    (h : (id = s.entry.marker ∧ id ≠ 0 ∧ s.rsq.atEnd = true) ∨ (id ≠ s.entry.marker ∧ s.rsq.lastMarker = some id)) :
    s.readMarker id = s := by
  rcases h with ⟨rfl, hz, he⟩ | ⟨hn, hl⟩
  · simp [State.readMarker, hz, he]
  · simp [State.readMarker, hn, hl]

/-- An early read of the expected marker, or a read of another one (R8, R9). -/
def State.Disagrees (id : Nat) (s : State) : Prop :=
  (id = s.entry.marker ∧ s.rsq.atEnd = false ∧ s.rsq.distance + s.entry.window * 1000 < s.entry.length * 1000)
    ∨ (id ≠ s.entry.marker ∧ s.rsq.lastMarker ≠ some id)

theorem State.readMarker_of_disagrees {s : State} {id : Nat} (hm : s.entry.marker ≠ 0) (h : s.Disagrees id) :
    s.readMarker id = s.disagreement := by
  rcases h with ⟨rfl, he, hd⟩ | ⟨hn, hl⟩
  · simp [State.readMarker, hm, he, Nat.not_le.mpr hd]
  · simp [State.readMarker, hn, hl, hm]

/-- A read in an entry with no marker (R6). -/
theorem State.readMarker_unexpected {s : State} {id : Nat} (hm : s.entry.marker = 0) (hl : s.rsq.lastMarker ≠ some id) :
    s.readMarker id = if s.entry.suppress then s else s.positionFault := by
  simp [State.readMarker, hm, hl]

/-- The expected marker, read in time with no hold pending, ends the entry (R7). -/
theorem State.readMarker_inTime_free {s : State} {id : Nat} (hk : s.rsq.known = true) (he : s.rsq.atEnd = false)
    (hm : s.entry.marker ≠ 0) (hid : id = s.entry.marker)
    (hd : s.entry.length * 1000 ≤ s.rsq.distance + s.entry.window * 1000) (hh : s.holdPending = false)
    (hl : 1 ≤ (s.cfg.entry (s.cfg.successor s.rsq.entry)).length) :
    (s.readMarker id).Stands (s.cfg.successor s.rsq.entry) 0 (some id) := by
  have h : s.readMarker id = s.inTimeRead := by simp [State.readMarker, hm, hid, he, hd]
  have hi : s.inTimeRead = ((s.setRsq { s.rsq with distance := s.entry.length * 1000 }).advance false true 0).settleEnds :=
    if_neg (by simp [hh])
  have hs : ((s.setRsq { s.rsq with distance := s.entry.length * 1000 }).advance false true 0).Stands
      (s.cfg.successor s.rsq.entry) 0 (if s.entry.marker ≠ 0 ∧ (true = true ∨ s.rsq.atEnd = true) then some s.entry.marker else none) :=
    State.advance_stands (s := s.setRsq { s.rsq with distance := s.entry.length * 1000 }) hk false true 0
  rw [if_pos ⟨hm, .inl rfl⟩, ← hid] at hs
  rw [h, hi, State.settleEnds_of_stay (hs.endTest (by simp; omega))]
  exact hs

theorem State.markerLeft_of_marker {s : State} (hm : s.entry.marker ≠ 0) :
    s.markerLeft false = if s.rsq.atEnd = true then some s.entry.marker else none := by
  simp [State.markerLeft, hm]

/-- A disagreement with the suppress-check flag set begins the successor (R8, R9, R20). -/
theorem State.disagreement_stands {s : State} (hk : s.rsq.known = true) (hs : s.entry.suppress = true)
    (hl : 1 ≤ (s.cfg.entry (s.cfg.successor s.rsq.entry)).length) :
    s.disagreement = s.advance s.holdPending false 0 := by
  have h := State.advance_stands hk s.holdPending false 0
  exact (if_pos hs).trans (State.settleEnds_of_stay (h.endTest (by simp; omega)))

theorem State.Faulted.fields {t : State} {i d : Nat} (h : t.Faulted i d) : t.rsq.known = false ∧ t.rsq.entry = i
    ∧ t.rsq.distance = d ∧ t.rsq.effects = 0 ∧ t.rsq.atEnd = false ∧ t.rsq.released = false ∧ t.rsq.dwell = none
    ∧ t.rsq.lastMarker = none ∧ t.dsc.motion = .lost ∧ t.dsc.brakeReleased = false ∧ t.dsc.command = 0
    ∧ t.sau.authority = 0 ∧ t.sau.targets = [] ∧ t.sau.curve = none ∧ .position ∈ t.stc.causes ∧ t.stc.latch = 2 :=
  ⟨h.known, h.index, h.distance, h.effects, h.atEnd, h.released, h.dwell, h.lastMarker, h.motion, h.brake, h.command,
    h.authority, h.targets, h.curve, h.position, h.latch⟩

/-- A read that is a position fault (R6, R8, R9, R21). -/
theorem exec_markerRead_fault {s : State} {dt id : Nat} (ha : s.active = true) (hk : s.rsq.known = true)
    (hst : s.StopsSound) (h : (s.elapse dt).readMarker id = (s.elapse dt).positionFault) :
    ∃ t, exec (.markerRead dt id) s = .next t ∧ t.Faulted s.rsq.entry s.rsq.distance := by
  have hf : (s.elapse dt).positionFault.Faulted s.rsq.entry s.rsq.distance :=
    State.positionFault_faulted (s := s.elapse dt) ha (State.StopsSound.latched hst)
  exact ⟨_, exec_markerRead ha hk dt id, h ▸ hf.afterSlots s.scu⟩

/-- A read that changes nothing. -/
theorem exec_markerRead_same {s : State} {dt id : Nat}
    (h : s.active = true → s.rsq.known = true → (s.elapse dt).readMarker id = s.elapse dt) :
    exec (.markerRead dt id) s = .next { s with now := s.now + dt } := by
  by_cases hc : s.active = true ∧ s.rsq.known = true
  · rw [exec_markerRead hc.1 hc.2, h hc.1 hc.2]
    exact congrArg Host.Outcome.next (State.afterSlots_of_same _ s.scu rfl rfl)
  · exact congrArg Host.Outcome.next (if_neg fun hx => hc (Bool.and_eq_true_iff.mp hx))

/-! ### Pulses at the end of an entry -/

/-- The place after the stops of a pulse and the pulse itself. -/
theorem State.Tightens.moved {s u : State} (h : (s.setDsc (s.dsc.pulse s.cfg.opt)).Tightens u) :
    u.moved.cfg = s.cfg ∧ u.moved.entry = s.entry ∧ u.moved.rsq.known = s.rsq.known ∧ u.moved.rsq.entry = s.rsq.entry
      ∧ u.moved.rsq.distance = s.rsq.distance + s.cfg.opt.odometer ∧ u.moved.rsq.atEnd = s.rsq.atEnd
      ∧ (s.rsq.released = true → u.moved.rsq.released = true) ∧ (s.active = true → u.moved.active = true) := by
  obtain ⟨hc, he, hk, hi, hd, ha, hr, hact⟩ := h.pulsed
  exact ⟨hc, he, hk, hi, by simp [State.moved, hd, hc], ha, hr, hact⟩

/-- A DWELL hold that is timed is pending after the stops of a pulse where it was before. -/
theorem State.Tightens.holdPending {s u : State} (h : (s.setDsc (s.dsc.pulse s.cfg.opt)).Tightens u)
    (ha : s.active = true) (hdw : s.DwellSound) : u.moved.holdPending = s.holdPending := by
  have hd : (s.setDsc (s.dsc.pulse s.cfg.opt)).Dwells := fun hk hm =>
    hdw ha hk ((s.dsc.pulse_timer s.cfg.opt).2.symm.trans hm)
  have hr : u.rsq = s.rsq := h.rsq hd
  obtain ⟨-, he, -⟩ := h.moved
  simp only [State.holdPending, he]
  simp [State.moved, hr]

theorem State.holdPending_eq_false {s u : State} (he : u.entry = s.entry)
    (hr : s.rsq.released = true → u.rsq.released = true) (h : s.holdPending = false) : u.holdPending = false := by
  simp only [State.holdPending, he] at h ⊢
  cases hb : s.rsq.released <;> simp_all

theorem State.Latched.moved {s u : State} (hl : s.Latched) (h : (s.setDsc (s.dsc.pulse s.cfg.opt)).Tightens u) :
    u.moved.Latched := h.latched hl

theorem State.Halted.moved {s u : State} (hl : s.stc.latch < 2) (h : (s.setDsc (s.dsc.pulse s.cfg.opt)).Tightens u) :
    u.moved.Halted := h.halted fun h2 => absurd (h2 : s.stc.latch = 2) (Nat.ne_of_lt hl)

/-- A pulse that ends the entry, by one advance to a place short of the successor's length. -/
theorem State.Tightens.routePulse_go {s u : State} (h : (s.setDsc (s.dsc.pulse s.cfg.opt)).Tightens u)
    (hk : s.rsq.known = true) {passed : Bool} {carry : Nat} (ht : u.moved.endTest = .go passed carry)
    (hc : carry < (s.cfg.entry (s.cfg.successor s.rsq.entry)).length * 1000) :
    u.routePulse = u.moved.advance passed false carry
      ∧ u.routePulse.Stands (s.cfg.successor s.rsq.entry) carry
        (if s.entry.marker ≠ 0 ∧ s.rsq.atEnd = true then some s.entry.marker else none) := by
  obtain ⟨uc, ue, uk, ui, -, ua, -⟩ := h.moved
  have hg : u.routePulse = u.moved.advance passed false carry := by
    rw [State.routePulse_of_known (h.pulsed.2.2.1.trans hk)]
    exact State.settleEnds_stands (uk.trans hk) ht (by rwa [uc, ui])
  have hs := State.advance_stands (uk.trans hk) passed false carry
  rw [uc, ui, State.markerLeft, ue, ua] at hs
  simp only [Bool.false_eq_true, false_or] at hs
  exact ⟨hg, hg ▸ hs⟩

section
variable {s : State} (hk : s.rsq.known = true)
include hk

/-- The end of an entry without a marker and with no hold pending (R6, R13). -/
theorem State.pulse_ends (he : s.rsq.atEnd = false) (hm : s.entry.marker = 0) (hh : s.holdPending = false)
    (hd : s.entry.length * 1000 ≤ s.rsq.distance + s.cfg.opt.odometer)
    (hc : s.rsq.distance + s.cfg.opt.odometer - s.entry.length * 1000
      < (s.cfg.entry (s.cfg.successor s.rsq.entry)).length * 1000) :
    s.pulse.Stands (s.cfg.successor s.rsq.entry) (s.rsq.distance + s.cfg.opt.odometer - s.entry.length * 1000) none := by
  refine State.pulse_of_routePulse _ (fun _ _ k h => h.damps k.toDamps) (fun _ h => h.afterSlots _) fun u hu => ?_
  obtain ⟨-, ue, -, -, ud, ua, ur, -⟩ := hu.moved
  have ht := State.endTest_end (s := u.moved) (ua.trans he) (ue ▸ hm) (State.holdPending_eq_false ue ur hh)
    (by rwa [ue, ud])
  rw [ue, ud] at ht
  simpa [hm] using (hu.routePulse_go hk ht hc).2

/-- A hold that the pulse passes (R20). -/
theorem State.pulse_passes (ha : s.active = true) (hst : s.Latched) (hh : s.holdPending = true)
    (he : s.rsq.atEnd = true ∨ s.entry.marker = 0) (hdw : s.DwellSound)
    (hl : (s.entry.length + s.entry.window) * 1000 < s.rsq.distance + s.cfg.opt.odometer)
    (hc : s.rsq.distance + s.cfg.opt.odometer - s.entry.length * 1000
      < (s.cfg.entry (s.cfg.successor s.rsq.entry)).length * 1000) :
    s.pulse.Stands (s.cfg.successor s.rsq.entry) (s.rsq.distance + s.cfg.opt.odometer - s.entry.length * 1000)
        (if s.entry.marker = 0 then none else some s.entry.marker)
      ∧ s.pulse.Passed (s.stc.latch < 2) := by
  refine State.pulse_of_routePulse (P := fun t => t.Stands _ _ _ ∧ t.Passed (s.stc.latch < 2)) _
    (fun _ _ k h => ⟨h.1.damps k.toDamps, h.2.tightens k⟩)
    (fun _ h => ⟨h.1.afterSlots _, h.2.afterSlots h.1.atEnd _⟩) fun u hu => ?_
  obtain ⟨-, ue, -, -, ud, ua, -, uact⟩ := hu.moved
  have ht := State.endTest_pass (s := u.moved) (by rwa [ua, ue]) ((hu.holdPending ha hdw).trans hh) (by rwa [ue, ud])
  rw [ue, ud] at ht
  obtain ⟨hg, hs⟩ := hu.routePulse_go hk ht hc
  have hm : (if s.entry.marker ≠ 0 ∧ s.rsq.atEnd = true then some s.entry.marker else none)
      = if s.entry.marker = 0 then none else some s.entry.marker := by
    by_cases h0 : s.entry.marker = 0
    · simp [h0]
    · have : s.rsq.atEnd = true := he.resolve_right h0
      simp [h0, this]
  obtain ⟨ho, h2, hz⟩ := State.advance_passed (uact ha) (hst.moved hu) false
    (s.rsq.distance + s.cfg.opt.odometer - s.entry.length * 1000)
  exact ⟨hm ▸ hs, hg ▸ ⟨ho, h2, fun hlt => hz (State.Halted.moved hlt hu)⟩⟩

/-- A missing marker with the suppress-check flag clear (R10, R21). -/
theorem State.pulse_missing (ha : s.active = true) (hst : s.Latched) (he : s.rsq.atEnd = false)
    (hm : s.entry.marker ≠ 0) (hsup : s.entry.suppress = false)
    (hl : (s.entry.length + s.entry.window) * 1000 ≤ s.rsq.distance + s.cfg.opt.odometer) :
    s.pulse.Faulted s.rsq.entry (s.rsq.distance + s.cfg.opt.odometer) := by
  refine State.pulse_of_routePulse _ (fun _ _ k h => h.tightens k) (fun _ h => h.afterSlots _) fun u hu => ?_
  obtain ⟨-, ue, uk, ui, ud, ua, -, uact⟩ := hu.moved
  have ht := State.endTest_missing (s := u.moved) (ua.trans he) (ue ▸ hm) (by rwa [ue, ud])
  rw [ue, hsup] at ht
  rw [State.routePulse_of_known (hu.pulsed.2.2.1.trans hk), State.settleEnds_of_fault (uk.trans hk) (by simpa using ht),
    ← ui, ← ud]
  exact State.positionFault_faulted (uact ha) (hst.moved hu)

/-- A missing marker with the suppress-check flag set (R10, R20). -/
theorem State.pulse_overruns (ha : s.active = true) (hst : s.Latched) (he : s.rsq.atEnd = false)
    (hm : s.entry.marker ≠ 0) (hsup : s.entry.suppress = true) (hdw : s.DwellSound)
    (hl : (s.entry.length + s.entry.window) * 1000 ≤ s.rsq.distance + s.cfg.opt.odometer)
    (hc : s.rsq.distance + s.cfg.opt.odometer - s.entry.length * 1000
      < (s.cfg.entry (s.cfg.successor s.rsq.entry)).length * 1000) :
    s.pulse.Stands (s.cfg.successor s.rsq.entry) (s.rsq.distance + s.cfg.opt.odometer - s.entry.length * 1000) none
      ∧ (s.holdPending = true → s.pulse.Passed False) := by
  refine State.pulse_of_routePulse (P := fun t => t.Stands _ _ _ ∧ (s.holdPending = true → t.Passed False)) _
    (fun _ _ k h => ⟨h.1.damps k.toDamps, fun hh => (h.2 hh).tightens k⟩)
    (fun _ h => ⟨h.1.afterSlots _, fun hh => (h.2 hh).afterSlots h.1.atEnd _⟩) fun u hu => ?_
  obtain ⟨-, ue, -, -, ud, ua, -, uact⟩ := hu.moved
  have ht := State.endTest_missing (s := u.moved) (ua.trans he) (ue ▸ hm) (by rwa [ue, ud])
  rw [ue, ud, hsup, hu.holdPending ha hdw, if_pos rfl] at ht
  obtain ⟨hg, hs⟩ := hu.routePulse_go hk ht hc
  refine ⟨by simpa [he] using hs, fun hh => ?_⟩
  rw [hg, hh]
  obtain ⟨ho, h2, -⟩ := State.advance_passed (uact ha) (hst.moved hu) false
    (s.rsq.distance + s.cfg.opt.odometer - s.entry.length * 1000)
  exact ⟨ho, h2, False.elim⟩

/-- With the hold pending the vehicle waits at the end of an entry without a marker (R6). -/
theorem State.chainAndRoute_waits (he : s.rsq.atEnd = false) (hm : s.entry.marker = 0) (hh : s.holdPending = true)
    (hd : s.entry.length * 1000 ≤ s.rsq.distance + s.cfg.opt.odometer)
    (hl : s.rsq.distance + s.cfg.opt.odometer ≤ (s.entry.length + s.entry.window) * 1000) :
    s.chainAndRoute = s.chainPulse.setRsq { s.rsq with
      distance := s.rsq.distance + s.cfg.opt.odometer, atEnd := true } := by
  have hr : s.chainPulse.rsq = s.rsq := by simp
  have hrm : s.chainPulse.moved.rsq = { s.rsq with distance := s.rsq.distance + s.cfg.opt.odometer } := by
    simp [State.moved]
  have hem : s.chainPulse.moved.entry = s.entry := by
    simp [State.entry, State.moved]
  have ht : s.chainPulse.moved.endTest = .wait := by
    refine State.endTest_wait ?_ ?_ ?_ ?_ ?_ <;> simp only [hrm, hem, State.holdPending]
    · exact he
    · exact hm
    · exact hh
    · exact hd
    · exact hl
  rw [State.chainAndRoute_of_known hk, State.routePulse_of_known (hr ▸ hk),
    State.settleEnds_of_wait (hrm ▸ hk) ht, hrm]
  rfl

end

end Sys2Proof.Machine

open Sys2Proof.Machine in
/-- Settles O32: each read or pulse is one end test, whose advance, wait or fault the lemmas describe. -/
theorem pulsesAndMarkersEndTheEntry : Obligations.PulsesAndMarkersEndTheEntry := by
  unfold Obligations.PulsesAndMarkersEndTheEntry
  refine ⟨fun dt s ha hk he hm hh hd hlt hl => ?ends, fun dt s ha hk he hm hg hh hd hlim => ?waits,
    fun dt id s ha hk he hm hid hd hh => exec_markerRead_inTime_hold ha hk he hm hid hd hh,
    fun dt id s ha hk he hm hid hd hh hl => ?inTime, fun dt id s ha hk hst hm hsup hdis => ?faults,
    fun dt id s h => ?nothing, fun dt s ha hk hst hh he hdw hlim hl => ?passes,
    fun dt id s ha hk hst hm hsup hl hdis => ?advances, fun dt s ha hk hst he hm hsup hlim => ?missing,
    fun dt s ha hk hst he hm hsup hdw hlim hl => ?overruns, fun dt id s ha hk hst hm hid hlast => ⟨fun hsup => ?discards, fun hsup => ?unexpected⟩⟩
  case ends =>
    have hc : s.rsq.distance + s.cfg.opt.odometer - s.entry.length * 1000
        < (s.cfg.entry (s.cfg.successor s.rsq.entry)).length * 1000 := by omega
    have h := State.pulse_ends (s := s.elapse dt) hk he hm hh hd hc
    obtain ⟨heff, hcap, -⟩ := h.settings (c := s.cfg) (by simp)
    exact ⟨_, exec_odometerPulse ha dt, h.known, h.index, h.distance, h.lastMarker, heff, hcap⟩
  case waits =>
    have h := State.chainAndRoute_waits (s := s.counted dt) hk he hm hh hd hlim
    have hslots : s.SameSlots (s.counted dt).chainAndRoute := by
      rw [h]
      exact State.chainPulse_sameSlots (s.counted dt)
    refine ⟨_, exec_odometerPulse_onWire ha hg dt, ?_⟩
    rw [hslots.afterSlots, h]
    exact ⟨rfl, hk, rfl, rfl⟩
  case inTime =>
    have h := (State.readMarker_inTime_free (s := s.elapse dt) hk he hm hid hd hh hl).afterSlots s.scu
    obtain ⟨heff, -⟩ := h.settings (by simp; rfl)
    exact ⟨_, exec_markerRead ha hk dt id, h.known, h.index, h.distance, h.lastMarker, heff⟩
  case faults =>
    have h : (s.elapse dt).readMarker id = (s.elapse dt).positionFault :=
      (State.readMarker_of_disagrees (s := s.elapse dt) hm hdis).trans (if_neg (ne_true_of_eq_false hsup))
    obtain ⟨t, ht, hf⟩ := exec_markerRead_fault ha hk hst h
    exact ⟨t, ht, hf.fields⟩
  case nothing =>
    refine exec_markerRead_same fun ha hk => ?_
    have hread : (id = s.entry.marker ∧ id ≠ 0 ∧ s.rsq.atEnd = true)
        ∨ (id ≠ s.entry.marker ∧ s.rsq.lastMarker = some id) := by
      simpa [ha, hk] using h
    exact State.readMarker_of_read (s := s.elapse dt) hread
  case passes =>
    obtain ⟨h, hover, hlatch, hzero⟩ :=
      State.pulse_passes (s := s.elapse dt) hk ha (State.StopsSound.latched hst) hh he hdw hlim hl
    obtain ⟨heff, -⟩ := h.settings (c := s.cfg) (by simp)
    exact ⟨_, exec_odometerPulse ha dt, h.known, h.index, h.distance, h.atEnd, h.lastMarker, heff, hover, hlatch, hzero⟩
  case advances =>
    have hd : (s.elapse dt).disagreement = (s.elapse dt).advance s.holdPending false 0 :=
      State.disagreement_stands (s := s.elapse dt) hk hsup hl
    have hm' : (s.elapse dt).readMarker id = _ := (State.readMarker_of_disagrees (s := s.elapse dt) hm hdis).trans hd
    have hs := (State.advance_stands (s := s.elapse dt) hk s.holdPending false 0).afterSlots s.scu
    obtain ⟨heff, -⟩ := hs.settings (c := s.cfg) (by simp)
    refine ⟨_, exec_markerRead ha hk dt id, ?_⟩
    rw [hm']
    refine ⟨hs.known, hs.index, hs.distance, hs.lastMarker.trans ?_, heff, fun hh => ?_⟩
    · exact State.markerLeft_of_marker (s := s.elapse dt) hm
    · have hp := (State.advance_passed (s := s.elapse dt) ha (State.StopsSound.latched hst) false 0).afterSlots
        (State.enterEntry_atEnd ..) s.scu
      rw [hh]
      exact ⟨hp.1, hp.2.1⟩
  case missing =>
    have h := State.pulse_missing (s := s.elapse dt) hk ha (State.StopsSound.latched hst) he hm hsup hlim
    exact ⟨_, exec_odometerPulse ha dt, h.fields⟩
  case overruns =>
    obtain ⟨h, hover⟩ := State.pulse_overruns (s := s.elapse dt) hk ha (State.StopsSound.latched hst) he hm hsup hdw hlim hl
    obtain ⟨heff, -⟩ := h.settings (c := s.cfg) (by simp)
    exact ⟨_, exec_odometerPulse ha dt, h.known, h.index, h.distance, h.lastMarker, heff,
      fun hh => ⟨(hover hh).1, (hover hh).2.1⟩⟩
  case discards =>
    exact exec_markerRead_same fun _ _ => (State.readMarker_unexpected (s := s.elapse dt) hm hlast).trans (if_pos hsup)
  case unexpected =>
    have h : (s.elapse dt).readMarker id = (s.elapse dt).positionFault :=
      (State.readMarker_unexpected (s := s.elapse dt) hm hlast).trans (if_neg (ne_true_of_eq_false hsup))
    obtain ⟨t, ht, hf⟩ := exec_markerRead_fault ha hk hst h
    exact ⟨t, ht, hf.fields⟩

namespace Sys2Proof.Machine

/-! ### Slots that move (R123) -/

/-- The slot that moves takes its new state, with the order that the other slot leaves it. -/
theorem Scu.slot_moveSlot (u : Scu) (k : SlotId) (x : Slot) : (u.moveSlot k x).slot k = { x with
    order := if x.state.ordered then
      (if (u.slot (otherSlot k)).state = x.state then some .second else some .first) else none } := by
  cases k <;> rfl

/-- The other slot's state and scene are kept; its order follows the one that moves. -/
theorem Scu.other_moveSlot (u : Scu) (k : SlotId) (x : Slot) :
    ((u.moveSlot k x).slot (otherSlot k)).state = (u.slot (otherSlot k)).state
      ∧ ((u.moveSlot k x).slot (otherSlot k)).scene = (u.slot (otherSlot k)).scene := by
  have h : (u.moveSlot k x).slot (otherSlot k) =
      if (u.slot k).state.ordered ∧ (u.slot (otherSlot k)).state = (u.slot k).state
          ∧ (u.slot (otherSlot k)).order = some .second then
        { u.slot (otherSlot k) with order := some .first } else u.slot (otherSlot k) := by
    cases k <;> rfl
  rw [h]
  split <;> exact ⟨rfl, rfl⟩

/-- A FREE slot's order stands in no other slot's way. -/
theorem Scu.other_moveSlot_of_free {u : Scu} {k : SlotId} (h : (u.slot k).state = .free) (x : Slot) :
    (u.moveSlot k x).slot (otherSlot k) = u.slot (otherSlot k) := by
  have hs : ((u.slot k).state.ordered) = false := by simp [h, SlotState.ordered]
  cases k <;> simp only [Scu.slot] at hs <;> simp [Scu.moveSlot, Scu.setSlot, Scu.slot, otherSlot, hs]

theorem Scu.moveSlot_rest (u : Scu) (k : SlotId) (x : Slot) : (u.moveSlot k x).chain = u.chain
    ∧ (u.moveSlot k x).tracker = u.tracker ∧ (u.moveSlot k x).counters = u.counters
    ∧ (u.moveSlot k x).nextRef = u.nextRef := by
  cases k <;> exact ⟨rfl, rfl, rfl, rfl⟩

theorem Scu.holdsScene_iff (u : Scu) (k : SlotId) (x : Nat) :
    u.holdsScene x = ((u.slot k).holds x || (u.slot (otherSlot k)).holds x) := by
  cases k
  · rfl
  · exact Bool.or_comm _ _

/-- A slot that moves is a change of a slot's state, where its state differs. -/
theorem Scu.moveSlot_state_ne {u : Scu} {k : SlotId} {x : Slot} (h : (u.slot k).state ≠ x.state) :
    u.slot1.state ≠ (u.moveSlot k x).slot1.state ∨ u.slot2.state ≠ (u.moveSlot k x).slot2.state := by
  cases k
  · exact .inl h
  · exact .inr h

/-! ### The claim check (R125) -/

/-- The record blocks a scene of the part at a station (R125). -/
def Peer.Blocks (station x : Nat) (p : Peer) : Prop :=
  p.isVehicle = true ∧ ∃ v, p.data = some v ∧ (x ∈ v.held ∨ (v.claiming = some x ∧ p.station < station))

/-- The stations whose records block the scene. -/
theorem State.mem_claimCheck {s : State} {x n : Nat} :
    n ∈ (s.ptb.filter fun p => p.isVehicle && decide ((none : Option Nat) ≠ some p.station) &&
        match p.data with
        | some d => d.held.contains x || (decide (d.claiming = some x) && decide (p.station < s.cfg.opt.station))
        | none => false).map Peer.station
      ↔ ∃ p ∈ s.ptb, p.Blocks s.cfg.opt.station x ∧ p.station = n := by
  simp only [List.mem_map, List.mem_filter, Peer.Blocks]
  refine ⟨?_, ?_⟩
  · rintro ⟨p, ⟨hp, hb⟩, rfl⟩
    refine ⟨p, hp, ?_, rfl⟩
    cases hd : p.data with
    | none => simp [hd] at hb
    | some v => exact ⟨by simp_all, v, rfl, by simp_all⟩
  · rintro ⟨p, hp, ⟨hv, v, hd, hb⟩, rfl⟩
    exact ⟨p, ⟨hp, by simpa [hv, hd] using hb⟩, rfl⟩

theorem State.claimCheck_eq_none {s : State} {x : Nat} (h : ∀ p ∈ s.ptb, ¬ p.Blocks s.cfg.opt.station x) :
    s.claimCheck none x = none := by
  rw [State.claimCheck, List.min?_eq_none_iff, List.eq_nil_iff_forall_not_mem]
  intro n hn
  obtain ⟨p, hp, hb, -⟩ := State.mem_claimCheck.mp hn
  exact h p hp hb

theorem State.claimCheck_eq_some {s : State} {x : Nat} {p : Peer} (hp : p ∈ s.ptb)
    (hb : p.Blocks s.cfg.opt.station x)
    (h : ∀ q ∈ s.ptb, q.Blocks s.cfg.opt.station x → p.station ≤ q.station) :
    s.claimCheck none x = some p.station := by
  rw [State.claimCheck, List.min?_eq_some_iff]
  refine ⟨State.mem_claimCheck.mpr ⟨p, hp, hb, rfl⟩, fun n hn => ?_⟩
  obtain ⟨q, hq, hqb, rfl⟩ := State.mem_claimCheck.mp hn
  exact h q hq hqb

/-! ### Waiting on a station -/

theorem State.pin_of_unpinned {s : State} {f : Pin} (h : ∀ p ∈ s.ptb, p.carries f = false) (station : Option Nat) :
    s.pin f station = s.setPtb (namePin f station s.ptb) := by
  have hf : s.ptb.find? (fun p => p.carries f) = none := by simpa using h
  simp only [State.pin, State.pinWith, hf]

theorem namePin_some (f : Pin) (y : Nat) (t : List Peer) :
    namePin f (some y) t = t.map fun q => q.setPin f (decide (q.station = y)) := by
  simp only [namePin, Option.some.injEq, eq_comm]

/-- Where the station has a record, and none carries the slot's pin, the slot waits and the record is pinned (R57). -/
theorem State.enterWaiting_of_peer {s : State} {k : SlotId} {p : Peer} (x : Nat) (hp : p ∈ s.ptb)
    (h : ∀ q ∈ s.ptb, q.carries (.slot k) = false) :
    s.enterWaiting k x p.station =
      ((s.setScu (s.scu.moveSlot k ⟨some x, .waiting, none, some p.station, none⟩)).slotNotice).setPtb
        (s.ptb.map fun q => q.setPin (.slot k) (decide (q.station = p.station))) := by
  generalize hu : (s.setScu (s.scu.moveSlot k ⟨some x, .waiting, none, some p.station, none⟩)).slotNotice = u
  have hup : u.ptb = s.ptb := by simp [← hu]
  have hpeer : (u.peer p.station).isSome = true := by
    simp only [State.peer, List.find?_isSome, hup]
    exact ⟨p, hp, by simp⟩
  simp only [State.enterWaiting, hu, hpeer, if_true]
  rw [State.pin_of_unpinned (hup ▸ h), namePin_some, hup]

/-! ### The RSQ after a change of the slots -/

/-- A change of the slots that leaves nothing due leaves the RSQ as it is (R18, R20). -/
theorem State.afterSlots_of_nothingDue {s : State} (h : s.NothingDue) (u : Scu) : s.afterSlots u = s := by
  obtain ⟨hscene, hrel⟩ := h
  have hs : s.sceneTest = s := by
    simp only [State.sceneTest]
    split
    · next x hx =>
      refine if_neg fun hc => ?_
      simp only [Bool.and_eq_true, Bool.not_eq_true'] at hc
      obtain ⟨⟨hk, hn⟩, hh⟩ := hc
      simp [hscene x hx hh hk] at hn
    all_goals rfl
  have ha : s.actOnRelease = s := if_neg (by simpa [and_assoc] using hrel)
  simp only [State.afterSlots, hs, ha, ite_self]

/-- What the action on the slots keeps of a vehicle that is not held at an entry's end. -/
theorem State.afterSlots_kept {s : State} (h : s.rsq.atEnd = false) (u : Scu) :
    (s.afterSlots u).scu = s.scu ∧ (s.afterSlots u).ptb = s.ptb ∧ (s.afterSlots u).dsc = s.dsc
      ∧ (s.afterSlots u).sau = s.sau ∧ (s.afterSlots u).rm = s.rm ∧ (s.afterSlots u).spe = s.spe
      ∧ (s.afterSlots u).stc = s.stc ∧ (s.afterSlots u).ni = s.ni ∧ (s.afterSlots u).cfg = s.cfg
      ∧ (s.afterSlots u).cfs = s.cfs ∧ (s.afterSlots u).now = s.now ∧ (s.afterSlots u).rsq.place = s.rsq.place
      ∧ (s.afterSlots u).rsq.chainStart = s.rsq.chainStart := by
  rcases State.afterSlots_of_not_atEnd h u with e | ⟨-, e⟩ <;> rw [e] <;> simp [Rsq.place]

/-- A pending SCENE hold whose scene has come to be HELD is released (R18). -/
theorem State.afterSlots_released {s : State} {u : Scu} {x : Nat} (ha : s.active = true) (he : s.rsq.atEnd = false)
    (hd : u.slot1.state ≠ s.scu.slot1.state ∨ u.slot2.state ≠ s.scu.slot2.state)
    (hk : s.rsq.known = true) (hh : s.entry.hold = .scene x) (hx : s.scu.holdsScene x = true) :
    (s.afterSlots u).rsq.released = true := by
  have hs : s.sceneTest.rsq.atEnd = false := s.sceneTest_rides.atEnd.trans he
  have hr : s.sceneTest.rsq.released = true := by
    cases hr : s.rsq.released <;> simp [State.sceneTest, hh, hk, hx, hr]
  rw [State.afterSlots, if_pos ⟨ha, hd⟩, State.actOnRelease_of_not_atEnd hs]
  exact hr

end Sys2Proof.Machine

namespace Sys2Proof.Machine

/-! ### The claim window -/

theorem exec_claimWindowExpiry {s : State} {k : SlotId} {d : Nat} (hs : (s.scu.slot k).state = .claiming)
    (hw : (s.scu.slot k).window = some d) (dt : Nat) :
    exec (.claimWindowExpiry dt k) s
      = .next (((s.elapseTo dt (d * 1000)).windowExpired k).afterSlots s.scu) := by
  have ht : s.windowTimer k = some d := (if_pos hs).trans hw
  have hx : s.onExpiry dt (s.windowTimer k) (fun t => (t.windowExpired k).afterSlots t.scu)
      = ((s.elapseTo dt (d * 1000)).windowExpired k).afterSlots s.scu := by
    rw [ht]
    rfl
  exact congrArg Host.Outcome.next hx

/-- With no record blocking its scene the slot is HELD (R127). -/
theorem State.windowExpired_held {s : State} {k : SlotId} {x : Nat} (hx : (s.scu.slot k).scene = some x)
    (h : ∀ p ∈ s.ptb, ¬ p.Blocks s.cfg.opt.station x) :
    s.windowExpired k = (s.setScu (s.scu.moveSlot k ⟨some x, .held, none, none, none⟩)).slotNotice := by
  simp only [State.windowExpired, hx, State.claimCheck_eq_none h]

/-- With a record blocking its scene the slot waits for the lowest of the blocking stations (R125, R127). -/
theorem State.windowExpired_waits {s : State} {k : SlotId} {x : Nat} {p : Peer} (hx : (s.scu.slot k).scene = some x)
    (hp : p ∈ s.ptb) (hb : p.Blocks s.cfg.opt.station x)
    (h : ∀ q ∈ s.ptb, q.Blocks s.cfg.opt.station x → p.station ≤ q.station) :
    s.windowExpired k = s.enterWaiting k x p.station := by
  simp only [State.windowExpired, hx, State.claimCheck_eq_some hp hb h]

/-- A slot that goes from CLAIMING to WAITING makes no scene HELD, and leaves nothing due where nothing was. -/
theorem State.NothingDue.of_waiting {s t : State} (h : s.NothingDue) (k : SlotId) (hr : t.rsq = s.rsq) (hc : t.cfg = s.cfg)
    (hk : (t.scu.slot k).state = .waiting)
    (ho : (t.scu.slot (otherSlot k)).state = (s.scu.slot (otherSlot k)).state
      ∧ (t.scu.slot (otherSlot k)).scene = (s.scu.slot (otherSlot k)).scene) : t.NothingDue := by
  have he : t.entry = s.entry := by rw [State.entry, State.entry, hr, hc]
  obtain ⟨hscene, hrel⟩ := h
  refine ⟨fun x hx hh hkn => ?_, by rwa [hr]⟩
  have hot : ((t.scu.slot (otherSlot k)).holds x) = true := by
    rw [Scu.holdsScene_iff _ k] at hh
    simpa [Slot.holds, hk] using hh
  have hos : s.scu.holdsScene x = true := by
    rw [Scu.holdsScene_iff _ k]
    simp only [Slot.holds, ho.1, ho.2] at hot
    simp [Slot.holds, hot]
  rw [hr] at hkn ⊢
  exact hscene x (he ▸ hx) hos hkn

/-- The state in which a slot has become HELD at its claim window. -/
def State.slotHeld (k : SlotId) (x : Nat) (s : State) : State :=
  (s.setScu (s.scu.moveSlot k ⟨some x, .held, none, none, none⟩)).slotNotice

theorem State.slotHeld_frame (k : SlotId) (x : Nat) (s : State) :
    (s.slotHeld k x).ptb = s.ptb ∧ (s.slotHeld k x).dsc = s.dsc ∧ (s.slotHeld k x).sau = s.sau
      ∧ (s.slotHeld k x).rm = s.rm ∧ (s.slotHeld k x).spe = s.spe ∧ (s.slotHeld k x).stc = s.stc
      ∧ (s.slotHeld k x).cfg = s.cfg ∧ (s.slotHeld k x).cfs = s.cfs ∧ (s.slotHeld k x).now = s.now
      ∧ (s.slotHeld k x).rsq = s.rsq ∧ (s.slotHeld k x).powered = s.powered
      ∧ (s.slotHeld k x).scu = s.scu.moveSlot k ⟨some x, .held, none, none, none⟩ := by
  simp [State.slotHeld]

/-- The order of the HELD slot, and what of the SCU is kept. -/
theorem State.slotHeld_slot (k : SlotId) (x : Nat) (s : State) : (s.slotHeld k x).scu.slot k = ⟨some x, .held, none, none,
      some (if (s.scu.slot (otherSlot k)).state = .held then .second else .first)⟩
    ∧ (s.slotHeld k x).scu.chain = s.scu.chain ∧ (s.slotHeld k x).scu.tracker = s.scu.tracker := by
  obtain ⟨-, -, -, -, -, -, -, -, -, -, -, hscu⟩ := s.slotHeld_frame k x
  obtain ⟨hc, ht, -⟩ := s.scu.moveSlot_rest k ⟨some x, .held, none, none, none⟩
  rw [hscu, Scu.slot_moveSlot, hc, ht]
  refine ⟨?_, rfl, rfl⟩
  simp only [SlotState.ordered, decide_true, Bool.or_true, if_true]
  split <;> rfl

/-- A slot that leaves CLAIMING for HELD releases a pending hold for its scene (R18). -/
theorem State.slotHeld_released {s : State} {k : SlotId} {x : Nat} (ha : s.active = true) (he : s.rsq.atEnd = false)
    (hs : (s.scu.slot k).state = .claiming) (hk : s.rsq.known = true) (hh : s.entry.hold = .scene x) :
    ((s.slotHeld k x).afterSlots s.scu).rsq.released = true := by
  obtain ⟨-, hd, -, -, -, -, hc, hf, -, hr, hp, hscu⟩ := s.slotHeld_frame k x
  refine State.afterSlots_released (x := x) ?_ (hr ▸ he) ?_ (hr ▸ hk) ?_ ?_
  · simpa only [State.active, hd, hf, hp] using ha
  · rw [hscu]
    exact Scu.moveSlot_state_ne (by simp [hs])
  · rwa [State.entry, hc, hr]
  · rw [Scu.holdsScene_iff _ k, (s.slotHeld_slot k x).1]
    simp [Slot.holds]

/-- The state in which a slot has come to wait for a station that the table has. -/
def State.slotWaits (k : SlotId) (x y : Nat) (s : State) : State :=
  ((s.setScu (s.scu.moveSlot k ⟨some x, .waiting, none, some y, none⟩)).slotNotice).setPtb
    (s.ptb.map fun q => q.setPin (.slot k) (decide (q.station = y)))

theorem State.slotWaits_frame (k : SlotId) (x y : Nat) (s : State) :
    (s.slotWaits k x y).rsq = s.rsq ∧ (s.slotWaits k x y).dsc = s.dsc ∧ (s.slotWaits k x y).stc = s.stc
      ∧ (s.slotWaits k x y).cfg = s.cfg
      ∧ (s.slotWaits k x y).scu = s.scu.moveSlot k ⟨some x, .waiting, none, some y, none⟩ := by
  simp [State.slotWaits]

theorem State.slotWaits_slot (k : SlotId) (x y : Nat) (s : State) :
    (s.slotWaits k x y).scu.slot k = ⟨some x, .waiting, none, some y, none⟩ := by
  obtain ⟨-, -, -, -, hscu⟩ := s.slotWaits_frame k x y
  rw [hscu, Scu.slot_moveSlot]
  simp [SlotState.ordered]

theorem State.slotWaits_nothingDue {s : State} (h : s.NothingDue) (k : SlotId) (x y : Nat) :
    (s.slotWaits k x y).NothingDue := by
  obtain ⟨hr, -, -, hc, hscu⟩ := s.slotWaits_frame k x y
  exact h.of_waiting k hr hc (by rw [s.slotWaits_slot]) (hscu ▸ s.scu.other_moveSlot k _)

end Sys2Proof.Machine

open Sys2Proof.Machine in
/-- Settles O42: the claim check decides, and the action on the slots releases the hold or has nothing to do. -/
theorem claimWindowDecidesTheSlot : Obligations.ClaimWindowDecidesTheSlot := by
  unfold Obligations.ClaimWindowDecidesTheSlot
  refine ⟨fun dt d x k s ha he hs hx hw hn => ?held, fun dt d x y p v k s ha hdue hs hx hw hp hy hv hd hb hmin hpin => ?waits⟩
  case held =>
    have hfree : ∀ p ∈ s.ptb, ¬ p.Blocks s.cfg.opt.station x := by
      rintro p hp ⟨hv, v, hd, hb⟩
      obtain ⟨hheld, hclaim⟩ := hn p hp v hd hv
      rcases hb with hb | ⟨hb, hlt⟩
      · exact hheld hb
      · exact absurd (hclaim hb) (Nat.not_le.mpr hlt)
    have hwin : (s.elapseTo dt (d * 1000)).windowExpired k = (s.elapseTo dt (d * 1000)).slotHeld k x :=
      State.windowExpired_held hx hfree
    obtain ⟨hptb, hdsc, hsau, hrm, hspe, hstc, hcfg, hcfs, hnow, hrsq, -⟩ := (s.elapseTo dt (d * 1000)).slotHeld_frame k x
    obtain ⟨hslot, hchain, htrack⟩ := (s.elapseTo dt (d * 1000)).slotHeld_slot k x
    have hrel : s.rsq.known = true → s.entry.hold = .scene x → _ :=
      State.slotHeld_released (s := s.elapseTo dt (d * 1000)) ha he hs
    rw [exec_claimWindowExpiry hs hw, hwin]
    generalize (s.elapseTo dt (d * 1000)).slotHeld k x = u at *
    obtain ⟨rscu, rptb, rdsc, rsau, rrm, rspe, rstc, -, rcfg, rcfs, rnow, rplace, -⟩ :=
      State.afterSlots_kept (s := u) (hrsq ▸ he) s.scu
    have re : (u.afterSlots s.scu).rsq.entry = u.rsq.entry := by simpa only [Rsq.place] using congrArg Rsq.entry rplace
    have rd : (u.afterSlots s.scu).rsq.distance = u.rsq.distance := by
      simpa only [Rsq.place] using congrArg Rsq.distance rplace
    refine ⟨_, rfl, rnow.trans hnow, ?_⟩
    rw [rscu, hslot]
    exact ⟨rfl, rfl, rfl, rfl, hrel, re.trans (congrArg Rsq.entry hrsq),
      rd.trans (congrArg Rsq.distance hrsq), rptb.trans hptb, rdsc.trans hdsc, rsau.trans hsau, rrm.trans hrm,
      rspe.trans hspe, rstc.trans hstc, hchain, htrack, rcfg.trans hcfg, rcfs.trans hcfs⟩
  case waits =>
    subst hy
    have hwin : (s.elapseTo dt (d * 1000)).windowExpired k = (s.elapseTo dt (d * 1000)).slotWaits k x p.station :=
      (State.windowExpired_waits (s := s.elapseTo dt (d * 1000)) hx hp ⟨hv, v, hd, hb⟩
        (fun q hq ⟨hqv, w, hqd, hqb⟩ => hmin q hq w hqd hqv hqb)).trans
        (State.enterWaiting_of_peer (s := s.elapseTo dt (d * 1000)) x hp hpin)
    have hdue' : (s.elapseTo dt (d * 1000)).NothingDue := hdue
    obtain ⟨hrsq, hdsc, hstc, -⟩ := (s.elapseTo dt (d * 1000)).slotWaits_frame k x p.station
    rw [exec_claimWindowExpiry hs hw, hwin, State.afterSlots_of_nothingDue (State.slotWaits_nothingDue hdue' k x p.station)]
    exact ⟨_, rfl, State.slotWaits_slot .., rfl, hrsq, hdsc, hstc⟩

namespace Sys2Proof.Machine

/-! ### An accepted FIX (R22, R91) -/

/-- The state in which an accepted FIX enters the entry: the position is KNOWN, POSITION withdrawn, LOST left. -/
def State.fixed (s : State) : State :=
  ((s.setRsq { s.rsq with known := true, lastMarker := none }).withdraw .position).enterHeld

theorem State.fixed_frame (s : State) : s.fixed.ptb = s.ptb ∧ s.fixed.sau = s.sau ∧ s.fixed.scu = s.scu
    ∧ s.fixed.sck = s.sck ∧ s.fixed.spe = s.spe ∧ s.fixed.powered = s.powered ∧ s.fixed.cfg = s.cfg
    ∧ s.fixed.cfs = s.cfs ∧ s.fixed.now = s.now := by
  simp [State.fixed]

theorem State.enterHeld_place (s : State) : s.enterHeld.rsq.place = s.rsq.place := by
  simp only [State.enterHeld]
  split
  · simp
  · rw [(State.startDwell_rides _).place]
    simp

theorem State.fixed_rsq (s : State) : s.fixed.rsq.known = true ∧ s.fixed.rsq.lastMarker = none := by
  have h : s.fixed.rsq.place = { s.rsq.place with known := true, lastMarker := none } := by
    rw [State.fixed, State.enterHeld_place]
    simp [Rsq.place]
  simp only [Rsq.place, Rsq.mk.injEq] at h
  tauto

theorem State.enterHeld_brake (s : State) : s.enterHeld.dsc.brakeReleased = false := by
  simp only [State.enterHeld]
  split <;> simp [State.setMotion_dsc, Dsc.enter]

theorem State.fixed_stc (s : State) : s.fixed.stc =
    if s.active = true then { s.stc with causes := s.stc.causes.filter (· ≠ .position) } else s.stc := by
  have h : s.fixed.stc = ((s.setRsq { s.rsq with known := true, lastMarker := none }).withdraw .position).stc := by
    simp [State.fixed]
  rw [h, State.withdraw_stc]
  rfl

theorem State.fixed_latch (s : State) : s.fixed.stc.latch = s.stc.latch := by
  rw [State.fixed_stc]; split <;> rfl

/-- A FIX takes the vehicle to HELD, and to BRAKED where the latch stands at 2; the brake is applied (R89, R91). -/
theorem State.fixed_dsc (s : State) : s.fixed.dsc.motion = (if s.stc.latch = 2 then .braked else .held)
    ∧ s.fixed.dsc.brakeReleased = false := by
  refine ⟨?_, State.enterHeld_brake _⟩
  have h := s.fixed_latch
  simp only [State.fixed, State.enterHeld_frame] at h
  rw [State.fixed, State.enterHeld_motion, h]

theorem State.fixed_active {s : State} (h : s.active = true) : s.fixed.active = true := by
  obtain ⟨hp, hl, -⟩ := s.active_iff.mp h
  obtain ⟨-, -, -, -, -, fp, -, fl, -⟩ := s.fixed_frame
  rw [State.active_iff, fp, fl, s.fixed_dsc.1]
  exact ⟨hp, hl, by split <;> simp⟩

theorem State.Latched.fixed {s : State} (h : s.Latched) : s.fixed.Latched := by
  refine ⟨fun c hc => ?_, s.fixed_latch ▸ h.2⟩
  rw [s.fixed_latch]
  rw [State.fixed_stc] at hc
  split at hc
  · exact h.1 c (List.mem_of_mem_filter hc)
  · exact h.1 c hc

/-- An accepted FIX is an entering of the named place (R14, R22). -/
theorem State.relocate_eq {s : State} {e d : Nat} (ha : s.active = true) (hm : s.dsc.motion = .lost)
    (hk : s.rsq.known = false) (he : e < s.cfg.route.length) (hs : s.cfg.skips e = false)
    (hd : d < (s.cfg.entry e).length) : s.relocate e d = s.fixed.enterEntry e (d * 1000) := by
  have hacc : s.fixAccepted e d = true := by
    simp [State.fixAccepted, ha, hk, he, hs, Nat.le_of_lt hd]
  have hdrive : State.driveFix ((s.setRsq { s.rsq with known := true, lastMarker := none }).withdraw .position)
      = s.fixed := if_pos (by simp [hm])
  obtain ⟨-, -, -, -, -, -, hcfg, -⟩ := s.fixed_frame
  have hst : (s.fixed.enterEntry e (d * 1000)).Stands e (d * 1000) s.fixed.rsq.lastMarker :=
    State.enterEntry_stands s.fixed_rsq.1 e (d * 1000)
  have hend : (s.fixed.enterEntry e (d * 1000)).settleEnds = s.fixed.enterEntry e (d * 1000) :=
    State.settleEnds_of_stay (hst.endTest (by simp [hcfg]; omega))
  rw [State.relocate, if_pos hacc, hdrive, hend]

theorem State.relocate_of_not_accepted {s : State} {e d : Nat} (h : ¬ s.fixAccepted e d = true) : s.relocate e d = s :=
  if_neg h

/-- A record with the same station, data and pins. -/
def Peer.Alike (p q : Peer) : Prop := q.station = p.station ∧ q.data = p.data ∧ ∀ f, q.carries f = p.carries f

theorem Peer.Alike.refl (p : Peer) : p.Alike p := ⟨rfl, rfl, fun _ => rfl⟩

/-- The state in which the RSQ acts on a FIX is the received one in everything but the time, the carrier, the
settled order and the sender's hearing. -/
structure State.Meets (dt : Nat) (s u : State) : Prop where
  rsq : u.rsq = s.rsq
  dsc : u.dsc = s.dsc
  stc : u.stc = s.stc
  cfg : u.cfg = s.cfg
  cfs : u.cfs = s.cfs
  scu : u.scu = s.scu
  spe : u.spe = s.spe
  powered : u.powered = s.powered
  now : u.now = s.now + dt
  queue : u.ni.queue = s.ni.queue
  peers : ∃ f : Peer → Peer, (∀ p : Peer, p.Alike (f p)) ∧ u.ptb = s.ptb.map f

theorem Ni.measure_queue (now : Nat) (n : Ni) : (n.measure now).queue = n.queue := by
  simp only [Ni.measure]; split <;> rfl

theorem State.meets_heardFirst (dt src : Nat) (s : State) : s.Meets dt (s.heardFirst dt src) := by
  refine ⟨rfl, rfl, rfl, rfl, rfl, rfl, rfl, rfl, rfl, Ni.measure_queue .., _, fun p => ?_, rfl⟩
  split
  · exact ⟨rfl, rfl, fun f => by cases f with | ahead => rfl | slot k => cases k <;> rfl⟩
  · exact .refl p

theorem State.meets_heardLast (dt : Nat) (s : State) : s.Meets dt (s.heardLast dt) :=
  ⟨rfl, rfl, rfl, rfl, rfl, rfl, rfl, rfl, rfl, Ni.measure_queue .., id, .refl, (List.map_id _).symm⟩

theorem State.Meets.active {s u : State} {dt : Nat} (h : s.Meets dt u) : u.active = s.active := by
  simp only [State.active, h.powered, h.cfs, h.dsc]

theorem State.TakesFix.relocate {s u : State} {hd : Header} {e d dt : Nat} (h : s.TakesFix hd e d) (hu : s.Meets dt u) :
    u.relocate e d = u.fixed.enterEntry e (d * 1000) := by
  obtain ⟨hr, hpos, hk, he, hs, hlen⟩ := h
  have hm : s.dsc.motion = .lost := (hpos hr.1).mpr hk
  exact State.relocate_eq (hu.active.trans hr.1) (hu.dsc ▸ hm) (hu.rsq ▸ hk) (hu.cfg ▸ he) (hu.cfg ▸ hs) (hu.cfg ▸ hlen)

/-- What holds after the entering and the hearing in both orders holds after an accepted FIX. -/
theorem exec_fixFrame {P : State → Prop} {s : State} {hd : Header} {e d dt : Nat} (h : s.TakesFix hd e d)
    (first : P (((s.heardFirst dt hd.src).fixed.enterEntry e (d * 1000)).afterSlots s.scu))
    (last : P ((((s.heardLast dt).fixed.enterEntry e (d * 1000)).hear hd.src).afterSlots s.scu)) :
    ∃ t, exec (.fixFrame dt hd s.cfg.opt.station e d) s = .next t ∧ P t := by
  refine ⟨_, rfl, State.receive_beside (f := ⟨hd.src, hd.sig, .fix s.cfg.opt.station e d⟩) _ h.1
    (State.deliver_fix dt hd.src e d) ?_ ?_⟩
  · rw [h.relocate (s.meets_heardFirst dt hd.src)]
    exact first
  · rw [h.relocate (s.meets_heardLast dt)]
    exact last

/-- What an accepted FIX leaves of place, settings, drive and stops. -/
structure State.Relocated (e d latch : Nat) (t : State) : Prop extends t.Stands e d none where
  withdrawn : .position ∉ t.stc.causes
  moved : t.dsc.motion ≠ .lost
  braked : latch = 2 → t.dsc.motion = .braked ∧ t.dsc.brakeReleased = false

theorem State.fixed_enterEntry_relocated {u : State} (ha : u.active = true) (e d : Nat) :
    (u.fixed.enterEntry e d).Relocated e d u.stc.latch where
  toStands := u.fixed_rsq.2 ▸ State.enterEntry_stands u.fixed_rsq.1 e d
  withdrawn := by
    rw [(State.enterEntry_stops e d u.fixed).2 .position (by decide) (by decide), State.fixed_stc, if_pos ha]
    simp
  moved := by
    rw [ne_eq, State.enterEntry_lost, u.fixed_dsc.1]
    split <;> simp
  braked := fun h2 => by
    have hb : u.fixed.dsc.motion = .braked := u.fixed_dsc.1.trans (if_pos h2)
    obtain ⟨km, kb⟩ := State.enterEntry_still e d u.fixed (.inr hb)
    exact ⟨km.trans hb, kb.trans u.fixed_dsc.2⟩

theorem State.Relocated.hear {t : State} {e d latch : Nat} (h : t.Relocated e d latch) (src : Nat) :
    (t.hear src).Relocated e d latch where
  toStands := h.toStands.damps (t.hear_damps src)
  withdrawn := by rw [(t.hear_eases src).2 .position (by decide)]; exact h.withdrawn
  moved := by simpa using h.moved
  braked := by simpa using h.braked

theorem State.Relocated.afterSlots {t : State} {e d latch : Nat} (h : t.Relocated e d latch) (u : Scu) :
    (t.afterSlots u).Relocated e d latch := by
  obtain ⟨-, -, hdsc, -, -, -, hstc, -⟩ := State.afterSlots_kept h.atEnd u
  exact ⟨h.toStands.afterSlots u, hstc ▸ h.withdrawn, hdsc ▸ h.moved, hdsc ▸ h.braked⟩

/-- An accepted FIX relocates the vehicle, whatever the order of the hearing. -/
theorem exec_fixFrame_relocated {s : State} {hd : Header} {e d : Nat} (h : s.TakesFix hd e d) (dt : Nat) :
    ∃ t, exec (.fixFrame dt hd s.cfg.opt.station e d) s = .next t
      ∧ t.Relocated e (d * 1000) s.stc.latch ∧ t.cfg = s.cfg ∧ t.cfs = s.cfs ∧ t.now = s.now + dt := by
  refine exec_fixFrame h ⟨?_, ?_⟩ ⟨?_, ?_⟩
  · exact (State.fixed_enterEntry_relocated (u := s.heardFirst dt hd.src) h.1.1 e (d * 1000)).afterSlots _
  · obtain ⟨-, -, -, -, -, -, hc, hf, hn⟩ := (s.heardFirst dt hd.src).fixed_frame
    simp only [State.afterSlots_frame, State.enterEntry_frame]
    exact ⟨hc, hf, hn⟩
  · exact ((State.fixed_enterEntry_relocated (u := s.heardLast dt) h.1.1 e (d * 1000)).hear hd.src).afterSlots _
  · obtain ⟨-, -, -, -, -, -, hc, hf, hn⟩ := (s.heardLast dt).fixed_frame
    simp only [State.afterSlots_frame, State.hear_frame, State.enterEntry_frame]
    exact ⟨hc, hf, hn⟩

end Sys2Proof.Machine

namespace Sys2Proof.Machine

/-! ### The control period of a HELD vehicle -/

/-- Motion state, speed command and brake line. -/
def Dsc.drive (d : Dsc) : Motion × Nat × Bool := (d.motion, d.command, d.brakeReleased)

theorem Dsc.sense_drive (opt : Options) (coils : Coils) (d : Dsc) : (d.sense opt coils).drive = d.drive := by
  simp only [Dsc.sense]
  split
  · rfl
  · split <;> rfl

theorem Dsc.steer_drive (opt : Options) (d : Dsc) : (d.steer opt).drive = d.drive := by
  simp only [Dsc.steer]; split <;> rfl

/-- Sensing and steering leave the drive alone (R97 to R102). -/
theorem State.guideStep_drive (coils : Coils) (s : State) : (s.guideStep coils).dsc.drive = s.dsc.drive := by
  have hf : s.readFeedforward.dsc.drive = s.dsc.drive := by
    simp only [State.readFeedforward]; split <;> rfl
  have hr (g : GuideState) (t : State) : (t.regain g).dsc.drive = t.dsc.drive := by
    simp only [State.regain]
    split
    · simp [Dsc.drive]
    · rfl
  rw [State.guideStep, hr, State.setDsc_dsc, Dsc.steer_drive, Dsc.sense_drive, hf]

/-- With no slot waiting a removal of which the SCU is told changes no slot (R128). -/
theorem State.tellGone_of_not_waiting {s : State} (h : ∀ k, (s.scu.slot k).state ≠ .waiting) (n station : Nat) :
    s.tellGone n station = s := by
  have h1 : s.scu.slot1.state ≠ .waiting := h .one
  have h2 : s.scu.slot2.state ≠ .waiting := h .two
  cases n with
  | zero => rfl
  | succ n => simp [State.tellGone, Slot.waitsOn, h1, h2]

/-- With no slot waiting a pin that moves changes no slot (R57, R58, R60). -/
theorem State.pin_scu {s : State} (h : ∀ k, (s.scu.slot k).state ≠ .waiting) (f : Pin) (station : Option Nat) :
    (s.pin f station).scu = s.scu := by
  have hr (t : State) (ht : t.scu = s.scu) (n : Nat) : (t.removeWith State.tellScu n).scu = s.scu := by
    simp only [State.removeWith]
    split
    · exact ht
    · have w : ((t.setPtb (t.ptb.filter fun r => r.station ≠ n)).foreignAfter t.foreignSeen).scu = s.scu := by
        rcases State.foreignAfter_withdraws t.foreignSeen (t.setPtb (t.ptb.filter fun r => r.station ≠ n))
          (State.foreignSeen_filter _ t) with e | e <;> rw [e] <;> simp [ht]
      split
      · rw [State.tellScu, State.tellGone_of_not_waiting (w ▸ h), w]
      · exact w
  simp only [State.pin, State.pinWith]
  split
  · rfl
  · split
    · rfl
    · split
      · exact hr (s.setPtb (namePin f station s.ptb)) rfl _
      · rfl

/-- The state in which the period's authority is computed. -/
def State.measured (s : State) : State := s.restartPeriod.closeCount

/-- The computation reads nothing that the closing of the count changes (R63, R84). -/
theorem State.computedSau_measured (s : State) : s.measured.computedSau = s.computedSau := rfl

/-- A HELD vehicle with an authority and no latch moves off (R87, R96). -/
theorem State.periodTransition_of_held {s : State} (hm : s.dsc.motion = .held) (ha : 0 < s.sau.authority)
    (hl : s.stc.latch = 0) : s.periodTransition = s.setMotion .running := by
  simp only [State.periodTransition, hm]
  exact if_pos ⟨ha, hl⟩

/-- The state after the period transition of a vehicle that moves off. -/
def State.movedOff (s : State) : State := s.measured.computeAuthority.setMotion .running

theorem State.movedOff_frame (s : State) : s.movedOff.sau = s.computedSau ∧ s.movedOff.rsq = s.rsq
    ∧ s.movedOff.rm.vehicle = s.rm.vehicle ∧ s.movedOff.rm.seats = s.rm.seats ∧ s.movedOff.spe = s.spe
    ∧ s.movedOff.cfg = s.cfg ∧ s.movedOff.cfs = s.cfs
    ∧ s.movedOff.dsc.drive = (.running, s.dsc.command, true) := by
  have hd : s.measured.dsc.command = s.dsc.command := rfl
  have hm : s.measured.rsq = s.rsq ∧ s.measured.rm.vehicle = s.rm.vehicle ∧ s.measured.rm.seats = s.rm.seats
      ∧ s.measured.spe = s.spe ∧ s.measured.cfg = s.cfg ∧ s.measured.cfs = s.cfs := ⟨rfl, rfl, rfl, rfl, rfl, rfl⟩
  obtain ⟨hr, hv, hs, hsp, hc, hf⟩ := hm
  have hsau : s.measured.computeAuthority.sau = s.computedSau := by
    simp [State.computeAuthority, State.computedSau_measured]
  refine ⟨by simp [State.movedOff, hsau], by simp [State.movedOff, hr], ?_, ?_, by simp [State.movedOff, hsp],
    by simp [State.movedOff, hc], by simp [State.movedOff, hf], ?_⟩
  · simp [State.movedOff, State.setMotion, State.evalRelease, hv]
  · simp [State.movedOff, State.setMotion, State.evalRelease, hs]
  · simp [State.movedOff, State.setMotion_dsc, Dsc.enter, Dsc.drive, hd]

theorem State.movedOff_scu {s : State} (h : ∀ k, (s.scu.slot k).state ≠ .waiting) : s.movedOff.scu = s.scu := by
  have hp : s.measured.computeAuthority.scu = s.scu := State.pin_scu (s := s.measured.setSau _) h _ _
  simp [State.movedOff, hp]

/-- The period of a vehicle that moves off: after the transition the command is set and the guide sampled (R83). -/
theorem State.controlPeriod_movesOff {s : State} (coils : Coils) (hm : s.dsc.motion = .held)
    (ha : 0 < s.computedSau.authority) (hl : s.stc.latch = 0) (he : s.rsq.atEnd = false)
    (hw : ∀ k, (s.scu.slot k).state ≠ .waiting) : s.controlPeriod coils = s.movedOff.setCommand.guideStep coils := by
  have hsau : s.measured.computeAuthority.sau = s.computedSau := by
    simp [State.computeAuthority, State.computedSau_measured]
  have hstc : s.measured.computeAuthority.stc.latch = 0 :=
    (State.pin_eases .ahead _ (s.measured.setSau s.measured.computedSau)).1.trans hl
  have hdsc : s.measured.computeAuthority.dsc.motion = .held := by
    simp only [State.computeAuthority_frame]
    exact hm
  have ht : s.measured.computeAuthority.periodTransition = s.movedOff :=
    State.periodTransition_of_held hdsc (hsau ▸ ha) hstc
  have hr : (s.movedOff.setCommand.guideStep coils).rsq.atEnd = false := by
    simp [s.movedOff_frame.2.1, he]
  have hscu : (s.movedOff.setCommand.guideStep coils).scu = s.scu := by
    simp [State.movedOff_scu hw]
  have hstep : s.restartPeriod.closeCount.computeAuthority.periodTransition = s.movedOff := ht
  rw [State.controlPeriod, hstep, State.actOnRelease_of_not_atEnd hr]
  exact State.SameSlots.afterSlots (State.sameSlots_of_scu hscu)

/-- The command of the first period is the first ramp step, and the brake line is released (R94, R96). -/
theorem State.movedOff_drive {s : State} (coils : Coils) (hc : s.dsc.command = 0) :
    (s.movedOff.setCommand.guideStep coils).dsc.drive
      = (.running, min s.computedSau.authority (s.cfg.opt.accelLimit * 10 / 1000), true) := by
  obtain ⟨hsau, -, -, -, -, hcfg, -, hd⟩ := s.movedOff_frame
  simp only [Dsc.drive, Prod.mk.injEq] at hd
  obtain ⟨hm, hco, hb⟩ := hd
  rw [State.guideStep_drive]
  simp [State.setCommand, Dsc.ramp, Dsc.drive, hm, hco, hb, hc, hsau, hcfg, rampStep]

end Sys2Proof.Machine

open Sys2Proof.Machine in
/-- Settles O34: the period transition of a HELD vehicle, and the place of an accepted FIX. -/
theorem heldVehicleMovesOff : Obligations.HeldVehicleMovesOff := by
  unfold Obligations.HeldVehicleMovesOff
  refine ⟨fun dt d coils s ha ht hm hsafe he hl hau hw => ?movesOff, fun dt h e d s hfix => ?leavesLost⟩
  case movesOff =>
    obtain ⟨hbrake, hcommand, -⟩ := hsafe
    have hb : s.dsc.brakeReleased = false := by
      cases hb : s.dsc.brakeReleased
      · rfl
      · simp [hm] at hbrake
        simp [hbrake] at hb
    have hexec : exec (.controlPeriodExpiry dt coils) s = .next ((s.elapseTo dt (d * 1000)).controlPeriod coils) := by
      show Host.Outcome.next (s.onExpiry dt s.dsc.timer (State.controlPeriod coils)) = _
      rw [ht]
      rfl
    have hp := State.controlPeriod_movesOff (s := s.elapseTo dt (d * 1000)) coils hm hau hl he hw
    have hd := State.movedOff_drive (s := s.elapseTo dt (d * 1000)) coils (hcommand hb)
    obtain ⟨hsau, hrsq, hv, hs, hspe, hcfg, hcfs, -⟩ := (s.elapseTo dt (d * 1000)).movedOff_frame
    simp only [Dsc.drive, Prod.mk.injEq] at hd
    obtain ⟨hdm, hdc, hdb⟩ := hd
    rw [hexec, hp]
    refine ⟨_, rfl, hdm, hdb, ?_, hdc, ?_, ?_, ?_, ?_, ?_, ?_⟩ <;> simp only [State.guideStep_frame, State.setCommand_frame]
    · rw [hsau]; rfl
    · exact hrsq
    · exact hv
    · exact hs
    · exact hspe
    · exact hcfg
    · exact hcfs
  case leavesLost =>
    obtain ⟨t, hexec, ht, hcfg, hcfs, hnow⟩ := exec_fixFrame_relocated hfix dt
    exact ⟨t, hexec, ht.known, ht.index, ht.distance, ht.moved, ht.braked, hcfg, hcfs, hnow⟩

namespace Sys2Proof.Machine

/-! ### The queue at an entering -/

theorem mem_insertFrame {f x : Waiting} {q : List Waiting} : x ∈ insertFrame f q ↔ x = f ∨ x ∈ q := by
  induction q with
  | nil => simp [insertFrame]
  | cons y ys ih =>
    simp only [insertFrame]
    split <;> simp [ih, or_left_comm]

theorem length_insertFrame (f : Waiting) (q : List Waiting) : (insertFrame f q).length = q.length + 1 := by
  induction q with
  | nil => rfl
  | cons y ys ih =>
    simp only [insertFrame]
    split <;> simp [ih]

/-- A displaced frame is of the class that makes room, and every other one stays (R37). -/
theorem mem_of_dropNewest {n : Nat} {q r : List Waiting} {y f : Waiting} (h : dropNewest n q = some (y, r))
    (hf : f ∈ q) (hn : f.rank ≠ n) : f ∈ r := by
  induction q generalizing r with
  | nil => simp at hf
  | cons x xs ih =>
    simp only [dropNewest] at h
    split at h
    · next z zs hz =>
      obtain ⟨rfl, rfl⟩ : z = y ∧ x :: zs = r := by simpa using h
      rcases List.mem_cons.mp hf with rfl | hf
      · exact List.mem_cons_self ..
      · exact List.mem_cons_of_mem _ (ih hz hf)
    · split at h
      · next hx =>
        obtain ⟨rfl, rfl⟩ : x = y ∧ xs = r := by simpa using h
        rcases List.mem_cons.mp hf with rfl | hf
        · exact absurd hx hn
        · exact hf
      · simp at h

/-- A frame of class S or C stays where a frame of class C or P joins (R37). -/
theorem mem_joinQueue {f g : Waiting} {q : List Waiting} (hf : f ∈ q) (hr : f.rank ≠ 2) (hg : 1 ≤ g.rank) :
    f ∈ (joinQueue g q).1 := by
  simp only [joinQueue]
  split
  · exact mem_insertFrame.mpr (.inr hf)
  · split
    · exact hf
    · split
      · next h => exact mem_insertFrame.mpr (.inr (mem_of_dropNewest h hf hr))
      · split
        · exact hf
        · next h2 _ h1 =>
          have : g.rank ≤ 2 := by cases g <;> simp only [Waiting.rank] <;> (try split) <;> omega
          omega

/-- A frame of class S or C other than a POS stays where a POS is requested (R37). -/
theorem mem_joinPos {f : Waiting} {q : List Waiting} (urgent : Bool) (hf : f ∈ q) (hr : f.rank ≠ 2)
    (hp : f.isPos = false) : f ∈ joinPos urgent q := by
  simp only [joinPos]
  split
  · split
    · exact mem_insertFrame.mpr (.inr (List.mem_filter.mpr ⟨hf, by simp [hp]⟩))
    · exact hf
  · exact mem_joinQueue hf hr (by cases urgent <;> decide)

/-- The queue has room for a frame besides the POS that a change of the motion state requests. -/
def Roomy (q : List Waiting) : Prop := q.length < 5 ∨ (q.length < 6 ∧ q.any Waiting.isPos = true)

theorem Roomy.length {q : List Waiting} (h : Roomy q) : q.length < 6 := by
  rcases h with h | ⟨h, -⟩
  · omega
  · exact h

theorem Roomy.joinPos {q : List Waiting} (h : Roomy q) : Roomy (joinPos true q) := by
  simp only [Machine.joinPos]
  split
  · next hany =>
    split
    · refine .inr ⟨?_, ?_⟩
      · have hlt : (q.filter fun f => !f.isPos).length < q.length := by
          rw [List.length_filter_lt_length_iff_exists]
          simpa using hany
        have := h.length
        rw [length_insertFrame]
        omega
      · simp only [List.any_eq_true]
        exact ⟨.pos true, mem_insertFrame.mpr (.inl rfl), rfl⟩
    · exact h
  · next hany =>
    have h5 : q.length < 5 := by
      rcases h with h | ⟨-, h⟩
      · exact h
      · exact absurd h hany
    have hj : (joinQueue (.pos true) q).1 = insertFrame (.pos true) q := by
      simp only [joinQueue, Nat.lt_succ_of_lt h5, if_true]
    rw [hj]
    refine .inr ⟨by rw [length_insertFrame]; omega, ?_⟩
    simp only [List.any_eq_true]
    exact ⟨.pos true, mem_insertFrame.mpr (.inl rfl), rfl⟩

theorem State.requestPos_queue (urgent : Bool) (s : State) :
    (s.requestPos urgent).ni.queue = joinPos urgent s.ni.queue := Ni.measure_queue ..

theorem State.putFrame_queue (f : Waiting) (s : State) : (s.putFrame f).1.ni.queue = (joinQueue f s.ni.queue).1 :=
  Ni.measure_queue ..

theorem State.setMotion_queue (m : Motion) (s : State) : (s.setMotion m).ni.queue = joinPos true s.ni.queue := by
  simp only [State.setMotion, State.evalRelease_frame]
  exact State.requestPos_queue ..

/-- What urgent POS requests keep of the queue holds after a FIX where it held before. -/
theorem State.fixed_queue {Q : List Waiting → Prop} (hQ : ∀ q, Q q → Q (joinPos true q)) {s : State}
    (h : Q (joinPos true s.ni.queue)) : Q s.fixed.ni.queue := by
  have hw (t : State) (c : Cause) : (t.withdraw c).ni.queue = t.ni.queue ∨ (t.withdraw c).ni.queue = joinPos true t.ni.queue := by
    simp only [State.withdraw]
    split
    · exact .inl rfl
    · split
      · exact .inr (State.requestPos_queue ..)
      · exact .inl rfl
  have he (t : State) (ht : Q (joinPos true t.ni.queue)) : Q t.enterHeld.ni.queue := by
    simp only [State.enterHeld]
    split
    · rw [State.setMotion_queue, State.setMotion_queue]
      exact hQ _ ht
    · simpa [State.setMotion_queue] using ht
  refine he _ ?_
  rcases hw (s.setRsq { s.rsq with known := true, lastMarker := none }) .position with e | e <;> rw [e]
  · exact h
  · exact hQ _ h

/-- What the joining of a CUE keeps of the queue a chain keeps. -/
theorem State.runChain_queue {Q : List Waiting → Prop} (hQ : ∀ b r q, Q q → Q (joinQueue (.cue b r) q).1) (n : Nat)
    (met : Bool) {s : State} (h : Q s.ni.queue) : Q (s.runChain n met).ni.queue := by
  induction n generalizing met s with
  | zero => exact h
  | succ n ih =>
    have hnext (i : Nat) (t : State) : (t.nextPending i).ni = t.ni := by
      simp only [State.nextPending]
      split <;> rfl
    simp only [State.runChain]
    split
    · exact h
    · next i _ =>
      split
      · simpa using h
      · split
        · exact h
        · split
          · exact h
          · split
            · exact ih false (by rw [hnext]; exact h)
            · split
              · exact h
              · refine ih false ?_
                rw [hnext]
                simp only [State.issue]
                split
                · simp only [State.setScu_ni, State.putFrame_queue]
                  exact hQ _ _ _ h
                · simp only [State.putFrame_queue]
                  exact hQ _ _ _ h

theorem State.startChain_queue {Q : List Waiting → Prop} (hQ : ∀ b r q, Q q → Q (joinQueue (.cue b r) q).1) (i : Nat)
    {s : State} (h : Q s.ni.queue) : Q (s.startChain i).ni.queue := by
  have h1 : (s.abandonChain .abandoned).ni = s.ni := by simp
  simp only [State.startChain, State.testChain]
  split
  · refine State.runChain_queue hQ 129 false ?_
    simpa [State.becomePending, State.setChain, h1] using h
  · simpa [State.becomePending, State.setChain, h1] using h

theorem State.chainAction_queue {Q : List Waiting → Prop} (hQ : ∀ b r q, Q q → Q (joinQueue (.cue b r) q).1)
    {s : State} (h : Q s.ni.queue) : Q s.chainAction.ni.queue := by
  simp only [State.chainAction]
  split
  · exact State.startChain_queue hQ _ h
  · exact h

/-! ### The actions that an entry hands out -/

/-- The state before the scene action of an entering. -/
def State.offered (i d : Nat) (s : State) : State := (s.entering i d).soundAction

theorem State.enterEntry_offered (i d : Nat) (s : State) : s.enterEntry i d = (s.offered i d).sceneAction.entryRest := rfl

theorem State.offered_frame (i d : Nat) (s : State) : (s.offered i d).scu = s.scu ∧ (s.offered i d).stc = s.stc
    ∧ (s.offered i d).ptb = s.ptb ∧ (s.offered i d).ni = s.ni ∧ (s.offered i d).cfg = s.cfg
    ∧ (s.offered i d).now = s.now ∧ (s.offered i d).rsq.distance = d ∧ (s.offered i d).entry = s.cfg.entry i := by
  obtain ⟨h1, h2, h3, -, h4, -, h5, -, h6, -⟩ := s.entering_frame i d
  simp [State.offered, State.entry, h1, h2, h3, h4, h5, h6, State.entering_rsq]

theorem State.offered_active {s : State} (h : s.active = true) (i d : Nat) : (s.offered i d).active = true := by
  obtain ⟨-, -, -, -, -, hp, -, hf, -⟩ := s.entering_frame i d
  simp only [State.offered, State.active, State.soundAction_frame, hp, hf, (s.entering_dsc i d).1]
  exact h

/-- What follows the scene action keeps slots, tracker and counters but for the chain start, and the queue but for its
CUEs. -/
theorem State.entryRest_slots (s : State) : s.SameSlots s.entryRest := by
  refine s.chainAction_sameSlots.trans (State.sameSlots_of_scu ?_)
  simp [State.entryRest, State.evalRelease]

theorem State.entryRest_scu (s : State) : s.entryRest.scu = s.chainAction.scu ∧ s.entryRest.ni = s.chainAction.ni := by
  simp [State.entryRest, State.evalRelease]

theorem State.entryRest_queue {Q : List Waiting → Prop} (hQ : ∀ b r q, Q q → Q (joinQueue (.cue b r) q).1)
    {s : State} (h : Q s.ni.queue) : Q s.entryRest.ni.queue := by
  rw [s.entryRest_scu.2]
  exact State.chainAction_queue hQ h

theorem State.entryRest_chainStart (s : State) : s.entryRest.rsq.chainStart = s.chainAction.rsq.chainStart := by
  have h (t : State) : t.evalHold.rsq.chainStart = t.rsq.chainStart := by
    have hs (t : State) : t.sceneTest.rsq.chainStart = t.rsq.chainStart := by
      rcases t.sceneTest_rsq with e | e <;> rw [e]
    simp only [State.evalHold]
    split
    · rcases t.sceneTest.startDwell_rsq with e | e | ⟨d, e⟩ <;> rw [e] <;> exact hs t
    · exact hs t
  simp only [State.entryRest, State.evalRelease_frame, h]
  rfl

end Sys2Proof.Machine

namespace Sys2Proof.Machine

/-! ### What an accepted FIX hands out -/

/-- What the hearing and the action on the slots keep of the state that an entering leaves. -/
structure State.Hands (v t : State) : Prop where
  scu : t.scu = v.scu
  spe : t.spe = v.spe
  ni : t.ni = v.ni
  stc : t.stc = v.stc
  chainStart : t.rsq.chainStart = v.rsq.chainStart

theorem State.hands_afterSlots {v t : State} (h : t.rsq.atEnd = false) (hv : v.Hands t) (u : Scu) :
    v.Hands (t.afterSlots u) := by
  obtain ⟨hscu, -, -, -, -, hspe, hstc, hni, -, -, -, -, hcs⟩ := State.afterSlots_kept h u
  exact ⟨hscu.trans hv.scu, hspe.trans hv.spe, hni.trans hv.ni, hstc.trans hv.stc, hcs.trans hv.chainStart⟩

theorem State.hands_hear_last {s v : State} {f : Frame} (hr : s.Receives f) (ha : v.active = true)
    (hp : v.ptb = s.ptb) (he : v.rsq.atEnd = false) (u : Scu) : v.Hands ((v.hear f.src).afterSlots u) := by
  have hv : v.hear f.src = v.setPtb (refreshed f.src v.ms s.ptb) := hr.hear_last ha hp
  generalize refreshed f.src v.ms s.ptb = p at hv
  rw [hv]
  exact State.hands_afterSlots (v := v) (t := v.setPtb p) he ⟨rfl, rfl, rfl, rfl, rfl⟩ u

/-- Where the entering leaves the peer table alone, the hearing refreshes the sender's record and nothing else. -/
theorem exec_fixFrame_hands {s : State} {hd : Header} {e d : Nat} (h : s.TakesFix hd e d) (dt : Nat)
    (hptb : ∀ u, s.Meets dt u → (u.fixed.enterEntry e (d * 1000)).ptb = u.ptb) :
    ∃ u t, s.Meets dt u ∧ exec (.fixFrame dt hd s.cfg.opt.station e d) s = .next t
      ∧ (u.fixed.enterEntry e (d * 1000)).Hands t := by
  have h1 := s.meets_heardFirst dt hd.src
  have h2 := s.meets_heardLast dt
  have hact : ((s.heardLast dt).fixed.enterEntry e (d * 1000)).active = true :=
    State.enterEntry_active _ _ _ (State.fixed_active (h2.active.trans h.1.1))
  have first := State.hands_afterSlots (State.enterEntry_atEnd e (d * 1000) (s.heardFirst dt hd.src).fixed)
    ⟨rfl, rfl, rfl, rfl, rfl⟩ s.scu
  have last := State.hands_hear_last h.1 hact (hptb _ h2) (State.enterEntry_atEnd ..) s.scu
  obtain ⟨t, ht, u, hu, hands⟩ := exec_fixFrame (dt := dt)
    (P := fun t => ∃ u, s.Meets dt u ∧ (u.fixed.enterEntry e (d * 1000)).Hands t) h ⟨_, h1, first⟩ ⟨_, h2, last⟩
  exact ⟨u, t, hu, ht, hands⟩

/-- The state before the scene action of an accepted FIX, in the terms of the state that received it. -/
structure State.Offers (dt e d : Nat) (s o : State) : Prop where
  scu : o.scu = s.scu
  latch : o.stc.latch = s.stc.latch
  latched : s.Latched → o.Latched
  cfg : o.cfg = s.cfg
  now : o.now = s.now + dt
  distance : o.rsq.distance = d * 1000
  entry : o.entry = s.cfg.entry e
  active : o.active = true
  room : s.ni.queue.length < 5 → Roomy o.ni.queue
  posAlone : s.ni.queue = [] → o.ni.queue = [.pos true]
  peers : ∃ f : Peer → Peer, (∀ p : Peer, p.Alike (f p)) ∧ o.ptb = s.ptb.map f

theorem State.Meets.offers {s u : State} {dt : Nat} (h : s.Meets dt u) (ha : s.active = true) (e d : Nat) :
    State.Offers dt e d s (u.fixed.offered e (d * 1000)) := by
  obtain ⟨oscu, ostc, optb, oni, ocfg, onow, odist, oentry⟩ := u.fixed.offered_frame e (d * 1000)
  obtain ⟨fptb, -, fscu, -, -, -, fcfg, -, fnow⟩ := u.fixed_frame
  refine ⟨oscu.trans (fscu.trans h.scu), ?_, fun hl => ?_, ocfg.trans (fcfg.trans h.cfg), onow.trans (fnow.trans h.now),
    odist, oentry.trans (by rw [fcfg, h.cfg]), State.offered_active (State.fixed_active (h.active.trans ha)) _ _,
    fun hq => ?_, fun hq => ?_, (optb.trans fptb) ▸ h.peers⟩
  · rw [ostc, u.fixed_latch, h.stc]
  · have hu : u.Latched := by rwa [State.Latched, h.stc]
    have hf := hu.fixed
    rwa [State.Latched, ostc]
  · rw [oni]
    have hr : Roomy u.ni.queue := .inl (by rwa [h.queue])
    exact State.fixed_queue (Q := Roomy) (fun _ hq => hq.joinPos) hr.joinPos
  · rw [oni]
    refine State.fixed_queue (Q := (· = [.pos true])) (fun q hq => ?_) ?_
    · rw [hq]; rfl
    · rw [h.queue, hq]; rfl

end Sys2Proof.Machine

namespace Sys2Proof.Machine

/-! ### Voices (R163, R170, R171) -/

theorem Spe.voice_setVoice (e : Spe) {i j : Nat} (hi : i < 4) (hj : j < 4) (v : Voice) :
    (e.setVoice i v).voice j = if j = i then v else e.voice j := by
  match i, j, hi, hj with
  | 0, 0, _, _ | 0, 1, _, _ | 0, 2, _, _ | 0, 3, _, _ | 1, 0, _, _ | 1, 1, _, _ | 1, 2, _, _ | 1, 3, _, _
  | 2, 0, _, _ | 2, 1, _, _ | 2, 2, _, _ | 2, 3, _, _ | 3, 0, _, _ | 3, 1, _, _ | 3, 2, _, _ | 3, 3, _, _ => rfl

theorem Spe.voice_disown (e : Spe) (i j : Nat) : (e.disown i).voice j = e.voice j := by
  simp only [Spe.disown]
  split
  · split <;> rfl
  · rfl

/-- What a voice plays and what waits for it: all but its refill. -/
def Voice.show (v : Voice) : Voice := { v with refill := .none }

theorem Voice.fields_of_show {v w : Voice} (h : w.show = v.show) : w.state = v.state ∧ w.current = v.current
    ∧ w.queue = v.queue ∧ w.position = v.position ∧ w.fade = v.fade ∧ w.loops = v.loops ∧ w.refusals = v.refusals := by
  simp only [Voice.show, Voice.mk.injEq] at h
  tauto

/-- The memory link changes the refill of the voice it serves, and nothing else of any (R175). -/
theorem Spe.show_serve (cfg : Configuration) (e : Spe) {j : Nat} (hj : j < 4) :
    ((e.serve cfg).voice j).show = (e.voice j).show := by
  simp only [Spe.serve]
  split
  · rfl
  · split
    · rfl
    · next i hi =>
      have hlt : i < 4 := by
        obtain ⟨k, -, rfl⟩ := List.mem_map.mp (List.mem_of_find?_eq_some hi)
        exact Nat.mod_lt _ (by decide)
      have hv := Spe.voice_setVoice e hlt hj { e.voice i with refill := .inTransfer }
      refine (congrArg Voice.show hv).trans ?_
      split
      · next h => rw [h]; rfl
      · rfl

/-- A request that reaches an IDLE voice begins at once (R163, R164). -/
theorem Spe.show_play_idle (cfg : Configuration) (reading : Nat) (e : Spe) {i j : Nat} (hi : i < 4) (hj : j < 4)
    {r : PlayRequest} (hr : r.start = none) (hs : (e.voice i).state = .idle) :
    ((e.play cfg reading i r).voice j).show = if j = i then
      { (e.voice i).goIdle with
        state := .playing, current := some r, queue := (e.voice i).queue, position := 0, loops := r.loops
        fade := some ⟨false, 0, 0⟩, refill := .none }
      else (e.voice j).show := by
  have hp : e.play cfg reading i r = (e.takeFrom cfg reading i (r :: (e.voice i).queue)).serve cfg := if_pos hs
  rw [hp, Spe.show_serve cfg _ hj, Spe.takeFrom, Spe.voice_setVoice _ hi hj, Spe.voice_disown]
  split
  · simp [Voice.take, judgeStart, hr, Voice.show]
  · rfl

/-- A request that reaches a busy voice joins its queue, and leaves no trace at a full one (R163). -/
theorem Spe.play_busy (cfg : Configuration) (reading : Nat) (e : Spe) {i : Nat} (hi : i ≠ 0) {r : PlayRequest}
    (hr : r.origin ≠ .cue) (hs : (e.voice i).state ≠ .idle) :
    e.play cfg reading i r = if (e.voice i).queue.length < 4 then
      e.setVoice i { e.voice i with queue := (e.voice i).queue ++ [r] } else e := by
  simp only [Spe.play, hs, hi, hr, if_false]

/-- STOP of a voice (R170, R171). -/
theorem Spe.stopVoice_stopped (cfg : Configuration) (e : Spe) {i : Nat} (hi : i < 4) :
    Voice.Stopped (e.voice i) ((e.stopVoice cfg i).voice i) := by
  simp only [Spe.stopVoice]
  split
  · next hw =>
    have h : ((((e.disown i).setVoice i (e.voice i).goIdle).serve cfg).voice i).show = (e.voice i).goIdle.show := by
      rw [Spe.show_serve cfg _ hi, Spe.voice_setVoice _ hi hi, if_pos rfl]
    obtain ⟨hst, hcur, hq, -⟩ := Voice.fields_of_show h
    exact ⟨hq, by simp [hw], by simp [hw], fun _ => ⟨hst, hcur⟩, by simp [hw]⟩
  · next hw =>
    rw [Spe.voice_setVoice _ hi hi, if_pos rfl]
    by_cases hp : (e.voice i).state = .playing
    · simp [Voice.Stopped, Voice.fadeOut, hp]
    · simp [Voice.Stopped, Voice.fadeOut, hp, hw]

theorem Spe.show_stopVoice_other (cfg : Configuration) (e : Spe) {i j : Nat} (hi : i < 4) (hj : j < 4) (h : j ≠ i) :
    ((e.stopVoice cfg i).voice j).show = (e.voice j).show := by
  simp only [Spe.stopVoice]
  split
  · rw [Spe.show_serve cfg _ hj, Spe.voice_setVoice _ hi hj, if_neg h, Spe.voice_disown]
  · rw [Spe.voice_setVoice _ hi hj, if_neg h]

/-- What another voice shows is kept. -/
def Voice.Kept (v w : Voice) : Prop :=
  w.state = v.state ∧ w.current = v.current ∧ w.queue = v.queue ∧ w.position = v.position ∧ w.fade = v.fade

theorem Voice.kept_of_show {v w : Voice} (h : w.show = v.show) : v.Kept w := by
  obtain ⟨hs, hc, hq, hp, hf, -⟩ := Voice.fields_of_show h
  exact ⟨hs, hc, hq, hp, hf⟩

/-- A PLAY of the route at voice 1 to 3 (R163): the three cases of a voice that is IDLE, a busy one, and the others. -/
theorem Spe.play_spec (cfg : Configuration) (reading : Nat) (e : Spe) {v : Nat} (h1 : 1 ≤ v) (h3 : v ≤ 3)
    {r : PlayRequest} (hs : r.start = none) (ho : r.origin ≠ .cue) :
    ((e.voice v).state = .idle → ((e.play cfg reading v r).voice v).state = .playing
        ∧ ((e.play cfg reading v r).voice v).current = some r ∧ ((e.play cfg reading v r).voice v).position = 0
        ∧ ((e.play cfg reading v r).voice v).loops = r.loops
        ∧ ((e.play cfg reading v r).voice v).fade = some ⟨false, 0, 0⟩
        ∧ ((e.play cfg reading v r).voice v).queue = (e.voice v).queue)
      ∧ ((e.voice v).state ≠ .idle → ((e.play cfg reading v r).voice v).state = (e.voice v).state
        ∧ ((e.play cfg reading v r).voice v).current = (e.voice v).current
        ∧ ((e.play cfg reading v r).voice v).position = (e.voice v).position
        ∧ ((e.play cfg reading v r).voice v).refusals = (e.voice v).refusals
        ∧ ((e.play cfg reading v r).voice v).queue
          = if (e.voice v).queue.length < 4 then (e.voice v).queue ++ [r] else (e.voice v).queue)
      ∧ ∀ i, i < 4 → i ≠ v → (e.voice i).Kept ((e.play cfg reading v r).voice i) := by
  have hv : v < 4 := by omega
  refine ⟨fun hidle => ?_, fun hbusy => ?_, fun i hi hne => ?_⟩
  · have h := Spe.show_play_idle cfg reading e hv hv hs hidle
    rw [if_pos rfl] at h
    obtain ⟨hst, hcu, hqu, hpo, hfa, hlo, -⟩ := Voice.fields_of_show (v := { (e.voice v).goIdle with
      state := .playing, current := some r, queue := (e.voice v).queue, position := 0, loops := r.loops
      fade := some ⟨false, 0, 0⟩, refill := .none }) h
    exact ⟨hst, hcu, hpo, hlo, hfa, hqu⟩
  · rw [Spe.play_busy cfg reading e (by omega) ho hbusy]
    split
    · rw [Spe.voice_setVoice e hv hv, if_pos rfl]
      exact ⟨rfl, rfl, rfl, rfl, rfl⟩
    · exact ⟨rfl, rfl, rfl, rfl, rfl⟩
  · by_cases hidle : (e.voice v).state = .idle
    · have h := Spe.show_play_idle cfg reading e hv hi hs hidle
      rw [if_neg hne] at h
      exact Voice.kept_of_show h
    · rw [Spe.play_busy cfg reading e (by omega) ho hidle]
      split
      · rw [Spe.voice_setVoice e hv hi, if_neg hne]
        exact ⟨rfl, rfl, rfl, rfl, rfl⟩
      · exact ⟨rfl, rfl, rfl, rfl, rfl⟩

end Sys2Proof.Machine

namespace Sys2Proof.Machine

/-! ### The scene action and the chain start of an accepted FIX -/

theorem Peer.Alike.blocks {p q : Peer} (h : p.Alike q) (station x : Nat) : q.Blocks station x ↔ p.Blocks station x := by
  obtain ⟨hs, hd, -⟩ := h
  simp only [Peer.Blocks, Peer.isVehicle, hs, hd]

/-- A claimed slot with no record blocking its scene (R126). -/
theorem State.claimAction_claims {s : State} {k : SlotId} {x : Nat} (h1 : s.scu.slot1.scene ≠ some x)
    (h2 : s.scu.slot2.scene ≠ some x)
    (hk : k = .one ∧ s.scu.slot1.state = .free ∨ k = .two ∧ s.scu.slot1.state ≠ .free ∧ s.scu.slot2.state = .free)
    (hb : ∀ p ∈ s.ptb, ¬ p.Blocks s.cfg.opt.station x) : s.claimAction x = s.enterClaiming k x := by
  have hc := State.claimCheck_eq_none hb
  rcases hk with ⟨rfl, hf⟩ | ⟨rfl, hn, hf⟩
  · simp [State.claimAction, h1, h2, hc, hf]
  · simp [State.claimAction, h1, h2, hc, hn, hf]

/-- A claimed slot with a record blocking its scene (R125, R126). -/
theorem State.claimAction_waits {s : State} {k : SlotId} {x : Nat} {p : Peer} (h1 : s.scu.slot1.scene ≠ some x)
    (h2 : s.scu.slot2.scene ≠ some x)
    (hk : k = .one ∧ s.scu.slot1.state = .free ∨ k = .two ∧ s.scu.slot1.state ≠ .free ∧ s.scu.slot2.state = .free)
    (hp : p ∈ s.ptb) (hb : p.Blocks s.cfg.opt.station x)
    (hmin : ∀ q ∈ s.ptb, q.Blocks s.cfg.opt.station x → p.station ≤ q.station) :
    s.claimAction x = s.enterWaiting k x p.station := by
  have hc := State.claimCheck_eq_some hp hb hmin
  rcases hk with ⟨rfl, hf⟩ | ⟨rfl, hn, hf⟩
  · simp [State.claimAction, h1, h2, hc, hf]
  · simp [State.claimAction, h1, h2, hc, hn, hf]

/-- A request at a queue with room joins it and displaces nothing (R36). -/
theorem State.requestFrame_of_room {s : State} (f : Waiting) (h : s.ni.queue.length < 6) :
    s.requestFrame f = (s.putFrame f).1 ∧ f ∈ (s.requestFrame f).ni.queue := by
  have hq : joinQueue f s.ni.queue = (insertFrame f s.ni.queue, none) := by simp [joinQueue, h]
  have hd : (s.putFrame f).2 = none := by simp [State.putFrame, hq]
  have hr : s.requestFrame f = (s.putFrame f).1 := by
    rw [State.requestFrame, hd]
    rfl
  refine ⟨hr, ?_⟩
  rw [hr, State.putFrame_queue, hq]
  exact mem_insertFrame.mpr (.inl rfl)

theorem State.slotNotice_queue (s : State) : s.slotNotice.ni.queue = joinPos true s.ni.queue := by
  simp only [State.slotNotice, State.select_frame]
  exact State.requestPos_queue ..

/-- The slot that enters CLAIMING, the other one, and the CLAIM frame in a queue with room (R126). -/
theorem State.enterClaiming_spec {s : State} {k : SlotId} {x : Nat} (hf : (s.scu.slot k).state = .free)
    (hq : s.ni.queue.length < 6) :
    (s.enterClaiming k x).scu.slot k = ⟨some x, .claiming, some (s.ms + s.cfg.opt.claimWindow), none,
        some (if (s.scu.slot (otherSlot k)).state = .claiming then .second else .first)⟩
      ∧ (s.enterClaiming k x).scu.slot (otherSlot k) = s.scu.slot (otherSlot k)
      ∧ .claim x ∈ (s.enterClaiming k x).ni.queue := by
  generalize hv : (⟨some x, .claiming, some (s.ms + s.cfg.opt.claimWindow), none, none⟩ : Slot) = v
  have hslots : (s.setScu (s.scu.moveSlot k v)).SameSlots (s.enterClaiming k x) := by
    rw [State.enterClaiming, hv]
    exact (State.requestFrame_sameSlots (.claim x) _).trans (State.sameSlots_of_scu (by simp))
  refine ⟨?_, ?_, ?_⟩
  · rw [hslots.slot, State.setScu_scu, Scu.slot_moveSlot, ← hv]
    simp only [SlotState.ordered, decide_true, Bool.true_or, if_true]
    split <;> rfl
  · rw [hslots.slot, State.setScu_scu, Scu.other_moveSlot_of_free hf]
  · rw [State.enterClaiming, hv, State.slotNotice_queue]
    exact mem_joinPos true (State.requestFrame_of_room (s := s.setScu (s.scu.moveSlot k v)) (.claim x) hq).2 (by simp [Waiting.rank]) rfl

/-- The FREE of a slot that does not wait (R130). -/
theorem State.freeSlot_spec {s : State} {k : SlotId} {x : Nat} (frame : Bool) (hx : (s.scu.slot k).scene = some x)
    (hw : (s.scu.slot k).state ≠ .waiting) (hq : s.ni.queue.length < 6) :
    (s.freeSlot frame k).scu.slot k = ⟨none, .free, none, none, none⟩
      ∧ ((s.freeSlot frame k).scu.slot (otherSlot k)).state = (s.scu.slot (otherSlot k)).state
      ∧ ((s.freeSlot frame k).scu.slot (otherSlot k)).scene = (s.scu.slot (otherSlot k)).scene
      ∧ (frame = true → .free x ∈ (s.freeSlot frame k).ni.queue)
      ∧ (frame = false → (s.freeSlot frame k).ni.queue = joinPos true s.ni.queue)
      ∧ (s.freeSlot frame k).ptb = s.ptb := by
  generalize hv : s.setScu (s.scu.moveSlot k Slot.free) = v
  have hslot : v.scu.slot k = ⟨none, .free, none, none, none⟩
      ∧ (v.scu.slot (otherSlot k)).state = (s.scu.slot (otherSlot k)).state
      ∧ (v.scu.slot (otherSlot k)).scene = (s.scu.slot (otherSlot k)).scene := by
    rw [← hv, State.setScu_scu, Scu.slot_moveSlot]
    exact ⟨rfl, s.scu.other_moveSlot k Slot.free⟩
  have hni : v.ni = s.ni ∧ v.ptb = s.ptb := by simp [← hv]
  cases frame
  · have he : s.freeSlot false k = v.slotNotice := by simp [State.freeSlot, hw, hv]
    rw [he]
    refine ⟨by simpa using hslot.1, by simpa using hslot.2.1, by simpa using hslot.2.2, by simp, fun _ => ?_, by simp [hni.2]⟩
    rw [State.slotNotice_queue, hni.1]
  · have he : s.freeSlot true k = (v.requestFrame (.free x)).slotNotice := by simp [State.freeSlot, hw, hv, hx]
    have hs : v.SameSlots (v.requestFrame (.free x)).slotNotice :=
      (v.requestFrame_sameSlots (.free x)).trans (State.sameSlots_of_scu (by simp))
    rw [he, hs.slot, hs.slot]
    refine ⟨hslot.1, hslot.2.1, hslot.2.2, fun _ => ?_, by simp, by simp [hni.2]⟩
    rw [State.slotNotice_queue]
    exact mem_joinPos true (State.requestFrame_of_room (s := v) (.free x) (hni.1 ▸ hq)).2 (by simp [Waiting.rank]) rfl

/-- The FREE action on the slot that has the scene (R130). -/
theorem State.freeAction_eq {s : State} {k : SlotId} {x : Nat} (hs : s.scu.slot1.scene = s.scu.slot2.scene → s.scu.slot1.scene = none)
    (hx : (s.scu.slot k).scene = some x) :
    s.freeAction x = s.freeSlot (decide ((s.scu.slot k).state = .held)) k := by
  cases k
  · exact if_pos hx
  · have h1 : s.scu.slot1.scene ≠ some x := fun e => by
      have h0 := hs (e.trans hx.symm)
      simp [h0] at e
    exact (if_neg h1).trans (if_pos hx)

/-- A chain start abandons the running chain and makes the word pending at the chain's distance (R133), here an
AT-DISTANCE word that is not met. -/
theorem State.startChain_atDistance {s : State} {i a : Nat} (ht : (s.cfg.word i).trigger = .atDistance a)
    (hd : s.rsq.distance / 1000 < a) : (s.startChain i).scu = { (s.abandonChain .abandoned).scu with
      chain := ⟨true, some i, .trigger, s.rsq.distance, none, none, .none, (s.abandonChain .abandoned).scu.chain.lastEnd⟩ } := by
  generalize hp : State.becomePending i ((s.abandonChain .abandoned).setChain { (s.abandonChain .abandoned).scu.chain with
    running := true, distance := (s.abandonChain .abandoned).rsq.distance, watched := none, outcome := .none }) = p
  have hscu : p.scu = { (s.abandonChain .abandoned).scu with
      chain := ⟨true, some i, .trigger, s.rsq.distance, none, none, .none, (s.abandonChain .abandoned).scu.chain.lastEnd⟩ } := by
    simp [← hp, State.becomePending, State.setChain, ht]
  have hcfg : p.cfg = s.cfg := by simp [← hp]
  have hnot : p.triggerMet (p.cfg.word i) = false := by simp [State.triggerMet, hcfg, ht, hscu, hd]
  have hrun : p.runChain 129 false = p := by
    have hb : p.chainBroken (p.cfg.word i) = false := by simp [State.chainBroken, hcfg, ht]
    rw [State.runChain]
    simp only [hscu, hb, hnot]
    rfl
  have htest : s.startChain i = p := by
    rw [State.startChain, hp, State.testChain, hrun, ite_self]
  rw [htest, hscu]

theorem State.abandonChain_scu (s : State) : (s.abandonChain .abandoned).scu.tracker = s.scu.tracker
    ∧ (s.abandonChain .abandoned).scu.chain.lastEnd
      = (if s.scu.chain.running = true then .abandoned else s.scu.chain.lastEnd)
    ∧ (s.scu.chain.running = false → (s.abandonChain .abandoned).scu.counters = s.scu.counters)
    ∧ (∀ p, s.scu.chain.running = true → s.scu.chain.pending = some p → s.cfg.nextWord p = none →
        (s.abandonChain .abandoned).scu.counters
          = { s.scu.counters with abandoned := min 65535 (s.scu.counters.abandoned + 1) }) := by
  cases hr : s.scu.chain.running
  · simp [State.abandonChain, hr]
  · refine ⟨by simp [State.abandonChain, hr], by simp [State.abandonChain, hr, Chain.finish], by simp, fun p _ hp hn => ?_⟩
    simp [State.abandonChain, hr, State.wordsLeft, hp, Configuration.chainLength, hn, Counters.abandon]

end Sys2Proof.Machine

namespace Sys2Proof.Machine

/-! ### The entries that a FIX can name -/

theorem State.receive_fix_ignored {s : State} (dt : Nat) (h : Header) {e d : Nat}
    (hr : s.Receives ⟨h.src, h.sig, .fix s.cfg.opt.station e d⟩)
    (hn : s.rsq.known = true ∨ s.cfg.route.length ≤ e ∨ s.cfg.skips e = true ∨ (s.cfg.entry e).length < d) :
    (s.elapse dt).receive ⟨h.src, h.sig, .fix s.cfg.opt.station e d⟩ = { s.heard dt h.src with choices := s.choices + 1 } := by
  have refused (u : State) (hu : s.Meets dt u) : u.relocate e d = u := by
    refine State.relocate_of_not_accepted fun hacc => ?_
    simp only [State.fixAccepted, hu.rsq, hu.cfg, Bool.and_eq_true, Bool.not_eq_true', decide_eq_true_eq] at hacc
    obtain ⟨⟨⟨⟨-, hk⟩, he⟩, hs⟩, hd⟩ := hacc
    rcases hn with hn | hn | hn | hn
    · simp [hk] at hn
    · omega
    · simp [hs] at hn
    · omega
  refine State.receive_beside (P := (· = { s.heard dt h.src with choices := s.choices + 1 })) _ hr
    (State.deliver_fix dt h.src e d) ?_ ?_
  · rw [refused _ (s.meets_heardFirst dt h.src)]
    exact State.afterSlots_of_same _ s.scu rfl rfl
  · have hl : State.hear h.src (s.heardLast dt) = _ := hr.hear_last (u := s.heardLast dt) hr.1 rfl
    rw [refused _ (s.meets_heardLast dt), hl]
    exact State.afterSlots_of_same _ s.scu rfl rfl

/-- With no scene action the entering leaves the peer table, and of the SCU the chain start alone changes. -/
theorem State.Meets.enterEntry_noScene {s u : State} {dt e d : Nat} (h : s.Meets dt u) (hs : (s.cfg.entry e).scene = none) :
    u.fixed.enterEntry e d = (u.fixed.offered e d).entryRest := by
  obtain ⟨-, -, -, -, -, -, hcfg, -⟩ := u.fixed_frame
  obtain ⟨-, -, -, -, -, -, -, hentry⟩ := u.fixed.offered_frame e d
  have hn : (u.fixed.offered e d).entry.scene = none := by rw [hentry, hcfg, h.cfg, hs]
  rw [State.enterEntry_offered, State.sceneAction, hn]

theorem State.offered_ptb (u : State) (e d : Nat) : (u.fixed.offered e d).ptb = u.ptb :=
  (u.fixed.offered_frame e d).2.2.1.trans u.fixed_frame.1

/-- The sound action of the entry (R14). -/
theorem State.Meets.offered_spe {s u : State} {dt e d : Nat} (h : s.Meets dt u) :
    (∀ clip v gain loops fade mask, (s.cfg.entry e).sound = some (.play clip v gain loops fade mask) →
      ∃ reading, (u.fixed.offered e d).spe = s.spe.play s.cfg reading v ⟨clip, none, gain, loops, fade, mask, .route⟩)
    ∧ (∀ v, (s.cfg.entry e).sound = some (.stop v) → (u.fixed.offered e d).spe = s.spe.stopVoice s.cfg v)
    ∧ (∀ v, (s.cfg.entry e).sound = some (.flush v) → (u.fixed.offered e d).spe = s.spe.flushVoice v) := by
  obtain ⟨-, -, -, -, fspe, -, fcfg, -⟩ := u.fixed_frame
  obtain ⟨-, -, -, espe, -, -, ecfg, -⟩ := u.fixed.entering_frame e d
  have hentry : (u.fixed.entering e d).entry = s.cfg.entry e := by
    rw [State.entry, State.entering_rsq, ecfg, fcfg, h.cfg]
  have hspe : (u.fixed.entering e d).spe = s.spe := espe.trans (fspe.trans h.spe)
  have hcfg : (u.fixed.entering e d).cfg = s.cfg := ecfg.trans (fcfg.trans h.cfg)
  refine ⟨fun clip v gain loops fade mask hs => ⟨(u.fixed.entering e d).showTime, ?_⟩, fun v hs => ?_, fun v hs => ?_⟩
  all_goals
    rw [State.offered, State.soundAction, hentry, hs]
    simp [State.play, hspe, hcfg]

/-- Where the scene action leaves the peer table alone, so does the entering. -/
theorem State.fixed_enterEntry_ptb {u : State} {e d : Nat}
    (h : (u.fixed.offered e d).sceneAction.ptb = (u.fixed.offered e d).ptb) : (u.fixed.enterEntry e d).ptb = u.ptb := by
  obtain ⟨-, -, -, hptb, -⟩ := State.entryRest_frame (u.fixed.offered e d).sceneAction
  rw [State.enterEntry_offered, hptb, h, State.offered_ptb]

/-- An entry with no scene action: sound and chain start are handed out in the offered state. -/
theorem exec_fixFrame_noScene {s : State} {hd : Header} {e d : Nat} (h : s.TakesFix hd e d) (dt : Nat)
    (hs : (s.cfg.entry e).scene = none) :
    ∃ u t, s.Meets dt u ∧ exec (.fixFrame dt hd s.cfg.opt.station e d) s = .next t
      ∧ t.spe = (u.fixed.offered e (d * 1000)).spe ∧ t.scu = (u.fixed.offered e (d * 1000)).chainAction.scu
      ∧ t.rsq.chainStart = (u.fixed.offered e (d * 1000)).chainAction.rsq.chainStart := by
  obtain ⟨u, t, hu, hexec, hh⟩ := exec_fixFrame_hands h dt fun u hu => by
    obtain ⟨-, -, -, hptb, -⟩ := State.entryRest_frame (u.fixed.offered e (d * 1000))
    rw [hu.enterEntry_noScene hs, hptb, State.offered_ptb]
  rw [hu.enterEntry_noScene hs] at hh
  exact ⟨u, t, hu, hexec, hh.spe.trans (State.entryRest_frame _).2.2.2.2.1, hh.scu.trans (State.entryRest_scu _).1,
    hh.chainStart.trans (State.entryRest_chainStart _)⟩

/-- An entry whose scene action leaves the peer table alone. -/
theorem exec_fixFrame_scene {s : State} {hd : Header} {e d : Nat} (h : s.TakesFix hd e d) (dt : Nat)
    {f : State → State} (hf : ∀ o, State.Offers dt e d s o → o.sceneAction = f o ∧ (f o).ptb = o.ptb) :
    ∃ o t, State.Offers dt e d s o ∧ exec (.fixFrame dt hd s.cfg.opt.station e d) s = .next t
      ∧ (f o).SameSlots t ∧ t.stc = (f o).stc ∧ t.ni = (f o).entryRest.ni := by
  have acts (u : State) (hu : s.Meets dt u) := hf _ (hu.offers h.1.1 e d)
  obtain ⟨u, t, hu, hexec, hh⟩ := exec_fixFrame_hands h dt fun u hu =>
    State.fixed_enterEntry_ptb ((acts u hu).1.symm ▸ (acts u hu).2)
  rw [State.enterEntry_offered, (acts u hu).1] at hh
  exact ⟨_, t, hu.offers h.1.1 e d, hexec, (State.entryRest_slots _).trans (State.sameSlots_of_scu hh.scu),
    hh.stc.trans (State.entryRest_frame _).2.2.1, hh.ni⟩

/-- Records alike block the same scenes. -/
theorem State.Offers.blocks {s o : State} {dt e d x : Nat} (h : State.Offers dt e d s o)
    (hb : ∀ p ∈ s.ptb, ¬ p.Blocks s.cfg.opt.station x) : ∀ p ∈ o.ptb, ¬ p.Blocks o.cfg.opt.station x := by
  obtain ⟨f, hf, hp⟩ := h.peers
  rw [hp, h.cfg]
  intro p hmem
  obtain ⟨q, hq, rfl⟩ := List.mem_map.mp hmem
  rw [(hf q).blocks]
  exact hb q hq

theorem State.sceneAction_of_claim {s : State} {x : Nat} (h : s.entry.scene = some (.claim x)) :
    s.sceneAction = s.claimAction x := by
  rw [State.sceneAction, h]

theorem State.sceneAction_of_free {s : State} {x : Nat} (h : s.entry.scene = some (.free x)) :
    s.sceneAction = s.freeAction x := by
  rw [State.sceneAction, h]

end Sys2Proof.Machine

namespace Sys2Proof.Machine

/-! ### The claim of an accepted FIX that waits -/

theorem Peer.setPin_kept (f : Pin) (b : Bool) (p : Peer) :
    (p.setPin f b).station = p.station ∧ (p.setPin f b).foreign = p.foreign := by
  cases f with
  | ahead => exact ⟨rfl, rfl⟩
  | slot k => cases k <;> exact ⟨rfl, rfl⟩

/-- The refreshing of a record and the setting of a pin are independent. -/
theorem refreshed_map_setPin (src ms y : Nat) (f : Pin) (t : List Peer) :
    refreshed src ms (t.map fun q => q.setPin f (decide (q.station = y)))
      = (refreshed src ms t).map fun q => q.setPin f (decide (q.station = y)) := by
  simp only [refreshed, List.map_map]
  refine List.map_congr_left fun p _ => ?_
  simp only [Function.comp_apply, (p.setPin_kept f _).1]
  by_cases h : p.station = src
  · cases f with
    | ahead => simp [h, Peer.setPin]
    | slot k => cases k <;> simp [h, Peer.setPin]
  · simp [h]

/-- The hearing after a block that set a pin refreshes the sender's record and does nothing else (R50). -/
theorem State.Receives.hear_pinned {s u : State} {f : Frame} {k : Pin} {y : Nat} (hr : s.Receives f)
    (ha : u.active = true) (hp : u.ptb = s.ptb.map fun q => q.setPin k (decide (q.station = y))) :
    u.hear f.src = { u with
      ptb := (refreshed f.src u.ms s.ptb).map fun q => q.setPin k (decide (q.station = y)) } := by
  obtain ⟨-, -, -, ⟨p, hmem, hst⟩, hf, -⟩ := hr
  rw [State.hear_of_known u f.src ha, hp, refreshed_map_setPin]
  · rw [hp]
    exact ⟨_, List.mem_map_of_mem hmem, (p.setPin_kept _ _).1.trans hst⟩
  · rw [hp]
    intro r hmr hsr
    obtain ⟨q, hq, rfl⟩ := List.mem_map.mp hmr
    rw [(q.setPin_kept _ _).1] at hsr
    rw [(q.setPin_kept _ _).2]
    exact hf q hq hsr

/-- The station that the claim check gives is the lowest with a blocking record (R125). -/
theorem State.blocker_of_claimCheck {s : State} {x n : Nat} (h : s.claimCheck none x = some n) :
    ∃ p ∈ s.ptb, p.Blocks s.cfg.opt.station x ∧ p.station = n
      ∧ ∀ q ∈ s.ptb, q.Blocks s.cfg.opt.station x → p.station ≤ q.station := by
  rw [State.claimCheck, List.min?_eq_some_iff] at h
  obtain ⟨hmem, hmin⟩ := h
  obtain ⟨p, hp, hb, rfl⟩ := State.mem_claimCheck.mp hmem
  exact ⟨p, hp, hb, rfl, fun q hq hqb => hmin q.station (State.mem_claimCheck.mpr ⟨q, hq, hqb, rfl⟩)⟩

theorem State.noBlocker_of_claimCheck {s : State} {x : Nat} (h : s.claimCheck none x = none) :
    ∀ p ∈ s.ptb, ¬ p.Blocks s.cfg.opt.station x := by
  intro p hp hb
  rw [State.claimCheck, List.min?_eq_none_iff, List.eq_nil_iff_forall_not_mem] at h
  exact h p.station (State.mem_claimCheck.mpr ⟨p, hp, hb, rfl⟩)

/-- A slot that waits after a claim, the other one, and the pinned record. -/
structure State.Waits (k : SlotId) (x y : Nat) (other : Slot) (table : List Peer) (t : State) : Prop where
  slot : t.scu.slot k = ⟨some x, .waiting, none, some y, none⟩
  other : t.scu.slot (otherSlot k) = other
  table : t.ptb = table.map fun q => q.setPin (.slot k) (decide (q.station = y))

/-- The entering of an entry that claims a blocked scene (R125, R57). -/
theorem State.Meets.enterEntry_waits {s u : State} {dt e d x : Nat} {k : SlotId} {p : Peer} (h : s.Meets dt u)
    (ha : s.active = true) (hscene : (s.cfg.entry e).scene = some (.claim x))
    (h1 : s.scu.slot1.scene ≠ some x) (h2 : s.scu.slot2.scene ≠ some x)
    (hk : k = .one ∧ s.scu.slot1.state = .free ∨ k = .two ∧ s.scu.slot1.state ≠ .free ∧ s.scu.slot2.state = .free)
    (hpin : ∀ p ∈ s.ptb, p.carries (.slot k) = false) (hp : p ∈ s.ptb) (hb : p.Blocks s.cfg.opt.station x)
    (hmin : ∀ q ∈ s.ptb, q.Blocks s.cfg.opt.station x → p.station ≤ q.station) :
    (u.fixed.enterEntry e (d * 1000)).Waits k x p.station (s.scu.slot (otherSlot k)) u.ptb := by
  have ho := h.offers ha e d
  have hptb := u.offered_ptb e (d * 1000)
  rw [State.enterEntry_offered]
  generalize u.fixed.offered e (d * 1000) = o at ho hptb ⊢
  have hfree : (s.scu.slot k).state = .free := by
    rcases hk with ⟨rfl, hf⟩ | ⟨rfl, -, hf⟩ <;> exact hf
  obtain ⟨f, hf, hpeers⟩ := ho.peers
  have hst (q : Peer) : (f q).station = q.station := (hf q).1
  have hwait : o.sceneAction = o.enterWaiting k x p.station := by
    rw [State.sceneAction_of_claim (ho.entry ▸ hscene), ← hst p]
    refine State.claimAction_waits (by rwa [ho.scu]) (by rwa [ho.scu]) (by rwa [ho.scu]) (hpeers ▸ List.mem_map_of_mem hp) ?_ ?_
    · rw [ho.cfg]
      exact ((hf p).blocks ..).mpr hb
    · rw [ho.cfg, hpeers]
      intro r hr hrb
      obtain ⟨q, hq, rfl⟩ := List.mem_map.mp hr
      rw [hst, hst]
      exact hmin q hq (((hf q).blocks ..).mp hrb)
  have hpinned : ∀ r ∈ o.ptb, r.carries (.slot k) = false := by
    rw [hpeers]
    intro r hr
    obtain ⟨q, hq, rfl⟩ := List.mem_map.mp hr
    exact ((hf q).2.2 _).trans (hpin q hq)
  have hw := State.enterWaiting_of_peer (k := k) x (hpeers ▸ List.mem_map_of_mem hp : f p ∈ o.ptb) hpinned
  rw [hst p, ← hwait] at hw
  have hscu : o.sceneAction.scu = s.scu.moveSlot k ⟨some x, .waiting, none, some p.station, none⟩ := by
    rw [hw]
    simp [ho.scu]
  refine ⟨?_, ?_, ?_⟩
  · rw [o.sceneAction.entryRest_slots.slot, hscu, Scu.slot_moveSlot]
    rfl
  · rw [o.sceneAction.entryRest_slots.slot, hscu, Scu.other_moveSlot_of_free hfree]
  · rw [(State.entryRest_frame _).2.2.2.1, hw, ← hptb]
    rfl

theorem State.Waits.pinnedTable {k : SlotId} {x y : Nat} {o : Slot} {table : List Peer} {t : State}
    (h : t.Waits k x y o table) (peers : List Peer) :
    (t.setPtb (peers.map fun q => q.setPin (.slot k) (decide (q.station = y)))).Waits k x y o peers :=
  ⟨h.slot, h.other, rfl⟩

/-- What waits after the entering waits when the RSQ has acted on the slots. -/
theorem State.Waits.afterSlots {k : SlotId} {x y : Nat} {o : Slot} {table : List Peer} {t : State}
    (h : t.Waits k x y o table) (he : t.rsq.atEnd = false) (u : Scu) : (t.afterSlots u).Waits k x y o table := by
  obtain ⟨hscu, hptb, -⟩ := State.afterSlots_kept he u
  exact ⟨by rw [hscu]; exact h.slot, by rw [hscu]; exact h.other, hptb.trans h.table⟩

/-- A FIX to an entry that claims a blocked scene, whatever the order of the hearing (R33). -/
theorem exec_fixFrame_waits {s : State} {hd : Header} {e d x : Nat} {k : SlotId} {p : Peer} (h : s.TakesFix hd e d)
    (dt : Nat) (hscene : (s.cfg.entry e).scene = some (.claim x))
    (h1 : s.scu.slot1.scene ≠ some x) (h2 : s.scu.slot2.scene ≠ some x)
    (hk : k = .one ∧ s.scu.slot1.state = .free ∨ k = .two ∧ s.scu.slot1.state ≠ .free ∧ s.scu.slot2.state = .free)
    (hpin : ∀ p ∈ s.ptb, p.carries (.slot k) = false) (hp : p ∈ s.ptb) (hb : p.Blocks s.cfg.opt.station x)
    (hmin : ∀ q ∈ s.ptb, q.Blocks s.cfg.opt.station x → p.station ≤ q.station) :
    ∃ t, exec (.fixFrame dt hd s.cfg.opt.station e d) s = .next t
      ∧ t.Waits k x p.station (s.scu.slot (otherSlot k)) (refreshed hd.src ((s.now + dt) / 1000) s.ptb) := by
  have waits (u : State) (hu : s.Meets dt u) := hu.enterEntry_waits (d := d) h.1.1 hscene h1 h2 hk hpin hp hb hmin
  have hu := s.meets_heardLast dt
  refine exec_fixFrame h ?_ ?_
  · exact (waits _ (s.meets_heardFirst dt hd.src)).afterSlots (State.enterEntry_atEnd ..) _
  · have hw := waits _ hu
    have hact : ((s.heardLast dt).fixed.enterEntry e (d * 1000)).active = true :=
      State.enterEntry_active _ _ _ (State.fixed_active (hu.active.trans h.1.1))
    have hend := State.enterEntry_atEnd e (d * 1000) (s.heardLast dt).fixed
    have hms : ((s.heardLast dt).fixed.enterEntry e (d * 1000)).ms = (s.now + dt) / 1000 := by
      simp only [State.ms, State.enterEntry_frame, (s.heardLast dt).fixed_frame.2.2.2.2.2.2.2.2, hu.now]
    generalize (s.heardLast dt).fixed.enterEntry e (d * 1000) = v at hw hact hend hms
    have hhear : v.hear hd.src = _ := h.1.hear_pinned (u := v) hact hw.table
    rw [hhear, hms]
    exact (hw.pinnedTable _).afterSlots hend _

end Sys2Proof.Machine

open Sys2Proof.Machine in
/-- Settles O26: the FIX is an entering beside the hearing, and each action of the entry is read off the state in
which the entering hands it out. -/
theorem fixRelocatesALostVehicle : Obligations.FixRelocatesALostVehicle := by
  unfold Obligations.FixRelocatesALostVehicle
  refine ⟨fun dt h e d s hfix => ?relocated, fun dt h e d s hr hn => ?ignored, fun dt h e d s hfix => ?sounds,
    fun dt h e d x k s hfix hslots hscene h1 h2 hk hq hpin => ?claim, fun dt h e d x s hfix hst hscene => ?noSlot,
    fun dt h e d x k s hfix hslots hscene hx hstate hq => ?free⟩
  case relocated =>
    obtain ⟨t, hexec, ht, hcfg, hcfs, hnow⟩ := exec_fixFrame_relocated hfix dt
    obtain ⟨heff, -, hch, hga, hlo⟩ := ht.settings hcfg
    exact ⟨t, hexec, ht.known, ht.index, ht.distance, ht.lastMarker, heff, ht.atEnd, hch, hga, hlo, ht.withdrawn,
      ht.moved, ht.braked, hcfg, hcfs, hnow⟩
  case ignored => exact congrArg Host.Outcome.next (State.receive_fix_ignored dt h hr hn)
  case sounds =>
    by_cases hscene : (s.cfg.entry e).scene = none
    case neg =>
      obtain ⟨t, hexec, -⟩ := exec_fixFrame_relocated hfix dt
      exact ⟨t, hexec, fun h => absurd h hscene, fun h => absurd h hscene, fun h => absurd h hscene, fun h => absurd h hscene⟩
    obtain ⟨u, t, hu, hexec, hspe, hscu, hstart⟩ := exec_fixFrame_noScene hfix dt hscene
    obtain ⟨hplay, hstop, hflush⟩ := hu.offered_spe (e := e) (d := d * 1000)
    refine ⟨t, hexec, fun _ clip v gain loops fade mask hs h1 h3 => ?play, fun _ v hs h1 h3 => ?stop,
      fun _ v hs h1 h3 => ?flush, fun _ i a hchain htrig hlt => ?chain⟩
    case play =>
      obtain ⟨reading, hr⟩ := hplay clip v gain loops fade mask hs
      rw [hspe, hr]
      exact Spe.play_spec s.cfg reading s.spe h1 h3 rfl (by simp)
    case stop =>
      rw [hspe, hstop v hs]
      exact ⟨Spe.stopVoice_stopped _ _ (by omega),
        fun i hi hne => Voice.kept_of_show (Spe.show_stopVoice_other _ _ (by omega) hi hne)⟩
    case flush => rw [hspe, hflush v hs, Spe.flushVoice]
    case chain =>
      have ho := hu.offers hfix.1.1 e d
      have hact : (u.fixed.offered e (d * 1000)).entry.chain = some i := by rw [ho.entry, hchain]
      have hs := State.startChain_atDistance (s := u.fixed.offered e (d * 1000)) (i := i) (a := a)
        (by rw [ho.cfg, htrig]) (by rw [ho.distance]; omega)
      obtain ⟨htr, hend, hcnt, hcnt'⟩ := (u.fixed.offered e (d * 1000)).abandonChain_scu
      simp only [State.chainAction, hact, State.setRsq_scu] at hscu hstart
      rw [hscu, hs, hstart]
      rw [ho.scu] at htr hend hcnt hcnt'
      rw [ho.cfg] at hcnt'
      refine ⟨?_, rfl, htr, hcnt, hcnt'⟩
      rw [ho.distance, hend]
  case claim =>
    cases hc : s.claimCheck none x with
    | none =>
      have hb := State.noBlocker_of_claimCheck hc
      have hfree : (s.scu.slot k).state = .free := by
        rcases hk with ⟨rfl, hf⟩ | ⟨rfl, -, hf⟩ <;> exact hf
      obtain ⟨o, t, ho, hexec, hsl, -, hni⟩ := exec_fixFrame_scene hfix dt (f := State.enterClaiming k x) fun o ho =>
        ⟨(State.sceneAction_of_claim (ho.entry ▸ hscene)).trans
          (State.claimAction_claims (by rwa [ho.scu]) (by rwa [ho.scu]) (by rwa [ho.scu]) (ho.blocks hb)), by simp⟩
      obtain ⟨hslot, hother, hmem⟩ := State.enterClaiming_spec (s := o) (k := k) (x := x) (by rwa [ho.scu]) (ho.room hq).length
      refine ⟨t, hexec, fun _ => ?_, fun p hp hblocks => absurd hblocks (hb p hp), by rw [hsl.slot, hother, ho.scu]⟩
      rw [hsl.slot, hslot, State.ms, ho.now, ho.cfg, ho.scu, hni]
      exact ⟨rfl, rfl, rfl, rfl, rfl, State.entryRest_queue (Q := (.claim x ∈ ·))
        (fun b r q hm => mem_joinQueue hm (by simp [Waiting.rank]) (by simp [Waiting.rank])) hmem⟩
    | some n =>
      obtain ⟨p, hp, hb, rfl, hmin⟩ := State.blocker_of_claimCheck hc
      obtain ⟨t, hexec, ht⟩ := exec_fixFrame_waits hfix dt hscene h1 h2 hk hpin hp hb hmin
      refine ⟨t, hexec, fun hn => absurd hb (hn p hp), fun q hq' hqb hqmin => ?_, ht.other⟩
      rw [Nat.le_antisymm (hqmin p hp hb) (hmin q hq' hqb)]
      exact ⟨ht.slot, ht.table⟩
  case noSlot =>
    by_cases had : s.scu.slot1.scene = some x ∨ s.scu.slot2.scene = some x
    case pos =>
      obtain ⟨o, t, ho, hexec, hsl, -⟩ := exec_fixFrame_scene hfix dt (f := id) fun o ho =>
        ⟨(State.sceneAction_of_claim (ho.entry ▸ hscene)).trans (if_pos (ho.scu ▸ had)), rfl⟩
      have hs : s.SameSlots t := (State.sameSlots_of_scu ho.scu).trans hsl
      exact ⟨t, hexec, fun _ => hs, fun h1 h2 => absurd had (by simp [h1, h2])⟩
    by_cases full : s.scu.slot1.state ≠ .free ∧ s.scu.slot2.state ≠ .free
    case pos =>
      obtain ⟨o, t, ho, hexec, hsl, hstc, -⟩ := exec_fixFrame_scene hfix dt (f := State.raise .sceneOverflow) fun o ho =>
        ⟨(State.sceneAction_of_claim (ho.entry ▸ hscene)).trans
          ((if_neg (ho.scu ▸ had)).trans (if_pos (ho.scu ▸ full))), by simp⟩
      have hs : s.SameSlots t := ((State.sameSlots_of_scu ho.scu).trans (o.raise_sameSlots _)).trans hsl
      have hl : (o.raise .sceneOverflow).stc.latch = max s.stc.latch 1 := by
        rw [(ho.latched hst.latched).raise_latch ho.active, ho.latch]
        rfl
      exact ⟨t, hexec, fun h => absurd h had, fun _ _ _ _ => ⟨hs.1, hs.2,
        hstc ▸ State.mem_raise.mpr (.inr ⟨rfl, ho.active⟩), hstc ▸ hl⟩⟩
    case neg =>
      obtain ⟨t, hexec, -⟩ := exec_fixFrame_relocated hfix dt
      exact ⟨t, hexec, fun h => absurd h had, fun _ _ h1 h2 => absurd ⟨h1, h2⟩ full⟩
  case free =>
    obtain ⟨-, -, hdiff⟩ := hslots
    have hw : (s.scu.slot k).state ≠ .waiting := by
      rcases hstate with h | h <;> simp [h]
    have hspec (o : State) (ho : State.Offers dt e d s o) :=
      State.freeSlot_spec (s := o) (k := k) (x := x) (decide ((s.scu.slot k).state = .held)) (by rw [ho.scu, hx])
        (by rwa [ho.scu]) (ho.room hq).length
    obtain ⟨o, t, ho, hexec, hsl, -, hni⟩ := exec_fixFrame_scene hfix dt
      (f := State.freeSlot (decide ((s.scu.slot k).state = .held)) k) fun o ho =>
        ⟨(State.sceneAction_of_free (ho.entry ▸ hscene)).trans
          (by rw [State.freeAction_eq (k := k) (by rwa [ho.scu]) (by rwa [ho.scu]), ho.scu]), (hspec o ho).2.2.2.2.2⟩
    obtain ⟨hslot, hostate, hoscene, hheld, hclaiming, -⟩ := hspec o ho
    rw [ho.scu] at hostate hoscene
    refine ⟨t, hexec, (hsl.slot k).trans hslot, fun hh => ?_, fun hc hchain hempty => ?_, ?_, ?_⟩
    · rw [hni]
      exact State.entryRest_queue (Q := (.free x ∈ ·)) (fun b r q hm => mem_joinQueue hm (by simp [Waiting.rank]) (by simp [Waiting.rank]))
        (hheld (by simp [hh]))
    · have hentry : (State.freeSlot (decide ((s.scu.slot k).state = .held)) k o).entry.chain = none := by
        simp only [State.entry, State.freeSlot_frame]
        rw [← State.entry, ho.entry, hchain]
      have hq := hclaiming (by simp [hc])
      rw [ho.posAlone hempty] at hq
      rw [hni, (State.entryRest_scu _).2, State.chainAction, hentry]
      exact hq
    · rw [hsl.slot, hostate]
    · rw [hsl.slot, hoscene]

namespace Sys2Proof.Machine

/-! ### Numbers and fields of the image (R193) -/

/-- A list of fields within their widths in bytes. -/
def FieldsWithin (fields widths : List Nat) : Prop := List.Forall₂ (fun v w => v < 256 ^ w) fields widths

theorem Cursor.numberFrom_lt (w acc : Nat) (c : Cursor) : (c.numberFrom w acc).1 < (acc + 1) * 256 ^ w := by
  induction w generalizing acc c with
  | zero => simp [Cursor.numberFrom]
  | succ w ih =>
    have hb : c.byte.toNat < 256 := c.byte.isLt
    calc (c.next.numberFrom w (acc * 256 + c.byte.toNat)).1
        < (acc * 256 + c.byte.toNat + 1) * 256 ^ w := ih ..
      _ ≤ (acc + 1) * 256 * 256 ^ w := Nat.mul_le_mul_right _ (by omega)
      _ = (acc + 1) * 256 ^ (w + 1) := by rw [Nat.pow_succ, Nat.mul_assoc, Nat.mul_comm 256]

theorem Cursor.fields_within (widths : List Nat) (c : Cursor) : FieldsWithin (c.fields widths).1 widths := by
  induction widths generalizing c with
  | nil => exact .nil
  | cons w ws ih => exact .cons (by simpa [Cursor.number] using c.numberFrom_lt w 0) (ih _)

/-! ### The option block (Table 11-2) -/

/-- A value in the range of a parameter. -/
def Param.Holds (p : Param) (v : Nat) : Prop := p.lo ≤ v ∧ v ≤ p.hi

theorem Param.holds_of_accept {p : Param} {v w : Nat} (h : p.accept v = some w) : p.Holds w := by
  simp only [Param.accept] at h
  split at h
  · next hv => exact Option.some.inj h ▸ hv
  · simp at h

/-- A parameter that is read lies in its range, where its default does. -/
theorem Param.holds_of_read {p : Param} {fields : List Nat} {v : Nat} (hd : ∀ d, p.default = some d → p.Holds d)
    (h : p.read fields = some v) : p.Holds v := by
  simp only [Param.read] at h
  split at h
  · next d presence value hdef =>
    split at h
    · exact Option.some.inj h ▸ hd d hdef
    · split at h
      · exact Param.holds_of_accept h
      · simp at h
  · exact Param.holds_of_accept h
  · simp at h

theorem readParams_holds {ps : List Param} {c : Cursor} {vs : List Nat}
    (hd : ∀ p ∈ ps, ∀ d, p.default = some d → p.Holds d) (h : (readParams ps c).1 = some vs) :
    List.Forall₂ Param.Holds ps vs := by
  induction ps generalizing c vs with
  | nil =>
    obtain rfl : [] = vs := by simpa [readParams] using h
    exact .nil
  | cons p ps ih =>
    simp only [readParams] at h
    split at h
    · simp at h
    · next v hv =>
      obtain ⟨rest, hr, rfl⟩ : ∃ rest, (readParams ps (c.fields p.widths).2).1 = some rest ∧ v :: rest = vs := by
        simpa using h
      exact .cons (Param.holds_of_read (hd p (by simp)) hv) (ih (fun q hq => hd q (by simp [hq])) hr)

/-- Every default of Table 11-2 lies in its range. -/
theorem params_default_holds : ∀ p ∈ params, ∀ d, p.default = some d → p.Holds d := by
  have h : ∀ p ∈ params, p.lo ≤ p.default.getD p.lo ∧ p.default.getD p.lo ≤ max p.lo p.hi ∧ p.lo ≤ p.hi := by decide
  intro p hp d hd
  obtain ⟨hlo, hhi, hle⟩ := h p hp
  rw [hd, Option.getD_some] at hlo hhi
  exact ⟨hlo, by omega⟩

theorem Param.holds_getD {ps : List Param} {vs : List Nat} (h : List.Forall₂ Param.Holds ps vs) {i : Nat} {p : Param}
    (hp : ps[i]? = some p) : p.Holds (vs.getD i 0) := by
  induction h generalizing i with
  | nil => simp at hp
  | cons hv _ ih =>
    cases i with
    | zero => exact Option.some.inj hp ▸ hv
    | succ i => exact ih hp

/-- An option block that is read lies in the ranges of Table 11-2. -/
theorem optionsSound_of_readParams {c : Cursor} {vs : List Nat} (h : (readParams params c).1 = some vs) :
    OptionsSound (optionsOf vs) := by
  have ranges (i : Nat) {p : Param} (hp : params[i]? = some p) : p.Holds (vs.getD i 0) :=
    Param.holds_getD (readParams_holds params_default_holds h) hp
  exact ⟨ranges 0 rfl, (ranges 1 rfl).2, ranges 2 rfl, ranges 3 rfl, ranges 4 rfl, ranges 5 rfl, ranges 6 rfl, ranges 7 rfl, (ranges 8 rfl).2,
    ranges 9 rfl, ranges 10 rfl, ranges 11 rfl, ranges 12 rfl, ranges 13 rfl, ranges 14 rfl, ranges 15 rfl, ranges 16 rfl, ranges 17 rfl,
    (ranges 18 rfl).2, ranges 19 rfl, ranges 20 rfl, ranges 21 rfl, ranges 22 rfl, ranges 23 rfl, ranges 24 rfl, ranges 25 rfl, (ranges 26 rfl).2,
    ranges 27 rfl, ranges 28 rfl, (ranges 29 rfl).2, ranges 30 rfl, ranges 31 rfl, (ranges 33 rfl).2, (ranges 34 rfl).2, ranges 35 rfl,
    (ranges 36 rfl).2⟩

/-! ### The fields of a record -/

theorem within_iff {lo hi v : Nat} : within lo hi v = true ↔ lo ≤ v ∧ v ≤ hi := by simp [within]

theorem isScene_iff {v : Nat} : isScene v = true ↔ 1 ≤ v ∧ v ≤ 63 := by simp [isScene]

theorem isFixed_iff {v : Nat} : isFixed v = true ↔ 48 ≤ v ∧ v ≤ 63 := by simp [isFixed]

theorem channelOf_le {v c : Nat} (h : channelOf v = some (some c)) : c ≤ 3 := by
  simp only [channelOf] at h
  split at h
  · next hv =>
    obtain rfl : v = c := by simpa using h
    exact hv
  · simp at h

/-- The value of a hold condition that is read (R193). -/
theorem holdOf_range {kind v : Nat} {hold : Hold} (h : holdOf kind v = some hold) :
    (∀ x, hold = .scene x → 1 ≤ x ∧ x ≤ 63) ∧ (∀ t, hold = .dwell t → t = v) := by
  simp only [holdOf] at h
  split at h
  · cases h; simp
  · split at h
    · cases h; simp
    · split at h
      · split at h
        · next hs => cases h; simpa using isScene_iff.mp hs
        · simp at h
      · split at h
        · cases h; simp
        · simp at h

theorem optionalOf_some {presence v x : Nat} {ok : Bool} (h : optionalOf presence v ok = some (some x)) :
    x = v ∧ ok = true := by
  simp only [optionalOf] at h
  split at h
  · simp at h
  · split at h
    · next hp =>
      obtain rfl : v = x := by simpa using h
      exact ⟨rfl, hp.2⟩
    · simp at h

/-- The values of a sound action that is read (R193, R195). -/
theorem soundOf_range {kind clip voice gain loops fade mask : Nat} {a : Option SoundAction}
    (h : soundOf kind clip voice gain loops fade mask = some a) :
    (∀ clip voice gain loops fade mask, a = some (.play clip voice gain loops fade mask) →
        (1 ≤ clip ∧ clip ≤ 192) ∧ (1 ≤ voice ∧ voice ≤ 3) ∧ gain ≤ 256 ∧ loops ≤ 255 ∧ fade ≤ 3)
      ∧ (∀ voice, a = some (.stop voice) ∨ a = some (.flush voice) → 1 ≤ voice ∧ voice ≤ 3) := by
  simp only [soundOf] at h
  split at h
  · cases h; simp
  · split at h
    · split at h
      · split at h
        · next hr =>
          cases h
          simp only [Bool.and_eq_true, within_iff] at hr
          obtain ⟨⟨⟨⟨hclip, hvoice⟩, -, hgain⟩, -, hloops⟩, -, hfade⟩ := hr
          refine ⟨fun _ _ _ _ _ _ e => ?_, by simp⟩
          cases e
          exact ⟨hclip, hvoice, hgain, hloops, hfade⟩
        · simp at h
      · simp at h
    · split at h
      · split at h
        · next hv => cases h; simpa using within_iff.mp hv
        · simp at h
      · split at h
        · split at h
          · next hv => cases h; simpa using within_iff.mp hv
          · simp at h
        · simp at h

/-- The scene of a scene action that is read (R193). -/
theorem sceneActionOf_range {kind scene : Nat} {a : Option SceneAction} (h : sceneActionOf kind scene = some a) :
    ∀ x, a = some (.claim x) ∨ a = some (.free x) → 1 ≤ x ∧ x ≤ 63 := by
  simp only [sceneActionOf] at h
  split at h
  · cases h; simp
  · split at h
    · split at h
      · next hs => cases h; simpa using isScene_iff.mp hs
      · simp at h
    · split at h
      · split at h
        · next hs => cases h; simpa using isScene_iff.mp hs
        · simp at h
      · simp at h

/-- The number of a trigger that is read (R193). -/
theorem triggerOf_value {kind v : Nat} {t : Trigger} (h : triggerOf kind v = some t) :
    (∀ d, t = .atDistance d → d = v) ∧ (∀ d, t = .afterTime d → d = v) := by
  simp only [triggerOf] at h
  split at h
  · cases h; simp
  · split at h
    · cases h; simp
    · split at h
      · cases h; simp
      · simp at h

/-- The values of a sound link that is read (Table 7-3). -/
theorem linkOf_range {presence clip voice gain : Nat} {l : SoundLink}
    (h : linkOf presence clip voice gain = some (some l)) :
    (1 ≤ l.clip ∧ l.clip ≤ 192) ∧ (1 ≤ l.voice ∧ l.voice ≤ 3) ∧ l.gain ≤ 256 := by
  simp only [linkOf] at h
  split at h
  · simp at h
  · split at h
    · next hr =>
      simp only [within_iff] at hr
      obtain ⟨-, hclip, hvoice, -, hgain⟩ := hr
      cases h
      exact ⟨hclip, hvoice, hgain⟩
    · simp at h

/-! ### The records -/

/-- A route entry that is read lies in the ranges of Table 1-1. -/
theorem entrySound_of_entryOf {routeLength : Nat} {f : List Nat} {e : RouteEntry} (hf : FieldsWithin f entryWidths)
    (h : entryOf routeLength f = some e) : EntrySound routeLength e := by
  unfold entryOf at h
  split at h
  · next start length lane cap ff ch gain loss skip hk hv pp pv marker window sup eff sk clip voice sgain loops fade mask
      ak av cp cv =>
    simp only [Option.bind_eq_bind, Option.bind_eq_some_iff] at h
    obtain ⟨channel, hchannel, lossMode, -, hold, hhold, platform, hplatform, suppress, -, sound, hsound, scene, hscene,
      chain, hchain, h⟩ := h
    have hv2 : hv < 65536 := by
      simp only [FieldsWithin, entryWidths, List.forall₂_cons] at hf
      tauto
    obtain ⟨hsc, hdw⟩ := holdOf_range hhold
    obtain ⟨hplay, hstop⟩ := soundOf_range hsound
    split at h
    · next hr =>
      obtain ⟨hstart, hlength, hlane, hcap, hlo, hhi, hgain, hmarker, hwindow⟩ := hr
      cases h
      refine ⟨hstart, within_iff.mp hlength, (within_iff.mp hlane).2, within_iff.mp hcap, ⟨hlo, hhi⟩,
        fun c hc => channelOf_le (hchannel.trans (congrArg some hc)), (within_iff.mp hgain).2, hsc,
        fun t ht => ?_, fun p hp => ?_, (within_iff.mp hmarker).2, (within_iff.mp hwindow).2, hplay, hstop,
        sceneActionOf_range hscene, fun i hi => ?_⟩
      · rw [hdw t ht]; omega
      · obtain ⟨rfl, hfix⟩ := optionalOf_some (hplatform.trans (congrArg some hp))
        exact isFixed_iff.mp hfix
      · obtain ⟨rfl, hin⟩ := optionalOf_some (hchain.trans (congrArg some hi))
        exact (within_iff.mp hin).2
    · simp at h
  · simp at h

/-- A cue word that is read lies in the ranges of Table 7-3. -/
theorem wordOf_range {f : List Nat} {w : CueWord} (hf : FieldsWithin f wordWidths) (h : wordOf f = some w) :
    (1 ≤ w.scene ∧ w.scene ≤ 63) ∧ w.cue ≤ 255
      ∧ (∀ d, w.trigger = .atDistance d → d ≤ 65535) ∧ (∀ t, w.trigger = .afterTime t → t ≤ 65535)
      ∧ ∀ l, w.link = some l → (1 ≤ l.clip ∧ l.clip ≤ 192) ∧ (1 ≤ l.voice ∧ l.voice ≤ 3) ∧ l.gain ≤ 256 := by
  unfold wordOf at h
  split at h
  · next scene cue tk tv ch sup lp clip voice gain =>
    simp only [Option.bind_eq_bind, Option.bind_eq_some_iff] at h
    obtain ⟨trigger, htrigger, chain, -, suppress, -, link, hlink, h⟩ := h
    obtain ⟨hcue, htv⟩ : cue < 256 ∧ tv < 65536 := by
      simp only [FieldsWithin, wordWidths, List.forall₂_cons] at hf
      tauto
    obtain ⟨hat, hafter⟩ := triggerOf_value htrigger
    split at h
    · next hs =>
      cases h
      exact ⟨isScene_iff.mp hs, Nat.le_of_lt_succ hcue, fun d hd => hat d hd ▸ Nat.le_of_lt_succ htv,
        fun t ht => hafter t ht ▸ Nat.le_of_lt_succ htv, fun l hl => linkOf_range (hlink.trans (congrArg some hl))⟩
    · simp at h
  · simp at h

/-- A clip entry that is read lies in the ranges of R162 and R192. -/
theorem clipOf_range {imageLength : Nat} {f : List Nat} {k : Clip} (hf : FieldsWithin f clipWidths)
    (h : clipOf imageLength f = some k) : (1 ≤ k.length ∧ k.length ≤ 16777215) ∧ k.loopStart < k.length
      ∧ k.baseGain ≤ 256 ∧ imageLength ≤ k.address := by
  unfold clipOf at h
  split at h
  · next address length loopStart baseGain =>
    have hl : length < 16777216 := by
      simp only [FieldsWithin, clipWidths, List.forall₂_cons] at hf
      tauto
    split at h
    · next hr =>
      obtain ⟨haddress, hpos, hloop, hgain⟩ := hr
      cases h
      exact ⟨⟨hpos, Nat.le_of_lt_succ hl⟩, hloop, hgain, haddress⟩
    · simp at h
  · simp at h

/-- A fade template that is read lies in the ranges of R169. -/
theorem fadeOf_range {f : List Nat} {t : FadeTemplate} (hf : FieldsWithin f fadeWidths) (h : fadeOf f = some t) :
    t.values.length = 16 ∧ (∀ v ∈ t.values, v ≤ 128) ∧ 10 ≤ t.duration ∧ t.duration ≤ 5000 := by
  have hlen : f.length = 17 := hf.length_eq
  simp only [fadeOf] at h
  split at h
  · next hr =>
    simp only [Bool.and_eq_true, List.all_eq_true, within_iff] at hr
    obtain ⟨hvalues, hduration⟩ := hr
    cases h
    exact ⟨by simp [hlen], fun v hv => (hvalues v hv).2, hduration⟩
  · simp at h

/-- A station that is read into the scene→station map (R192). -/
theorem mapOf_range {f : List Nat} {v : Nat} (h : mapOf f = some v) : v = 0 ∨ (48 ≤ v ∧ v ≤ 63) := by
  unfold mapOf at h
  split at h
  · split at h
    · next hr =>
      cases h
      exact hr.imp_right isFixed_iff.mp
    · simp at h
  · simp at h

end Sys2Proof.Machine

namespace Sys2Proof.Machine

/-! ### The load (R195) -/

theorem Loaded.bind_eq_ok {α β : Type} {x : Loaded α} {f : α → Loaded β} {b : β} :
    (x >>= f) = .ok b ↔ ∃ a, x = .ok a ∧ f a = .ok b := by
  cases x with
  | error e => simp [bind, Except.bind]
  | ok a => simp [bind, Except.bind]

/-- The records of a section: as many as the count, and each one read from fields within their widths. -/
theorem readRecords_ok {α : Type} {sec : Section} {widths : List Nat} {read : List Nat → Option α} {n i : Nat}
    {c : Cursor} {r : List α × Cursor} (h : readRecords sec widths read n i c = .ok r) :
    r.1.length = n ∧ ∀ x ∈ r.1, ∃ f, FieldsWithin f widths ∧ read f = some x := by
  induction n generalizing i c r with
  | zero =>
    cases h
    simp
  | succ n ih =>
    simp only [readRecords] at h
    split at h
    · simp at h
    · next x hx =>
      split at h
      · simp at h
      · next rest hrest =>
        obtain ⟨hlen, hread⟩ := ih hrest
        cases h
        refine ⟨by simp [hlen], fun y hy => ?_⟩
        rcases List.mem_cons.mp hy with rfl | hy
        · exact ⟨_, c.fields_within widths, hx⟩
        · exact hread y hy

theorem readCount_ok {sec : Section} {lo hi : Nat} {c : Cursor} {n : Nat × Cursor} (h : readCount sec lo hi c = .ok n) :
    lo ≤ n.1 ∧ n.1 ≤ hi := by
  simp only [readCount] at h
  split at h
  · next hn =>
    cases h
    exact within_iff.mp hn
  · simp at h

theorem require_ok {code : FaultCode} {item : FaultItem} {ok : Bool} {u : Unit} (h : require code item ok = .ok u) :
    ok = true := by
  simp only [require] at h
  split at h
  · assumption
  · simp at h

theorem firstFailing_eq_none {α : Type} {ok : α → Bool} {i : Nat} {xs : List α} (h : firstFailing ok i xs = none) :
    ∀ x ∈ xs, ok x = true := by
  induction xs generalizing i with
  | nil => simp
  | cons x xs ih =>
    simp only [firstFailing] at h
    split at h
    · next hx => exact List.forall_mem_cons.mpr ⟨hx, ih h⟩
    · simp at h

theorem requireAll_ok {α : Type} {code : FaultCode} {sec : Section} {ok : α → Bool} {xs : List α} {u : Unit}
    (h : requireAll code sec ok xs = .ok u) : ∀ x ∈ xs, ok x = true := by
  simp only [requireAll] at h
  split at h
  · simp at h
  · next hn => exact firstFailing_eq_none hn

/-- What the checks of the complete image find: EMPTY-ROUTE, CHAIN and REFERENCE. -/
theorem checkWhole_ok {c : Configuration} {u : Unit} (h : checkWhole c = .ok u) :
    (∃ i, i < c.route.length ∧ c.skips i = false)
      ∧ (∀ i, i < c.route.length → c.skips i = false →
        ((c.entry i).start + (c.entry i).length) % c.opt.routeLength = (c.entry (c.successor i)).start)
      ∧ ReferencesSound c := by
  simp only [checkWhole, Loaded.bind_eq_ok] at h
  obtain ⟨_, hany, _, hchain, _, hword, _, hclip, _, hlink, _, hrestraint, hstop⟩ := h
  have chain := requireAll_ok hchain
  have word := requireAll_ok hword
  have clip := requireAll_ok hclip
  have link := requireAll_ok hlink
  refine ⟨by simpa using require_ok hany, fun i hi hs => ?_, fun e he i hi => ?_,
    fun e he clip' voice gain loops fade mask hp => ?_, fun w hw l hl => ?_, of_decide_eq_true (require_ok hrestraint),
    of_decide_eq_true (require_ok hstop)⟩
  · have hm := chain i (List.mem_range.mpr hi)
    simpa [entryMeets, hs] using hm
  · simpa [hi] using word e he
  · simpa [hp] using clip e he
  · simpa [hl] using link w hw

end Sys2Proof.Machine

open Sys2Proof.Machine in
/-- Settles O9: each section is in its ranges as it is read, and the whole image is checked at the end. -/
theorem loadedConfigurationIsSound : Obligations.LoadedConfigurationIsSound := by
  unfold Obligations.LoadedConfigurationIsSound
  intro memory c h
  simp only [loadImage] at h
  split at h
  case h_2 => simp [Loaded.bind_eq_ok] at h
  next v hv =>
  simp only [Loaded.bind_eq_ok] at h
  obtain ⟨_, -, opt, hopt, n, hn, route, hroute, w, hw, words, hwords, k, hk, _, hlength, clips, hclips, fades, hfades,
    map, hmap, _, -, u, hcheck, h⟩ := h
  cases hopt
  have himage := of_decide_eq_true (require_ok hlength)
  obtain ⟨hroutes, hentries⟩ := readRecords_ok hroute
  obtain ⟨hwordCount, hwordRead⟩ := readRecords_ok hwords
  obtain ⟨hclipCount, hclipRead⟩ := readRecords_ok hclips
  obtain ⟨hfadeCount, hfadeRead⟩ := readRecords_ok hfades
  obtain ⟨hmapCount, hmapRead⟩ := readRecords_ok hmap
  obtain ⟨hplaces, hmeets, hrefs⟩ := checkWhole_ok hcheck
  cases h
  refine ⟨optionsSound_of_readParams hv, hroutes ▸ readCount_ok hn, fun e he => ?_, ⟨⟨hwordCount ▸ (readCount_ok hw).2, fun x hx => ?_⟩,
    ⟨hclipCount ▸ (readCount_ok hk).2, fun x hx => ?_⟩, ⟨hfadeCount, fun x hx => ?_⟩, hmapCount, fun x hx => ?_⟩,
    hplaces, hmeets, hrefs⟩
  · obtain ⟨f, hf, hread⟩ := hentries e he
    exact entrySound_of_entryOf hf hread
  · obtain ⟨f, hf, hread⟩ := hwordRead x hx
    exact wordOf_range hf hread
  · obtain ⟨f, hf, hread⟩ := hclipRead x hx
    obtain ⟨hl, hloop, hgain, haddress⟩ := clipOf_range hf hread
    refine ⟨hl, hloop, hgain, ?_⟩
    rw [hroutes, hwordCount, hclipCount, ← himage]
    exact haddress
  · obtain ⟨f, hf, hread⟩ := hfadeRead x hx
    exact fadeOf_range hf hread
  · obtain ⟨f, -, hread⟩ := hmapRead x hx
    exact mapOf_range hread

namespace Sys2Proof.Machine

/-! ### The transmit queue keeps its order and its bounds (R36, R37) -/

/-- At most 6 frames, S before C before P, with at most one POS (R36). -/
def QueueOk (q : List Waiting) : Prop :=
  q.length ≤ 6 ∧ (q.map Waiting.rank).Pairwise (· ≤ ·) ∧ (q.filter Waiting.isPos).length ≤ 1

theorem State.queueSound_iff (s : State) : s.QueueSound ↔ QueueOk s.ni.queue := .rfl

theorem insertFrame_sorted {f : Waiting} {q : List Waiting} (h : (q.map Waiting.rank).Pairwise (· ≤ ·)) :
    ((insertFrame f q).map Waiting.rank).Pairwise (· ≤ ·) := by
  induction q with
  | nil => simp [insertFrame]
  | cons x xs ih =>
    obtain ⟨hx, hxs⟩ := List.pairwise_cons.mp h
    simp only [insertFrame]
    split
    · next hle =>
      refine List.pairwise_cons.mpr ⟨fun r hr => ?_, ih hxs⟩
      obtain ⟨y, hy, rfl⟩ := List.mem_map.mp hr
      rcases mem_insertFrame.mp hy with rfl | hy
      · exact hle
      · exact hx _ (List.mem_map_of_mem hy)
    · next hlt =>
      refine List.pairwise_cons.mpr ⟨fun r hr => ?_, h⟩
      rcases List.mem_cons.mp hr with rfl | hr
      · omega
      · have := hx r hr
        omega

theorem count_insertFrame (f : Waiting) (q : List Waiting) :
    ((insertFrame f q).filter Waiting.isPos).length = ((f :: q).filter Waiting.isPos).length := by
  induction q with
  | nil => rfl
  | cons x xs ih =>
    simp only [insertFrame]
    split
    · simp only [List.filter_cons] at ih ⊢
      cases hx : x.isPos <;> cases hf : f.isPos <;> simp_all
    · rfl

/-- A frame joins a queue that has room, as its only POS or as another frame (R36). -/
theorem QueueOk.insertFrame {f : Waiting} {q : List Waiting} (h : QueueOk q) (hl : q.length < 6)
    (hf : f.isPos = false ∨ q.any Waiting.isPos = false) : QueueOk (insertFrame f q) := by
  obtain ⟨-, hsort, hpos⟩ := h
  refine ⟨by rw [length_insertFrame]; omega, insertFrame_sorted hsort, ?_⟩
  rw [count_insertFrame]
  rcases hf with hf | hq
  · simpa [hf] using hpos
  · have hnone : q.filter Waiting.isPos = [] := List.filter_eq_nil_iff.mpr (by simpa using hq)
    rw [List.filter_cons, hnone]
    split <;> simp

theorem QueueOk.sublist {q r : List Waiting} (h : QueueOk q) (hr : r.Sublist q) : QueueOk r := by
  obtain ⟨hlen, hsort, hpos⟩ := h
  exact ⟨hr.length_le.trans hlen, hsort.sublist (hr.map _), (hr.filter _).length_le.trans hpos⟩

/-- A displaced frame leaves the others in their order (R37). -/
theorem sublist_of_dropNewest {n : Nat} {q r : List Waiting} {y : Waiting} (h : dropNewest n q = some (y, r)) :
    r.Sublist q ∧ r.length < q.length := by
  induction q generalizing r with
  | nil => simp [dropNewest] at h
  | cons x xs ih =>
    simp only [dropNewest] at h
    split at h
    · next z zs hz =>
      obtain ⟨rfl, rfl⟩ : z = y ∧ x :: zs = r := by simpa using h
      obtain ⟨hsub, hlt⟩ := ih hz
      exact ⟨hsub.cons_cons _, by simpa using hlt⟩
    · split at h
      · obtain ⟨rfl, rfl⟩ : x = y ∧ xs = r := by simpa using h
        exact ⟨List.sublist_cons_self .., by simp⟩
      · simp at h

/-- A frame takes the place of a displaced one (R37). -/
theorem QueueOk.displace {n : Nat} {f y : Waiting} {q r : List Waiting} (h : QueueOk q)
    (hd : dropNewest n q = some (y, r)) (hf : f.isPos = false ∨ q.any Waiting.isPos = false) :
    QueueOk (Machine.insertFrame f r) := by
  obtain ⟨hsub, hlt⟩ := sublist_of_dropNewest hd
  have hlen := h.1
  refine (h.sublist hsub).insertFrame (by omega) (hf.imp_right fun hq => ?_)
  simp only [List.any_eq_false] at hq ⊢
  exact fun x hx => hq x (hsub.subset hx)

theorem QueueOk.joinQueue {f : Waiting} {q : List Waiting} (h : QueueOk q)
    (hf : f.isPos = false ∨ q.any Waiting.isPos = false) : QueueOk (joinQueue f q).1 := by
  simp only [Machine.joinQueue]
  split
  · next hl => exact h.insertFrame hl hf
  · split
    · exact h
    · split
      · next hd => exact h.displace hd hf
      · split
        · exact h
        · split
          · next hd => exact h.displace hd hf
          · exact h

/-- A POS request leaves at most one POS: it takes a standing one's place, or joins where none stands (R36). -/
theorem QueueOk.joinPos {q : List Waiting} (h : QueueOk q) (urgent : Bool) : QueueOk (joinPos urgent q) := by
  simp only [Machine.joinPos]
  split
  · next hany =>
    split
    · have hlt : (q.filter fun f => !f.isPos).length < q.length := by
        rw [List.length_filter_lt_length_iff_exists]
        simpa using hany
      have hlen := h.1
      refine (h.sublist List.filter_sublist).insertFrame (by omega) (.inr ?_)
      simp
    · exact h
  · next hany => exact h.joinQueue (.inr (by simpa using hany))

/-! ### The play queues keep their bound (R163) -/

/-- No play queue holds more than 4 requests (R163). -/
def Spe.Bounded (e : Spe) : Prop := ∀ i, (e.voice i).queue.length ≤ 4

theorem State.voicesSound_iff (s : State) : s.VoicesSound ↔ s.spe.Bounded := by
  refine ⟨fun ⟨h0, h1, h2, h3⟩ i => ?_, fun h => ⟨h 0, h 1, h 2, h 3⟩⟩
  simp only [Spe.voice]
  split
  · exact h0
  · split
    · exact h1
    · split
      · exact h2
      · exact h3

theorem Spe.voice_setVoice_cases (e : Spe) (i j : Nat) (v : Voice) :
    (e.setVoice i v).voice j = v ∨ (e.setVoice i v).voice j = e.voice j := by
  simp only [Spe.setVoice]
  split
  · by_cases h : j = 0 <;> simp [Spe.voice, h]
  · split
    · by_cases h : j = 1 <;> simp [Spe.voice, h]
    · split
      · by_cases h : j = 2 <;> simp [Spe.voice, h]
      · simp only [Spe.voice]
        split
        · exact .inr rfl
        · split
          · exact .inr rfl
          · split
            · exact .inr rfl
            · exact .inl rfl

theorem Spe.Bounded.setVoice {e : Spe} (h : e.Bounded) (i : Nat) {v : Voice} (hv : v.queue.length ≤ 4) :
    (e.setVoice i v).Bounded := fun j => by
  rcases e.voice_setVoice_cases i j v with hj | hj <;> rw [hj]
  · exact hv
  · exact h j

theorem Spe.Bounded.disown {e : Spe} (h : e.Bounded) (i : Nat) : (e.disown i).Bounded := fun j => by
  rw [Spe.voice_disown]; exact h j

/-- A voice that takes a request has at most the others waiting (R164). -/
theorem Voice.take_queue (cfg : Configuration) (reading : Nat) (rs : List PlayRequest) (v : Voice) :
    (v.take cfg reading rs).queue.length ≤ rs.length - 1 := by
  induction rs with
  | nil => simp [Voice.take, Voice.goIdle, Voice.start]
  | cons r rest ih =>
    simp only [Voice.take]
    split
    · exact ih.trans (by simp)
    · simp
    · simp

theorem Spe.Bounded.takeFrom {e : Spe} (h : e.Bounded) (cfg : Configuration) (reading i : Nat)
    {rs : List PlayRequest} (hr : rs.length ≤ 5) : (e.takeFrom cfg reading i rs).Bounded :=
  (h.disown i).setVoice i ((Voice.take_queue ..).trans (by omega))

theorem Voice.ask_queue (cfg : Configuration) (v : Voice) : (v.ask cfg).queue = v.queue := by
  simp only [Voice.ask]; split <;> rfl

theorem Voice.fadeOut_queue (v : Voice) : v.fadeOut.queue = v.queue := by
  simp only [Voice.fadeOut]; split <;> rfl

theorem Spe.Bounded.serve {e : Spe} (h : e.Bounded) (cfg : Configuration) : (e.serve cfg).Bounded := by
  simp only [Spe.serve]
  split
  · exact h
  · split
    · exact h
    · next i _ => exact h.setVoice i (v := { e.voice i with refill := .inTransfer }) (h i)

theorem Spe.Bounded.complete {e : Spe} (h : e.Bounded) (cfg : Configuration) (samples : List Int) :
    (e.complete cfg samples).Bounded := by
  simp only [Spe.complete]
  split
  · exact h
  · next t _ =>
    have hf : Spe.Bounded { e with link := none } := h
    split
    · exact hf.serve cfg
    · exact (hf.setVoice t.voice (by rw [Voice.ask_queue]; exact h t.voice)).serve cfg

/-- A request joins a queue of fewer than 4, or replaces voice 0's last one, or leaves no trace (R163). -/
theorem Spe.Bounded.play {e : Spe} (h : e.Bounded) (cfg : Configuration) (reading i : Nat) (r : PlayRequest) :
    (e.play cfg reading i r).Bounded := by
  have hi := h i
  simp only [Spe.play]
  split
  · exact (h.takeFrom cfg reading i (by rw [List.length_cons]; omega)).serve cfg
  · split
    · next hlt => exact h.setVoice i (by simpa using hlt)
    · split
      · exact h.setVoice i (by simp only [List.length_append, List.length_dropLast, List.length_singleton]; omega)
      · split
        · exact h.setVoice i hi
        · exact h

theorem Spe.Bounded.stopVoice {e : Spe} (h : e.Bounded) (cfg : Configuration) (i : Nat) :
    (e.stopVoice cfg i).Bounded := by
  simp only [Spe.stopVoice]
  split
  · exact ((h.disown i).setVoice i (by simp [Voice.goIdle, Voice.start])).serve cfg
  · exact h.setVoice i (by simp [Voice.fadeOut_queue])

theorem Spe.Bounded.rideStop {e : Spe} (h : e.Bounded) (cfg : Configuration) (reading : Nat) :
    (e.rideStop cfg reading).Bounded := by
  have hq := ((h.stopVoice cfg 1).stopVoice cfg 2).stopVoice cfg 3
  simp only [Spe.rideStop]
  split
  · exact hq
  · exact hq.play cfg reading 0 _

theorem Spe.Bounded.announcementEnd {e : Spe} (h : e.Bounded) : e.announcementEnd.Bounded := by
  have hq : (e.v0.queue.filter fun r => r.origin ≠ .restraint).length ≤ 4 := (List.length_filter_le ..).trans (h 0)
  simp only [Spe.announcementEnd]
  split
  · split
    · exact h.setVoice 0 (by rw [Voice.fadeOut_queue]; exact hq)
    · exact h.setVoice 0 (v := { e.v0 with queue := _ }) hq
  · exact h.setVoice 0 (v := { e.v0 with queue := _ }) hq

theorem Spe.Bounded.judgeWaiting {e : Spe} (h : e.Bounded) (cfg : Configuration) (reading i : Nat) :
    (e.judgeWaiting cfg reading i).Bounded := by
  have hi := h i
  simp only [Spe.judgeWaiting]
  split
  · split
    · exact h
    · exact h.takeFrom cfg reading i (by omega)
    · split
      · refine h.setVoice i ?_
        split
        · exact hi
        · rw [Voice.ask_queue]; exact hi
      · exact (h.disown i).setVoice i hi
  · exact h

theorem Voice.advance_queue {cfg : Configuration} {v w : Voice} (h : v.advance cfg = some w) : w.queue = v.queue := by
  simp only [Voice.advance] at h
  grind

theorem Spe.Bounded.stepVoice {e : Spe} (h : e.Bounded) (cfg : Configuration) (reading i : Nat) :
    (e.stepVoice cfg reading i).Bounded := by
  have hi := h i
  simp only [Spe.stepVoice]
  split
  · split
    · exact h.setVoice i (by rw [Voice.ask_queue]; exact hi)
    · split
      · next w hw => exact h.setVoice i (by rw [Voice.ask_queue, Voice.advance_queue hw]; exact hi)
      · exact h.takeFrom cfg reading i (by omega)
  · exact h.setVoice i (by rw [Voice.ask_queue]; exact hi)

theorem Spe.Bounded.samplePeriod {e : Spe} (h : e.Bounded) (cfg : Configuration) (reading : Nat) :
    (e.samplePeriod cfg reading).Bounded := by
  have hj := (((h.judgeWaiting cfg reading 0).judgeWaiting cfg reading 1).judgeWaiting cfg reading 2).judgeWaiting
    cfg reading 3
  exact ((((hj.stepVoice cfg reading 0).stepVoice cfg reading 1).stepVoice cfg reading 2).stepVoice
    cfg reading 3).serve cfg

theorem Spe.bounded_park (e : Spe) : e.park.Bounded := by
  intro i
  simp only [Spe.voice]
  (repeat' split) <;> simp [Spe.park, Voice.park, Voice.start]

end Sys2Proof.Machine

namespace Sys2Proof.Machine

/-! ### What every operation keeps of the queues -/

/-- Neither the transmit queue nor a play queue becomes unsound. -/
structure State.KeepsQueues (s t : State) : Prop where
  queue : s.QueueSound → t.QueueSound
  voices : s.VoicesSound → t.VoicesSound

theorem State.KeepsQueues.refl (s : State) : s.KeepsQueues s := ⟨id, id⟩

theorem State.KeepsQueues.trans {s t u : State} (h : s.KeepsQueues t) (k : t.KeepsQueues u) : s.KeepsQueues u :=
  ⟨k.queue ∘ h.queue, k.voices ∘ h.voices⟩

/-- A change that reaches neither the transmit queue nor the SPE. -/
theorem State.keepsQueues_of_same {s t : State} (hn : t.ni.queue = s.ni.queue) (hs : t.spe = s.spe) :
    s.KeepsQueues t :=
  ⟨fun h => by simpa only [State.QueueSound, hn] using h, fun h => by simpa only [State.VoicesSound, hs] using h⟩

/-- A change of the transmit queue that does not reach the SPE. -/
theorem State.keepsQueues_of_ok {s t : State} (hn : QueueOk s.ni.queue → QueueOk t.ni.queue) (hs : t.spe = s.spe) :
    s.KeepsQueues t :=
  ⟨hn, (State.keepsQueues_of_same (s := s) (t := s.setSpe t.spe) rfl hs).voices⟩

/-- A change of the SPE that does not reach the transmit queue. -/
theorem State.keepsQueues_of_bounded {s t : State} (hn : t.ni.queue = s.ni.queue)
    (hs : s.spe.Bounded → t.spe.Bounded) : s.KeepsQueues t :=
  ⟨fun h => by simpa only [State.QueueSound, hn] using h,
    fun h => t.voicesSound_iff.mpr (hs (s.voicesSound_iff.mp h))⟩

/-- A change that leaves both queues empty where it was not there before. -/
theorem State.keepsQueues_of_fresh {s t : State} (hn : t.ni.queue = []) (hs : t.spe.Bounded) : s.KeepsQueues t :=
  ⟨fun _ => by simp [State.QueueSound, hn], fun _ => t.voicesSound_iff.mpr hs⟩

theorem State.settled_keepsQueues (s : State) : s.KeepsQueues s.settled := State.keepsQueues_of_same rfl rfl

theorem State.inEitherOrder_keepsQueues {f g : State → State} (hf : ∀ t : State, t.KeepsQueues (f t))
    (hg : ∀ t : State, t.KeepsQueues (g t)) (s : State) : s.KeepsQueues (s.inEitherOrder f g) :=
  State.inEitherOrder_keeps (P := s.KeepsQueues) s.settled_keepsQueues (fun t h => h.trans (hf t))
    fun t h => h.trans (hg t)

theorem State.requestPos_keepsQueues (urgent : Bool) (s : State) : s.KeepsQueues (s.requestPos urgent) :=
  State.keepsQueues_of_ok (fun h => by rw [State.requestPos_queue]; exact h.joinPos urgent) (by simp)

theorem State.putFrame_keepsQueues {f : Waiting} (hf : f.isPos = false) (s : State) : s.KeepsQueues (s.putFrame f).1 :=
  State.keepsQueues_of_ok (fun h => by rw [State.putFrame_queue]; exact h.joinQueue (.inl hf)) (by simp)

/-! ### Chains and the tracker -/

theorem State.runChain_keepsQueues (n : Nat) (met : Bool) (s : State) : s.KeepsQueues (s.runChain n met) :=
  State.keepsQueues_of_ok
    (fun h => State.runChain_queue (Q := QueueOk) (fun _ _ _ hq => hq.joinQueue (.inl rfl)) n met h) (by simp)

theorem State.testChain_keepsQueues (s : State) : s.KeepsQueues s.testChain := by
  simp only [State.testChain]
  split
  · exact s.runChain_keepsQueues ..
  · exact .refl s

theorem State.retryChain_keepsQueues (r : WaitReason) (s : State) : s.KeepsQueues (s.retryChain r) := by
  simp only [State.retryChain]
  split
  · exact s.runChain_keepsQueues ..
  · exact .refl s

theorem State.recordFreed_keepsQueues (s : State) : s.KeepsQueues s.recordFreed := by
  simp only [State.recordFreed]
  split
  · exact s.retryChain_keepsQueues _
  · exact s.testChain_keepsQueues

theorem State.setScu_keepsQueues (u : Scu) (s : State) : s.KeepsQueues (s.setScu u) := State.keepsQueues_of_same rfl rfl

theorem State.chainPulse_keepsQueues (s : State) : s.KeepsQueues s.chainPulse := by
  simp only [State.chainPulse]
  split
  · exact (s.setScu_keepsQueues _).trans (State.testChain_keepsQueues _)
  · exact .refl s

theorem State.chainAction_keepsQueues (s : State) : s.KeepsQueues s.chainAction :=
  State.keepsQueues_of_ok
    (fun h => State.chainAction_queue (Q := QueueOk) (fun _ _ _ hq => hq.joinQueue (.inl rfl)) h) (by simp)

theorem State.reportDropped_keepsQueues (f : Option Waiting) (s : State) : s.KeepsQueues (s.reportDropped f) := by
  simp only [State.reportDropped]
  split
  · exact (s.setScu_keepsQueues _).trans (State.recordFreed_keepsQueues _)
  · exact .refl s

theorem State.requestFrame_keepsQueues {f : Waiting} (hf : f.isPos = false) (s : State) :
    s.KeepsQueues (s.requestFrame f) :=
  (s.putFrame_keepsQueues hf).trans (State.reportDropped_keepsQueues ..)

theorem State.play_keepsQueues (i : Nat) (r : PlayRequest) (s : State) : s.KeepsQueues (s.play i r) :=
  State.keepsQueues_of_bounded rfl fun h => h.play _ _ _ _

theorem State.announcementEnd_keepsQueues (s : State) : s.KeepsQueues s.announcementEnd :=
  State.keepsQueues_of_bounded rfl fun h => h.announcementEnd

/-! ### The motion state and the authority -/

theorem State.setMotion_keepsQueues (m : Motion) (s : State) : s.KeepsQueues (s.setMotion m) :=
  State.keepsQueues_of_ok (fun h => by rw [State.setMotion_queue]; exact h.joinPos true) (by simp)

theorem State.enterHeld_keepsQueues (s : State) : s.KeepsQueues s.enterHeld := by
  simp only [State.enterHeld]
  split
  · exact (s.setMotion_keepsQueues _).trans (State.setMotion_keepsQueues ..)
  · have hd (t : State) : t.KeepsQueues t.startDwell := State.keepsQueues_of_same (by simp) (by simp)
    exact (s.setMotion_keepsQueues _).trans (hd _)

theorem State.driveRise_keepsQueues (level : Nat) (s : State) : s.KeepsQueues (s.driveRise level) := by
  simp only [State.driveRise]
  split
  case h_1 =>
    split
    · exact s.setMotion_keepsQueues _
    · split
      · exact (s.setMotion_keepsQueues _).trans (State.enterHeld_keepsQueues _)
      · exact s.setMotion_keepsQueues _
  case h_2 => split <;> exact s.setMotion_keepsQueues _
  case h_3 =>
    split
    · exact s.setMotion_keepsQueues _
    · exact .refl s
  all_goals exact .refl s

theorem State.driveFall_keepsQueues (level : Nat) (s : State) : s.KeepsQueues (s.driveFall level) := by
  simp only [State.driveFall]
  split
  case h_1 =>
    split
    · exact s.setMotion_keepsQueues _
    · exact .refl s
  case h_2 =>
    split
    · exact s.enterHeld_keepsQueues
    · exact .refl s
  all_goals exact .refl s

theorem State.periodTransition_keepsQueues (s : State) : s.KeepsQueues s.periodTransition := by
  simp only [State.periodTransition]
  split
  case h_1 =>
    split
    · exact s.setMotion_keepsQueues _
    · exact .refl s
  case h_2 | h_3 | h_4 =>
    split
    · exact s.enterHeld_keepsQueues
    · exact .refl s
  all_goals exact .refl s

/-! ### Stops -/

theorem State.setStc_keepsQueues (c : Stc) (s : State) : s.KeepsQueues (s.setStc c) := State.keepsQueues_of_same rfl rfl

theorem State.notifyRise_keepsQueues (was level : Nat) (s : State) : s.KeepsQueues (s.notifyRise was level) := by
  have h1 : s.KeepsQueues (s.authorityRise was level) := State.keepsQueues_of_same (by simp) (by simp)
  have h2 := h1.trans (State.driveRise_keepsQueues level _)
  have h3 : s.KeepsQueues (((s.authorityRise was level).driveRise level).abandonChain .abandoned) :=
    h2.trans (State.keepsQueues_of_same (by simp) (by simp))
  exact h3.trans (State.keepsQueues_of_bounded rfl fun h => h.rideStop _ _)

theorem State.raiseLatch_keepsQueues (level : Nat) (cause : StopCause) (origin : Nat) (s : State) :
    s.KeepsQueues (s.raiseLatch level cause origin) := by
  simp only [State.raiseLatch]
  split
  · exact (s.setStc_keepsQueues _).trans (State.notifyRise_keepsQueues ..)
  · exact .refl s

theorem State.frameLevel_keepsQueues (level : Nat) (cause : StopCause) (origin : Nat) (s : State) :
    s.KeepsQueues (s.frameLevel level cause origin) := by
  simp only [State.frameLevel]
  split
  · exact (s.setStc_keepsQueues _).trans (State.raiseLatch_keepsQueues ..)
  · exact .refl s

theorem State.levelRises_keepsQueues (c : Cause) (s : State) : s.KeepsQueues (s.levelRises c) :=
  (((s.putFrame_keepsQueues rfl).trans (State.requestPos_keepsQueues true _)).trans
    (State.raiseLatch_keepsQueues ..)).trans (State.reportDropped_keepsQueues ..)

theorem State.raise_keepsQueues (c : Cause) (s : State) : s.KeepsQueues (s.raise c) := by
  have hj : s.KeepsQueues (s.joined c) := State.keepsQueues_of_same rfl rfl
  rw [State.raise_eq]
  split
  · split
    · exact hj.trans (State.levelRises_keepsQueues ..)
    · exact hj
  · exact .refl s

theorem State.withdraw_keepsQueues (c : Cause) (s : State) : s.KeepsQueues (s.withdraw c) := by
  have hs : s.KeepsQueues (s.setStc { s.stc with causes := s.stc.causes.filter (· ≠ c) }) :=
    State.keepsQueues_of_same rfl rfl
  simp only [State.withdraw]
  split
  · exact .refl s
  · split
    · exact hs.trans (State.requestPos_keepsQueues true _)
    · exact hs

/-! ### The peer table and the slots -/

theorem State.foreignAfter_keepsQueues (before : Bool) (s : State) : s.KeepsQueues (s.foreignAfter before) := by
  simp only [State.foreignAfter]
  split
  · exact s.raise_keepsQueues _
  · split
    · exact s.withdraw_keepsQueues _
    · exact .refl s

theorem State.setPtb_keepsQueues (t : List Peer) (s : State) : s.KeepsQueues (s.setPtb t) :=
  State.keepsQueues_of_same rfl rfl

section
variable {tell : Nat → State → State} (htell : ∀ n t, State.KeepsQueues t (tell n t))
include htell

theorem State.removeWith_keepsQueues (station : Nat) (s : State) : s.KeepsQueues (s.removeWith tell station) := by
  have h (t : List Peer) := (s.setPtb_keepsQueues t).trans (State.foreignAfter_keepsQueues s.foreignSeen _)
  simp only [State.removeWith]
  split
  · exact .refl s
  · split
    · exact (h _).trans (htell ..)
    · exact h _

theorem State.pinWith_keepsQueues (f : Pin) (station : Option Nat) (s : State) :
    s.KeepsQueues (s.pinWith tell f station) := by
  have h := s.setPtb_keepsQueues (namePin f station s.ptb)
  simp only [State.pinWith]
  split
  · exact h
  · split
    · exact h
    · split
      · exact h.trans (State.removeWith_keepsQueues htell ..)
      · exact h

end

theorem State.slotNotice_keepsQueues (s : State) : s.KeepsQueues s.slotNotice :=
  State.keepsQueues_of_ok (fun h => by rw [State.slotNotice_queue]; exact h.joinPos true) (by simp)

theorem State.enterClaiming_keepsQueues (k : SlotId) (x : Nat) (s : State) : s.KeepsQueues (s.enterClaiming k x) :=
  ((s.setScu_keepsQueues _).trans (State.requestFrame_keepsQueues rfl _)).trans (State.slotNotice_keepsQueues _)

theorem State.liftWith_keepsQueues {tell : Nat → State → State} (htell : ∀ n t, State.KeepsQueues t (tell n t))
    (k : SlotId) (s : State) : s.KeepsQueues (s.liftWith tell k) := by
  simp only [State.liftWith]
  split
  · exact .refl s
  · split
    · exact (s.setScu_keepsQueues _).trans (State.pinWith_keepsQueues htell ..)
    · exact (s.enterClaiming_keepsQueues ..).trans (State.pinWith_keepsQueues htell ..)

theorem State.tellGone_keepsQueues (n station : Nat) (s : State) : s.KeepsQueues (s.tellGone n station) := by
  induction n generalizing station s with
  | zero => exact .refl s
  | succ n ih =>
    have lift (k : SlotId) (t : State) : t.KeepsQueues (if (t.scu.slot k).waitsOn station then
        t.liftWith (State.tellGone n) k else t) := by
      split
      · exact State.liftWith_keepsQueues ih k t
      · exact .refl t
    exact (lift .one s).trans (lift .two _)

theorem State.tellScu_keepsQueues (station : Nat) (s : State) : s.KeepsQueues (s.tellScu station) :=
  s.tellGone_keepsQueues ..

theorem State.removePeer_keepsQueues (station : Nat) (s : State) : s.KeepsQueues (s.removePeer station) :=
  State.removeWith_keepsQueues State.tellScu_keepsQueues station s

theorem State.pin_keepsQueues (f : Pin) (station : Option Nat) (s : State) : s.KeepsQueues (s.pin f station) :=
  State.pinWith_keepsQueues State.tellScu_keepsQueues f station s

theorem State.liftBlock_keepsQueues (k : SlotId) (s : State) : s.KeepsQueues (s.liftBlock k) :=
  State.liftWith_keepsQueues State.tellScu_keepsQueues k s

theorem State.enterWaiting_keepsQueues (k : SlotId) (x station : Nat) (s : State) :
    s.KeepsQueues (s.enterWaiting k x station) := by
  have h := (s.setScu_keepsQueues (s.scu.moveSlot k ⟨some x, .waiting, none, some station, none⟩)).trans
    (State.slotNotice_keepsQueues _)
  simp only [State.enterWaiting]
  split
  · exact h.trans (State.pin_keepsQueues ..)
  · exact h.trans (State.liftBlock_keepsQueues ..)

theorem State.freeSlot_keepsQueues (frame : Bool) (k : SlotId) (s : State) : s.KeepsQueues (s.freeSlot frame k) := by
  have hs := s.setScu_keepsQueues (s.scu.moveSlot k Slot.free)
  have hf (x : Nat) (t : State) : t.KeepsQueues (t.requestFrame (.free x)) := State.requestFrame_keepsQueues rfl t
  have hp (u : State) (h : s.KeepsQueues u) : s.KeepsQueues (if (s.scu.slot k).state = .waiting then
      u.slotNotice.pin (.slot k) none else u.slotNotice) := by
    split
    · exact (h.trans (State.slotNotice_keepsQueues _)).trans (State.pin_keepsQueues ..)
    · exact h.trans (State.slotNotice_keepsQueues _)
  refine hp _ ?_
  split
  · exact hs.trans (hf ..)
  · exact hs

theorem State.claimAction_keepsQueues (x : Nat) (s : State) : s.KeepsQueues (s.claimAction x) := by
  simp only [State.claimAction]
  split
  · exact .refl s
  · split
    · exact s.raise_keepsQueues _
    · split
      · exact s.enterWaiting_keepsQueues ..
      · exact s.enterClaiming_keepsQueues ..

theorem State.freeAction_keepsQueues (x : Nat) (s : State) : s.KeepsQueues (s.freeAction x) := by
  simp only [State.freeAction]
  split
  · exact s.freeSlot_keepsQueues ..
  · split
    · exact s.freeSlot_keepsQueues ..
    · exact .refl s

theorem State.claimHeard_keepsQueues (src x : Nat) (k : SlotId) (s : State) : s.KeepsQueues (s.claimHeard src x k) := by
  simp only [State.claimHeard]
  split
  · exact s.enterWaiting_keepsQueues ..
  · exact .refl s

theorem State.freeHeard_keepsQueues (src x : Nat) (k : SlotId) (s : State) : s.KeepsQueues (s.freeHeard src x k) := by
  simp only [State.freeHeard]
  split
  · exact s.liftBlock_keepsQueues _
  · exact .refl s

theorem State.posHeard_keepsQueues (src : Nat) (held : List Nat) (claiming : Option Nat) (k : SlotId) (s : State) :
    s.KeepsQueues (s.posHeard src held claiming k) := by
  simp only [State.posHeard]
  split
  · exact .refl s
  · split
    · exact .refl s
    · split
      · exact s.enterWaiting_keepsQueues ..
      · exact .refl s
    · split
      · exact s.liftBlock_keepsQueues _
      · exact .refl s
    · split
      · exact (s.freeSlot_keepsQueues ..).trans (State.raise_keepsQueues ..)
      · exact .refl s

theorem State.windowExpired_keepsQueues (k : SlotId) (s : State) : s.KeepsQueues (s.windowExpired k) := by
  simp only [State.windowExpired]
  split
  · exact .refl s
  · split
    · exact s.enterWaiting_keepsQueues ..
    · exact (s.setScu_keepsQueues _).trans (State.slotNotice_keepsQueues _)

/-! ### Hearings -/

theorem State.makeRoom_keepsQueues (s : State) : s.KeepsQueues s.makeRoom := by
  simp only [State.makeRoom]
  split
  · exact .refl s
  · split
    · exact s.removePeer_keepsQueues _
    · exact .refl s

theorem State.addPeer_keepsQueues (station : Nat) (foreign : Bool) (s : State) :
    s.KeepsQueues (s.addPeer station foreign) := by
  simp only [State.addPeer]
  split
  · exact (s.makeRoom_keepsQueues.trans (State.setPtb_keepsQueues ..)).trans (State.foreignAfter_keepsQueues ..)
  · exact s.makeRoom_keepsQueues

theorem State.mapPeer_keepsQueues (station : Nat) (f : Peer → Peer) (s : State) : s.KeepsQueues (s.mapPeer station f) :=
  s.setPtb_keepsQueues _

theorem State.hearOwn_keepsQueues (station : Nat) (s : State) : s.KeepsQueues (s.hearOwn station) := by
  simp only [State.hearOwn]
  split
  · exact (s.mapPeer_keepsQueues ..).trans (State.foreignAfter_keepsQueues ..)
  · exact s.addPeer_keepsQueues ..

theorem State.hearForeign_keepsQueues (station : Nat) (s : State) : s.KeepsQueues (s.hearForeign station) := by
  simp only [State.hearForeign]
  split
  · exact s.addPeer_keepsQueues ..
  · split
    · exact ((s.mapPeer_keepsQueues ..).trans (State.foreignAfter_keepsQueues ..)).trans (State.tellScu_keepsQueues ..)
    · exact (s.mapPeer_keepsQueues ..).trans (State.foreignAfter_keepsQueues ..)

theorem State.hear_keepsQueues (src : Nat) (s : State) : s.KeepsQueues (s.hear src) := by
  simp only [State.hear]
  split
  · exact s.hearOwn_keepsQueues src
  · exact .refl s

theorem State.hearPos_keepsQueues (src : Nat) (b : PosBody) (s : State) : s.KeepsQueues (s.hearPos src b) :=
  (((s.hearOwn_keepsQueues src).trans (State.posHeard_keepsQueues ..)).trans (State.posHeard_keepsQueues ..)).trans
    (State.mapPeer_keepsQueues ..)

theorem State.hearSync_keepsQueues (src : Nat) (s : State) : s.KeepsQueues (s.hearSync src) :=
  (s.hearOwn_keepsQueues src).trans (State.mapPeer_keepsQueues ..)

theorem State.staleNow_keepsQueues (station : Nat) (s : State) : s.KeepsQueues (s.staleNow station) := by
  simp only [State.staleNow]
  split
  · exact .refl s
  · split
    · exact s.removePeer_keepsQueues _
    · exact s.mapPeer_keepsQueues ..

theorem State.dropNow_keepsQueues (station : Nat) (s : State) : s.KeepsQueues (s.dropNow station) := by
  simp only [State.dropNow]
  split
  · exact .refl s
  · split
    · exact .refl s
    · exact s.removePeer_keepsQueues _

end Sys2Proof.Machine

namespace Sys2Proof.Machine

/-! ### The route keeps the queues -/

theorem State.setRsq_keepsQueues (r : Rsq) (s : State) : s.KeepsQueues (s.setRsq r) := State.keepsQueues_of_same rfl rfl

theorem State.setDsc_keepsQueues (d : Dsc) (s : State) : s.KeepsQueues (s.setDsc d) := State.keepsQueues_of_same rfl rfl

theorem State.setRm_keepsQueues (m : Rm) (s : State) : s.KeepsQueues (s.setRm m) := State.keepsQueues_of_same rfl rfl

theorem State.soundAction_keepsQueues (s : State) : s.KeepsQueues s.soundAction := by
  simp only [State.soundAction]
  split
  · exact s.play_keepsQueues ..
  · exact State.keepsQueues_of_bounded rfl fun h => h.stopVoice _ _
  · next voice _ => exact State.keepsQueues_of_bounded rfl fun h => h.setVoice voice (by simp)
  · exact .refl s

theorem State.sceneAction_keepsQueues (s : State) : s.KeepsQueues s.sceneAction := by
  simp only [State.sceneAction]
  split
  · exact s.claimAction_keepsQueues _
  · exact s.freeAction_keepsQueues _
  · exact .refl s

theorem State.enterEntry_keepsQueues (i d : Nat) (s : State) : s.KeepsQueues (s.enterEntry i d) := by
  have he : s.KeepsQueues (s.entering i d) := State.keepsQueues_of_same (by simp [State.entering]) (by simp [State.entering])
  have hr (t : State) : t.KeepsQueues t.entryRest :=
    t.chainAction_keepsQueues.trans (State.keepsQueues_of_same (by simp [State.entryRest]) (by simp [State.entryRest]))
  rw [State.enterEntry_eq]
  exact ((he.trans (State.soundAction_keepsQueues _)).trans (State.sceneAction_keepsQueues _)).trans (hr _)

theorem State.advance_keepsQueues (passed inTime : Bool) (carry : Nat) (s : State) :
    s.KeepsQueues (s.advance passed inTime carry) := by
  have h : s.KeepsQueues (if passed then s.raise .overrun else s) := by
    split
    · exact s.raise_keepsQueues _
    · exact .refl s
  exact (h.trans (State.setRsq_keepsQueues ..)).trans (State.enterEntry_keepsQueues ..)

theorem State.positionFault_keepsQueues (s : State) : s.KeepsQueues s.positionFault := by
  have h : s.KeepsQueues (s.setRsq s.rsq.lose).authorityLost := State.keepsQueues_of_same (by simp) (by simp)
  exact (h.trans (State.setMotion_keepsQueues ..)).trans (State.raise_keepsQueues ..)

theorem State.runEnds_keepsQueues (n : Nat) (s : State) : s.KeepsQueues (s.runEnds n) := by
  induction n generalizing s with
  | zero => exact .refl s
  | succ n ih =>
    simp only [State.runEnds]
    split
    · exact .refl s
    · exact s.setRsq_keepsQueues _
    · exact s.positionFault_keepsQueues
    · exact (s.advance_keepsQueues ..).trans (ih _)

theorem State.settleEnds_keepsQueues (s : State) : s.KeepsQueues s.settleEnds := by
  simp only [State.settleEnds]
  split
  · exact s.runEnds_keepsQueues _
  · exact .refl s

theorem State.actOnRelease_keepsQueues (s : State) : s.KeepsQueues s.actOnRelease := by
  simp only [State.actOnRelease]
  split
  · exact s.settleEnds_keepsQueues
  · exact .refl s

theorem State.afterSlots_keepsQueues (before : Scu) (s : State) : s.KeepsQueues (s.afterSlots before) := by
  have h : s.KeepsQueues s.sceneTest := State.keepsQueues_of_same (by simp) (by simp)
  simp only [State.afterSlots]
  split
  · exact h.trans (State.actOnRelease_keepsQueues _)
  · exact .refl s

theorem State.routePulse_keepsQueues (s : State) : s.KeepsQueues s.routePulse := by
  simp only [State.routePulse]
  split
  · exact (s.setRsq_keepsQueues _).trans (State.settleEnds_keepsQueues _)
  · exact .refl s

theorem State.chainAndRoute_keepsQueues (s : State) : s.KeepsQueues s.chainAndRoute := by
  simp only [State.chainAndRoute]
  split
  · exact s.chainPulse_keepsQueues.trans (State.routePulse_keepsQueues _)
  · exact s.routePulse_keepsQueues

theorem State.pulseWithLoss_keepsQueues (s : State) : s.KeepsQueues s.pulseWithLoss := by
  have hs := s.settled_keepsQueues
  simp only [State.pulseWithLoss]
  split
  · exact (hs.trans (State.raise_keepsQueues ..)).trans (State.chainAndRoute_keepsQueues _)
  · split
    · exact ((hs.trans (State.chainPulse_keepsQueues _)).trans (State.raise_keepsQueues ..)).trans
        (State.routePulse_keepsQueues _)
    · exact (hs.trans (State.raise_keepsQueues ..)).trans (State.routePulse_keepsQueues _)
  · exact (hs.trans (State.chainAndRoute_keepsQueues _)).trans (State.raise_keepsQueues ..)

theorem State.pulse_keepsQueues (s : State) : s.KeepsQueues s.pulse := by
  simp only [State.pulse]
  split
  · exact ((s.setDsc_keepsQueues _).trans (State.pulseWithLoss_keepsQueues _)).trans (State.afterSlots_keepsQueues ..)
  · exact ((s.setDsc_keepsQueues _).trans (State.chainAndRoute_keepsQueues _)).trans (State.afterSlots_keepsQueues ..)

theorem State.disagreement_keepsQueues (s : State) : s.KeepsQueues s.disagreement := by
  simp only [State.disagreement]
  split
  · exact (s.advance_keepsQueues ..).trans (State.settleEnds_keepsQueues _)
  · exact s.positionFault_keepsQueues

theorem State.inTimeRead_keepsQueues (s : State) : s.KeepsQueues s.inTimeRead := by
  simp only [State.inTimeRead]
  split
  · exact (s.setRsq_keepsQueues _).trans (State.setRsq_keepsQueues ..)
  · exact ((s.setRsq_keepsQueues _).trans (State.advance_keepsQueues ..)).trans (State.settleEnds_keepsQueues _)

theorem State.readMarker_keepsQueues (id : Nat) (s : State) : s.KeepsQueues (s.readMarker id) := by
  simp only [State.readMarker]
  split
  · split
    · exact .refl s
    · split
      · exact s.inTimeRead_keepsQueues
      · exact s.disagreement_keepsQueues
  · split
    · exact .refl s
    · split
      · split
        · exact .refl s
        · exact s.positionFault_keepsQueues
      · exact s.disagreement_keepsQueues

theorem State.markerHeard_keepsQueues (id : Nat) (s : State) : s.KeepsQueues (s.markerHeard id) := by
  simp only [State.markerHeard]
  split
  · exact (s.readMarker_keepsQueues id).trans (State.afterSlots_keepsQueues ..)
  · exact .refl s

theorem State.driveFix_keepsQueues (s : State) : s.KeepsQueues s.driveFix := by
  simp only [State.driveFix]
  split
  · exact s.enterHeld_keepsQueues
  · exact .refl s

theorem State.relocate_keepsQueues (e d : Nat) (s : State) : s.KeepsQueues (s.relocate e d) := by
  have h := ((s.setRsq_keepsQueues { s.rsq with known := true, lastMarker := none }).trans
    (State.withdraw_keepsQueues .position _)).trans (State.driveFix_keepsQueues _)
  simp only [State.relocate]
  split
  · exact (h.trans (State.enterEntry_keepsQueues ..)).trans (State.settleEnds_keepsQueues _)
  · exact .refl s

theorem State.dwellOver_keepsQueues (s : State) : s.KeepsQueues s.dwellOver :=
  ((s.setRsq_keepsQueues _).trans (State.actOnRelease_keepsQueues _)).trans (State.afterSlots_keepsQueues ..)

/-! ### The restraints keep the queues -/

theorem State.setVehicle_keepsQueues (x : Restraint) (s : State) : s.KeepsQueues (s.setVehicle x) := by
  have h := (s.setRm_keepsQueues { s.rm with vehicle := x }).trans (State.requestPos_keepsQueues true _)
  have hf (t : State) : t.KeepsQueues t.forceAuthority.evalRelease := State.keepsQueues_of_same (by simp) (by simp)
  have he (t : State) : t.KeepsQueues t.evalRelease := State.keepsQueues_of_same (by simp) (by simp)
  simp only [State.setVehicle]
  split
  · exact .refl s
  · split
    · exact h.trans (hf _)
    · exact h.trans (he _)

theorem State.enterAlarm_keepsQueues (s : State) : s.KeepsQueues s.enterAlarm :=
  (s.setVehicle_keepsQueues .alarm).trans
    (State.inEitherOrder_keepsQueues (State.raise_keepsQueues .restraint) (fun t => t.play_keepsQueues ..) _)

theorem State.checkingTest_keepsQueues (s : State) : s.KeepsQueues s.checkingTest := by
  simp only [State.checkingTest]
  split
  · exact .refl s
  · split
    · exact s.setVehicle_keepsQueues _
    · split
      · exact s.setVehicle_keepsQueues _
      · exact .refl s

theorem State.alarmTest_keepsQueues (level : Nat) (s : State) : s.KeepsQueues (s.alarmTest level) := by
  simp only [State.alarmTest]
  split
  · exact (s.setVehicle_keepsQueues _).trans (State.announcementEnd_keepsQueues _)
  · exact .refl s

theorem State.seatTest_keepsQueues (s : State) : s.KeepsQueues s.seatTest := by
  simp only [State.seatTest]
  split
  case h_1 => exact s.checkingTest_keepsQueues
  case h_2 =>
    split
    · exact (s.withdraw_keepsQueues _).trans (State.alarmTest_keepsQueues ..)
    · exact .refl s
  all_goals exact .refl s

theorem State.seatLoss_keepsQueues (s : State) : s.KeepsQueues s.seatLoss := by
  simp only [State.seatLoss]
  split
  case h_1 => exact s.enterAlarm_keepsQueues
  case h_2 => exact s.raise_keepsQueues _
  all_goals exact .refl s

theorem State.setSeat_keepsQueues (i : Nat) (k : Seat) (s : State) : s.KeepsQueues (s.setSeat i k) :=
  s.setRm_keepsQueues _

theorem State.seatChange_keepsQueues (i : Nat) (s : State) : s.KeepsQueues (s.seatChange i) := by
  simp only [State.seatChange]
  split
  case h_1 => exact .refl s
  case h_2 =>
    split
    · exact (s.setSeat_keepsQueues ..).trans (State.seatTest_keepsQueues _)
    · exact s.setSeat_keepsQueues ..
  case h_3 =>
    split
    · exact .refl s
    · exact (s.setSeat_keepsQueues ..).trans (State.seatTest_keepsQueues _)
  case h_4 =>
    split
    · exact .refl s
    · exact ((s.setSeat_keepsQueues ..).trans (State.seatLoss_keepsQueues _)).trans (State.seatTest_keepsQueues _)
  case h_5 =>
    split
    · exact s.setSeat_keepsQueues ..
    · exact .refl s

theorem State.seatChanges_keepsQueues (l : List Nat) (s : State) : s.KeepsQueues (s.seatChanges l) := by
  induction l generalizing s with
  | nil => exact .refl s
  | cons i is ih => exact (s.seatChange_keepsQueues i).trans (ih _)

theorem State.confirmed_keepsQueues (i : Nat) (s : State) : s.KeepsQueues (s.confirmed i) := by
  simp only [State.confirmed]
  split
  · exact (s.setSeat_keepsQueues ..).trans (State.seatTest_keepsQueues _)
  · exact s.setSeat_keepsQueues ..

theorem State.contradicted_keepsQueues (i : Nat) (s : State) : s.KeepsQueues (s.contradicted i) := by
  simp only [State.contradicted]
  split
  · exact (s.setSeat_keepsQueues ..).trans (State.seatTest_keepsQueues _)
  · exact s.setSeat_keepsQueues ..

theorem State.releaseVehicle_keepsQueues (s : State) : s.KeepsQueues s.releaseVehicle := by
  have h := s.setVehicle_keepsQueues .released
  simp only [State.releaseVehicle]
  split
  · exact ((h.trans (State.withdraw_keepsQueues ..)).trans (State.announcementEnd_keepsQueues _)).trans
      (State.setRm_keepsQueues ..)
  · exact h.trans (State.setRm_keepsQueues ..)

/-! ### Grants, RESUME and statuses keep the queues -/

theorem State.grantUnlock_keepsQueues (src : Nat) (s : State) : s.KeepsQueues (s.grantUnlock src) := by
  simp only [State.grantUnlock]
  split
  · exact s.releaseVehicle_keepsQueues
  · exact .refl s

theorem State.grantLock_keepsQueues (s : State) : s.KeepsQueues s.grantLock := by
  simp only [State.grantLock]
  split
  · exact (s.setVehicle_keepsQueues _).trans (State.checkingTest_keepsQueues _)
  · exact .refl s

theorem State.grantDispatch_keepsQueues (src : Nat) (s : State) : s.KeepsQueues (s.grantDispatch src) := by
  simp only [State.grantDispatch]
  split
  · exact (s.setRsq_keepsQueues _).trans (State.actOnRelease_keepsQueues _)
  · exact .refl s

theorem State.parkAll_keepsQueues (s : State) : s.KeepsQueues s.parkAll :=
  State.keepsQueues_of_fresh rfl s.spe.bounded_park

theorem State.grant_keepsQueues (src : Nat) (kind : GrantKind) (s : State) : s.KeepsQueues (s.grant src kind) := by
  cases kind with
  | unlock => exact s.grantUnlock_keepsQueues src
  | lock => exact s.grantLock_keepsQueues
  | dispatch => exact s.grantDispatch_keepsQueues src
  | wake => exact .refl s
  | park =>
    simp only [State.grant, State.grantPark]
    split
    · exact s.parkAll_keepsQueues
    · exact .refl s

theorem State.inAnyOrder_keepsQueues {f g h : State → State} (hf : ∀ t : State, t.KeepsQueues (f t))
    (hg : ∀ t : State, t.KeepsQueues (g t)) (hh : ∀ t : State, t.KeepsQueues (h t)) (s : State) :
    s.KeepsQueues (s.inAnyOrder f g h) := by
  have order {a b c : State → State} (ha : ∀ t : State, t.KeepsQueues (a t)) (hb : ∀ t : State, t.KeepsQueues (b t))
      (hc : ∀ t : State, t.KeepsQueues (c t)) : s.KeepsQueues (c (b (a s.settled))) :=
    ((s.settled_keepsQueues.trans (ha _)).trans (hb _)).trans (hc _)
  exact State.inAnyOrder_of (P := s.KeepsQueues) f g h s (order hf hg hh) (order hf hh hg) (order hg hf hh)
    (order hg hh hf) (order hh hf hg) (order hh hg hf)

theorem State.notifyFall_keepsQueues (level : Nat) (s : State) : s.KeepsQueues (s.notifyFall level) := by
  refine State.inAnyOrder_keepsQueues (fun t => ?_) (fun t => ?_) (State.alarmTest_keepsQueues level) s
  · exact (t.driveFall_keepsQueues level).trans (State.actOnRelease_keepsQueues _)
  · simp only [State.chainAfterFall]
    split
    · exact t.retryChain_keepsQueues _
    · exact .refl t

theorem State.withdrawLatched_keepsQueues (s : State) : s.KeepsQueues s.withdrawLatched := by
  have h := s.setStc_keepsQueues { s.stc with causes := s.stc.causes.filter fun c => !c.latched }
  simp only [State.withdrawLatched]
  split
  · exact h.trans (State.requestPos_keepsQueues true _)
  · exact h

theorem State.resume_keepsQueues (s : State) : s.KeepsQueues s.resume := by
  have h : s.KeepsQueues s.withdrawLatched.setLatch := s.withdrawLatched_keepsQueues.trans (State.setStc_keepsQueues ..)
  simp only [State.resume]
  split
  · exact h.trans (State.notifyFall_keepsQueues ..)
  · exact h

theorem State.playLink_keepsQueues (b : CuestBody) (r : Track) (s : State) : s.KeepsQueues (s.playLink b r) := by
  simp only [State.playLink]
  split
  · exact s.play_keepsQueues ..
  · exact .refl s

theorem State.cueStatus_keepsQueues (src : Nat) (b : CuestBody) (s : State) : s.KeepsQueues (s.cueStatus src b) := by
  simp only [State.cueStatus]
  split
  · split
    · exact .refl s
    · split
      · exact .refl s
      · exact ((s.setScu_keepsQueues _).trans (State.playLink_keepsQueues ..)).trans (State.recordFreed_keepsQueues _)
      · exact (s.setScu_keepsQueues _).trans (State.recordFreed_keepsQueues _)
  · exact .refl s

theorem State.lateOver_keepsQueues (ref : Nat) (s : State) : s.KeepsQueues (s.lateOver ref) :=
  (s.setScu_keepsQueues _).trans (State.recordFreed_keepsQueues _)

theorem State.cueTimedOut_keepsQueues (ref : Nat) (s : State) : s.KeepsQueues (s.cueTimedOut ref) := by
  simp only [State.cueTimedOut]
  split
  · exact (s.setScu_keepsQueues _).trans (State.lateOver_keepsQueues ref _)
  · exact (s.setScu_keepsQueues _).trans (State.testChain_keepsQueues _)

theorem State.pendingDue_keepsQueues (s : State) : s.KeepsQueues s.pendingDue :=
  (s.setScu_keepsQueues _).trans (State.testChain_keepsQueues _)

/-! ### A reception keeps the queues -/

theorem State.deliver_keepsQueues (src : Nat) (b : Body) (s : State) : s.KeepsQueues (s.deliver src b) := by
  have hear := State.hear_keepsQueues src
  cases b with
  | pos p =>
    simp only [State.deliver, State.deliverPos]
    split
    · exact State.inEitherOrder_keepsQueues (State.hearPos_keepsQueues src p) (State.frameLevel_keepsQueues _ _ _) s
    · exact s.hearPos_keepsQueues src p
  | stop level code =>
    simp only [State.deliver, State.deliverStop]
    split
    · exact State.inEitherOrder_keepsQueues hear (State.frameLevel_keepsQueues _ _ _) s
    · exact hear s
  | resume => exact State.inEitherOrder_keepsQueues hear State.resume_keepsQueues s
  | claim x =>
    exact State.inEitherOrder_keepsQueues hear
      (fun t => (t.claimHeard_keepsQueues ..).trans (State.claimHeard_keepsQueues ..)) s
  | free x =>
    exact State.inEitherOrder_keepsQueues hear
      (fun t => (t.freeHeard_keepsQueues ..).trans (State.freeHeard_keepsQueues ..)) s
  | cue _ => exact hear s
  | cuest c => exact State.inEitherOrder_keepsQueues hear (State.cueStatus_keepsQueues src c) s
  | sync time scene =>
    exact State.inEitherOrder_keepsQueues (State.hearSync_keepsQueues src)
      (fun t => State.keepsQueues_of_same (by simp) (by simp)) s
  | grant target kind =>
    simp only [State.deliver, State.deliverGrant]
    split
    · exact State.inEitherOrder_keepsQueues hear (State.grant_keepsQueues src kind) s
    · exact hear s
  | fix target entry distance =>
    simp only [State.deliver, State.deliverFix]
    split
    · exact State.inEitherOrder_keepsQueues hear (State.relocate_keepsQueues entry distance) s
    · exact hear s
  | clear target => exact (hear s).trans (State.removePeer_keepsQueues ..)

theorem State.deliverForeign_keepsQueues (src : Nat) (b : Body) (s : State) : s.KeepsQueues (s.deliverForeign src b) := by
  cases b with
  | stop level code =>
    simp only [State.deliverForeign]
    split
    · exact State.inEitherOrder_keepsQueues (State.hearForeign_keepsQueues src) (State.frameLevel_keepsQueues _ _ _) s
    · exact s.hearForeign_keepsQueues src
  | _ => exact s.hearForeign_keepsQueues src

theorem State.netHeard_keepsQueues (s : State) : s.KeepsQueues s.netHeard := by
  have h (t : Timer) : s.KeepsQueues (s.setNi { s.ni with silence := t }) := State.keepsQueues_of_same rfl rfl
  exact (h _).trans (State.withdraw_keepsQueues ..)

/-- The NI begins with a POS request (R42). -/
theorem State.netBegins_keepsQueues (s : State) : s.KeepsQueues s.netBegins := by
  have h (t : Timer) : s.KeepsQueues (s.setNi { s.ni with silence := t }) := State.keepsQueues_of_same rfl rfl
  exact (h _).trans (State.requestPos_keepsQueues true _)

/-- A wake begins with an empty queue and voices IDLE (R199). -/
theorem State.wake_keepsQueues (r : WakeReason) (s : State) : s.KeepsQueues (s.wake r) := by
  refine State.KeepsQueues.trans ?_ (State.netBegins_keepsQueues _)
  exact State.keepsQueues_of_fresh rfl s.spe.bounded_park

theorem State.carrierFalls_keepsQueues (s : State) : s.KeepsQueues s.carrierFalls := by
  simp only [State.carrierFalls]
  split
  · exact State.keepsQueues_of_same (Ni.measure_queue ..) rfl
  · exact .refl s

theorem State.receive_keepsQueues (f : Frame) (s : State) : s.KeepsQueues (s.receive f) := by
  have h := s.carrierFalls_keepsQueues
  simp only [State.receive, State.examine]
  split
  · split
    · exact h.trans (State.wake_keepsQueues ..)
    · exact h
  · split
    · have hn := h.trans (State.netHeard_keepsQueues _)
      simp only [State.handleFrame]
      split
      · exact (hn.trans (State.deliver_keepsQueues ..)).trans (State.afterSlots_keepsQueues ..)
      · exact (hn.trans (State.deliverForeign_keepsQueues ..)).trans (State.afterSlots_keepsQueues ..)
    · exact h

theorem State.receiveBytes_keepsQueues (bytes : List Byte) (s : State) : s.KeepsQueues (s.receiveBytes bytes) := by
  simp only [State.receiveBytes]
  split
  · exact s.receive_keepsQueues _
  · exact s.carrierFalls_keepsQueues

/-- A sent head leaves the others in their order (R34). -/
theorem State.transmit_keepsQueues (dt : Nat) (s : State) : s.KeepsQueues (s.transmit dt) := by
  simp only [State.transmit]
  split
  · next f rest _ hq _ =>
    refine State.keepsQueues_of_ok (fun h => ?_) (by simp [State.elapseTo])
    have hsent (u : State) : (u.sendHead f rest).ni.queue = rest := by
      simp only [State.sendHead, State.reportSent_frame]
      rfl
    rw [hsent]
    rw [hq] at h
    exact h.sublist (List.sublist_cons_self ..)
  · exact State.keepsQueues_of_same rfl rfl
  · exact State.keepsQueues_of_same rfl rfl

/-! ### Starts, the load and the periods keep the queues -/

theorem Spe.bounded_start : Spe.start.Bounded := fun i => by
  simp only [Spe.voice]
  (repeat' split) <;> simp [Spe.start, Voice.start]

theorem State.pinStart_keepsQueues (s : State) : s.KeepsQueues s.pinStart :=
  State.keepsQueues_of_fresh rfl Spe.bounded_start

theorem State.loadEnds_keepsQueues (memory : List Byte) (s : State) : s.KeepsQueues (s.loadEnds memory) := by
  simp only [State.loadEnds, State.endLoad]
  split
  · split
    · refine State.KeepsQueues.trans ?_ (State.netBegins_keepsQueues _)
      exact State.keepsQueues_of_same rfl rfl
    · exact State.keepsQueues_of_same (by simp) (by simp)
  · exact .refl s

theorem State.regain_keepsQueues (g : GuideState) (s : State) : s.KeepsQueues (s.regain g) := by
  simp only [State.regain]
  split
  · exact (s.setDsc_keepsQueues _).trans (State.withdraw_keepsQueues ..)
  · exact .refl s

theorem State.guideStep_keepsQueues (coils : Coils) (s : State) : s.KeepsQueues (s.guideStep coils) := by
  have h : s.KeepsQueues s.readFeedforward := State.keepsQueues_of_same (by simp) (by simp)
  exact (h.trans (State.setDsc_keepsQueues ..)).trans (State.regain_keepsQueues ..)

theorem State.controlPeriod_keepsQueues (coils : Coils) (s : State) : s.KeepsQueues (s.controlPeriod coils) := by
  have h1 : s.KeepsQueues s.restartPeriod.closeCount := State.keepsQueues_of_same (by simp) (by simp)
  have hc (u : State) : u.KeepsQueues u.computeAuthority := by
    refine State.KeepsQueues.trans ?_ (State.pin_keepsQueues .ahead _ _)
    exact State.keepsQueues_of_same rfl rfl
  have hm (u : State) : u.KeepsQueues u.setCommand := u.setDsc_keepsQueues _
  exact (((((h1.trans (hc _)).trans (State.periodTransition_keepsQueues _)).trans (hm _)).trans
    (State.guideStep_keepsQueues coils _)).trans (State.actOnRelease_keepsQueues _)).trans (State.afterSlots_keepsQueues ..)

theorem State.seatSample_keepsQueues (raw : List SeatInput) (s : State) : s.KeepsQueues (s.seatSample raw) := by
  have h : s.KeepsQueues (s.sampled raw) := s.setRm_keepsQueues _
  simp only [State.seatSample]
  split
  · split
    · exact h
    · exact h.trans (State.wake_keepsQueues ..)
  · exact h.trans (State.seatChanges_keepsQueues ..)

theorem State.soundPeriod_keepsQueues (s : State) : s.KeepsQueues s.soundPeriod := by
  simp only [State.soundPeriod]
  split
  · exact State.keepsQueues_of_bounded rfl fun h => h.samplePeriod _ _
  · exact State.keepsQueues_of_bounded rfl fun h => h

theorem State.netSilent_keepsQueues (s : State) : s.KeepsQueues s.netSilent := by
  have h : s.KeepsQueues (s.setNi { s.ni with silence := none }) := State.keepsQueues_of_same rfl rfl
  exact h.trans (State.raise_keepsQueues ..)

/-! ### The service link keeps the queues -/

theorem State.setCfs_keepsQueues (c : Cfs) (s : State) : s.KeepsQueues (s.setCfs c) := State.keepsQueues_of_same rfl rfl

theorem State.serve_keepsQueues {act : State → State × Reply} (h : ∀ s : State, s.KeepsQueues (act s).1) (s : State) :
    s.KeepsQueues (s.serve act) := by
  simp only [State.serve]
  split
  · exact (h s).trans (State.setCfs_keepsQueues ..)
  · exact .refl s

theorem State.awake_keepsQueues (s : State) : s.KeepsQueues s.awake := by
  simp only [State.awake]
  split
  · exact s.wake_keepsQueues _
  · exact .refl s

theorem serviceStop_keepsQueues (on : Bool) (s : State) : s.KeepsQueues (serviceStop on s).1 := by
  simp only [serviceStop]
  split
  · exact .refl s
  · split
    · exact s.awake_keepsQueues.trans (State.raise_keepsQueues ..)
    · exact s.awake_keepsQueues.trans (State.withdraw_keepsQueues ..)

theorem parkCommand_keepsQueues (s : State) : s.KeepsQueues (parkCommand s).1 := by
  simp only [parkCommand]
  split
  · exact s.parkAll_keepsQueues
  · exact .refl s

theorem restartCommand_keepsQueues (s : State) : s.KeepsQueues (restartCommand s).1 := by
  simp only [restartCommand]
  split
  · exact .refl s
  · exact s.setCfs_keepsQueues _

theorem testClipCommand_keepsQueues (clip : Nat) (s : State) : s.KeepsQueues (testClipCommand clip s).1 := by
  simp only [testClipCommand]
  split
  · exact .refl s
  · split
    · exact .refl s
    · exact s.awake_keepsQueues.trans (State.play_keepsQueues ..)

theorem ServiceCommand.act_keepsQueues (c : ServiceCommand) (s : State) : s.KeepsQueues (c.act s).1 := by
  cases c with
  | clearIncidents => exact s.setStc_keepsQueues _
  | stopOn => exact serviceStop_keepsQueues true s
  | stopOff => exact serviceStop_keepsQueues false s
  | park => exact parkCommand_keepsQueues s
  | restart => exact restartCommand_keepsQueues s
  | testClip clip => exact testClipCommand_keepsQueues clip s
  | _ => exact .refl s

theorem actLine_keepsQueues (line : String) (s : State) : s.KeepsQueues (actLine line s).1 := by
  simp only [actLine]
  split
  · exact ServiceCommand.act_keepsQueues _ s
  · exact .refl s

theorem State.replySent_keepsQueues (s : State) : s.KeepsQueues s.replySent := by
  simp only [State.replySent]
  split
  · split
    · exact s.pinStart_keepsQueues
    · exact s.setCfs_keepsQueues _
  · exact .refl s

/-! ### Every command keeps the queues -/

theorem State.ifPowered_keepsQueues {act : State → State} (h : ∀ s : State, s.KeepsQueues (act s)) (s : State) :
    s.KeepsQueues (s.ifPowered act) := by
  simp only [State.ifPowered]
  split
  · exact h s
  · exact .refl s

theorem State.elapse_keepsQueues (dt : Nat) (s : State) : s.KeepsQueues (s.elapse dt) :=
  State.keepsQueues_of_same rfl rfl

theorem State.onExpiry_keepsQueues (dt : Nat) (x : Timer) {act : State → State} (h : ∀ s : State, s.KeepsQueues (act s))
    (s : State) : s.KeepsQueues (s.onExpiry dt x act) := by
  have hn (n : Nat) : s.KeepsQueues (s.setNow n) := State.keepsQueues_of_same rfl rfl
  simp only [State.onExpiry]
  split
  · exact (hn _).trans (h _)
  · exact s.elapse_keepsQueues dt

theorem exec_keepsQueues {s t : State} (c : Instr) (h : exec c s = .next t) : s.KeepsQueues t := by
  have e (dt : Nat) {f : State → State} (hf : ∀ u : State, u.KeepsQueues (f u)) : s.KeepsQueues (f (s.elapse dt)) :=
    (s.elapse_keepsQueues dt).trans (hf _)
  have slots {f : State → State} (hf : ∀ u : State, u.KeepsQueues (f u)) (u : State) :
      u.KeepsQueues ((f u).afterSlots u.scu) := (hf u).trans (State.afterSlots_keepsQueues ..)
  cases c <;> cases h
  case powerOn | powerLoss => exact State.keepsQueues_of_fresh rfl Spe.bounded_start
  case resetInput dt => exact e dt (State.ifPowered_keepsQueues State.pinStart_keepsQueues)
  case loadEnd dt memory => exact e dt (State.loadEnds_keepsQueues memory)
  case candidateDiscarded dt bytes => exact e dt (State.receiveBytes_keepsQueues bytes)
  case carrierBusy dt => exact e dt (State.ifPowered_keepsQueues fun u => State.keepsQueues_of_same rfl rfl)
  case frameTransmit dt => exact s.transmit_keepsQueues dt
  case posPeriodTimerExpiry dt => exact s.onExpiry_keepsQueues dt _ (State.requestPos_keepsQueues false)
  case netSilenceTimerExpiry dt => exact s.onExpiry_keepsQueues dt _ State.netSilent_keepsQueues
  case staleTime dt station => exact s.onExpiry_keepsQueues dt _ (slots (State.staleNow_keepsQueues station))
  case dropTime dt station => exact s.onExpiry_keepsQueues dt _ (slots (State.dropNow_keepsQueues station))
  case claimWindowExpiry dt k => exact s.onExpiry_keepsQueues dt _ (slots (State.windowExpired_keepsQueues k))
  case odometerPulse dt =>
    refine e dt (f := fun u => if u.active then u.pulse else u) fun u => ?_
    split
    · exact u.pulse_keepsQueues
    · exact .refl u
  case markerRead dt id => exact e dt (State.markerHeard_keepsQueues id)
  case dwellTimerExpiry dt => exact s.onExpiry_keepsQueues dt _ State.dwellOver_keepsQueues
  case controlPeriodExpiry dt coils => exact s.onExpiry_keepsQueues dt _ (State.controlPeriod_keepsQueues coils)
  case sampleTimerExpiry dt raw => exact s.onExpiry_keepsQueues dt _ (State.seatSample_keepsQueues raw)
  case confirmTimerExpiry dt seat => exact s.onExpiry_keepsQueues dt _ (State.confirmed_keepsQueues _)
  case contradictionTimerExpiry dt seat => exact s.onExpiry_keepsQueues dt _ (State.contradicted_keepsQueues _)
  case pendingTimerExpiry dt => exact s.onExpiry_keepsQueues dt _ State.pendingDue_keepsQueues
  case cueTimeout dt ref => exact s.onExpiry_keepsQueues dt _ (State.cueTimedOut_keepsQueues ref)
  case lateWindowExpiry dt ref => exact s.onExpiry_keepsQueues dt _ (State.lateOver_keepsQueues ref)
  case referenceSilent dt =>
    exact s.onExpiry_keepsQueues dt _ fun u => State.keepsQueues_of_same (by simp) (by simp)
  case samplePeriod dt => exact e dt State.soundPeriod_keepsQueues
  case transferCompletion dt samples =>
    exact e dt (State.ifPowered_keepsQueues fun u => State.keepsQueues_of_bounded rfl fun h => h.complete _ _)
  case clearIncidents dt => exact e dt (State.serve_keepsQueues fun u => u.setStc_keepsQueues _)
  case serviceStopOn dt => exact e dt (State.serve_keepsQueues (serviceStop_keepsQueues true))
  case serviceStopOff dt => exact e dt (State.serve_keepsQueues (serviceStop_keepsQueues false))
  case park dt => exact e dt (State.serve_keepsQueues parkCommand_keepsQueues)
  case restart dt => exact e dt (State.serve_keepsQueues restartCommand_keepsQueues)
  case testClip dt clip => exact e dt (State.serve_keepsQueues (testClipCommand_keepsQueues clip))
  case unknownCommand dt line => exact e dt (State.serve_keepsQueues (actLine_keepsQueues line))
  case serviceReplySent dt => exact e dt State.replySent_keepsQueues
  case status dt | readRoute dt | readPeers dt | readSeats dt | readScenes dt | readVoices dt | readClock dt
    | readIncidents dt => exact e dt (State.serve_keepsQueues .refl)
  case posFrame dt _ _ | stopFrame dt _ _ _ | resumeFrame dt _ | claimFrame dt _ _ | freeFrame dt _ _
    | cueFrame dt _ _ | cuestFrame dt _ _ | syncFrame dt _ _ _ | grantUnlock dt _ _ | grantLock dt _ _
    | grantDispatch dt _ _ | grantPark dt _ _ | grantWake dt _ _ | fixFrame dt _ _ _ _ | clearFrame dt _ _ =>
    exact e dt (State.receive_keepsQueues _)

end Sys2Proof.Machine

open Sys2Proof.Machine in
/-- Settles O58: no operation makes the transmit queue or a play queue unsound, so no command does. -/
theorem queuesStaySound : Obligations.QueuesStaySound :=
  ⟨fun _ _ h hst => step_keeps (P := State.QueueSound) (fun _ _ h => h)
      (fun c _ _ h he => (exec_keepsQueues c he).queue h) h hst,
    fun _ _ h hst => step_keeps (P := State.VoicesSound) (fun _ _ h => h)
      (fun c _ _ h he => (exec_keepsQueues c he).voices h) h hst⟩

namespace Sys2Proof.Machine

/-! ### Idle measurements (R34, R35) -/

/-- A busy carrier leaves no idle time to measure (R35). -/
theorem Ni.measure_of_busy {n : Ni} (h : n.carrierBusy = true) (now : Nat) :
    (n.measure now).idleFrom = n.idleFrom ∧ (n.measure now).gen = n.gen ∧ (n.measure now).q = n.q := by
  simp [Ni.measure, h]

/-- With frames waiting and the carrier idle a measurement begins with a draw (R34). -/
theorem Ni.measure_begins {n : Ni} (hi : n.idleFrom = none) (hc : n.carrierBusy = false) (hq : n.queue ≠ [])
    (now : Nat) : (n.measure now).idleFrom = some now ∧ (n.measure now).gen = nextGen n.gen
      ∧ (n.measure now).q = nextGen n.gen / 4096 := by
  simp [Ni.measure, hi, hc, hq]

theorem Ni.measure_rest (now : Nat) (n : Ni) : (n.measure now).carrierBusy = n.carrierBusy
    ∧ (n.measure now).sending = n.sending ∧ (n.measure now).posTimer = n.posTimer
    ∧ (n.measure now).silence = n.silence := by
  simp only [Ni.measure]
  split <;> exact ⟨rfl, rfl, rfl, rfl⟩

/-- What a POS request leaves of the NI. -/
theorem State.requestPos_net (urgent : Bool) (s : State) :
    (s.requestPos urgent).ni.posTimer = some (s.ms + s.cfg.opt.posPeriod)
      ∧ (s.requestPos urgent).ni.silence = s.ni.silence ∧ (s.requestPos urgent).ni.sending = s.ni.sending
      ∧ (s.requestPos urgent).ni.carrierBusy = s.ni.carrierBusy := by
  obtain ⟨hbusy, hsending, -, hsilence⟩ := Ni.measure_rest s.now { s.ni with queue := joinPos urgent s.ni.queue }
  exact ⟨rfl, hsilence, hsending, hbusy⟩

/-! ### The NI begins (R42) -/

/-- The NI as a start of its timers finds it, the net-silence timer set. -/
def Ni.listening (silence : Nat) (n : Ni) : Ni := { n with silence := some silence }

theorem State.netBegins_eq (s : State) :
    s.netBegins = (s.setNi (s.ni.listening (s.ms + s.cfg.opt.netSilence))).requestPos true := rfl

/-- The NI begins with both timers running and a class C POS request (R42). -/
theorem State.netBegins_net (s : State) :
    s.netBegins.ni.silence = some (s.ms + s.cfg.opt.netSilence)
      ∧ s.netBegins.ni.posTimer = some (s.ms + s.cfg.opt.posPeriod)
      ∧ s.netBegins.ni.carrierBusy = s.ni.carrierBusy ∧ s.netBegins.ni.sending = s.ni.sending
      ∧ s.netBegins.ni.queue = joinPos true s.ni.queue := by
  obtain ⟨hpos, hsilence, hsending, hbusy⟩ :=
    State.requestPos_net true (s.setNi (s.ni.listening (s.ms + s.cfg.opt.netSilence)))
  exact ⟨hsilence, hpos, hbusy, hsending, State.requestPos_queue ..⟩

theorem joinPos_of_empty (urgent : Bool) : joinPos urgent [] = [.pos urgent] := rfl

theorem State.netBegins_measure_idle {s : State} (hq : s.ni.queue = []) (hi : s.ni.idleFrom = none)
    (hc : s.ni.carrierBusy = false) : s.netBegins.ni.idleFrom = some s.now
      ∧ s.netBegins.ni.gen = nextGen s.ni.gen ∧ s.netBegins.ni.q = nextGen s.ni.gen / 4096 :=
  Ni.measure_begins (n := { s.ni.listening (s.ms + s.cfg.opt.netSilence) with queue := joinPos true s.ni.queue })
    hi hc (by rw [hq]; simp [joinPos_of_empty]) s.now

theorem State.netBegins_measure_busy {s : State} (hc : s.ni.carrierBusy = true) :
    s.netBegins.ni.idleFrom = s.ni.idleFrom ∧ s.netBegins.ni.gen = s.ni.gen ∧ s.netBegins.ni.q = s.ni.q :=
  Ni.measure_of_busy (n := { s.ni.listening (s.ms + s.cfg.opt.netSilence) with queue := joinPos true s.ni.queue })
    hc s.now

@[simp] theorem Sck.begins_reading (now : Nat) : (Sck.begins now).readingAt now = 0 := by
  simp [Sck.readingAt, Sck.begins, Sck.start]

/-! ### The end of a load (R194) -/

/-- The state in which the NI begins at READY: the other blocks have taken up their configuration (R194). -/
def State.configured (c : Configuration) (s : State) : State := { s with
  cfg := c
  cfs := { s.cfs with load := .ready }
  ni := { s.ni with gen := c.opt.station }
  dsc := { s.dsc with timer := some (s.ms + 10) }
  rm := { s.rm with seats := freshSeats c.opt.seatCount, timer := some (s.ms + 5) }
  sck := Sck.begins s.now }

theorem State.ready_eq (c : Configuration) (s : State) : s.ready c = (s.configured c).netBegins := rfl

theorem exec_loadEnd_ready {s : State} {memory : List Byte} {c : Configuration} (hp : s.powered = true)
    (hl : s.cfs.load = .loading) (hm : loadImage memory = .ok c) (dt : Nat) :
    exec (.loadEnd dt memory) s = .next ((s.elapse dt).ready c) := by
  have he : (s.elapse dt).loadEnds memory = (s.elapse dt).endLoad memory := if_pos ⟨hp, hl⟩
  have hr : (s.elapse dt).endLoad memory = (s.elapse dt).ready c := by simp only [State.endLoad, hm]
  exact congrArg Host.Outcome.next (he.trans hr)

end Sys2Proof.Machine

open Sys2Proof.Machine in
/-- Settles O7: the blocks take up the configuration, and then the NI begins with its request. -/
theorem loadEndsReady : Obligations.LoadEndsReady := by
  unfold Obligations.LoadEndsReady
  intro dt memory c s hp hl hm
  refine ⟨_, exec_loadEnd_ready hp hl hm dt, ?_⟩
  rw [State.ready_eq]
  have hidle := State.netBegins_measure_idle (s := (s.elapse dt).configured c)
  have hbusy := State.netBegins_measure_busy (s := (s.elapse dt).configured c)
  obtain ⟨hsilence, hpos, hcarrier, hsending, hqueue⟩ := ((s.elapse dt).configured c).netBegins_net
  refine ⟨rfl, rfl, rfl, fun hq hi => ?_, fun hq hi hc => ?_, fun hc => ?_, hcarrier, hsending, hsilence, hpos,
    fun hq => ?_, rfl, rfl, rfl, rfl, rfl, rfl, ?_, rfl, rfl, rfl, rfl, rfl, rfl, hp, rfl, rfl⟩
  · split
    · next hc =>
      obtain ⟨-, hgen, -⟩ := hbusy hc
      exact hgen
    · next hc =>
      obtain ⟨-, hgen, -⟩ := hidle hq hi (eq_false_of_ne_true hc)
      exact hgen
  · obtain ⟨hfrom, -, hdraw⟩ := hidle hq hi hc
    exact ⟨hfrom, hdraw⟩
  · obtain ⟨hfrom, -, hdraw⟩ := hbusy hc
    exact ⟨hfrom, hdraw⟩
  · rw [hqueue]
    exact congrArg (joinPos true) hq
  · exact Sck.begins_reading (s.now + dt)

namespace Sys2Proof.Machine

/-! ### Channel access (R34, R35, R38, R39) -/

theorem gapOf_eq (station q : Nat) (f : Waiting) : gapOf station q f = match f with
    | .stop _ _ => 100
    | .claim _ => 300 + station % 16 * 25
    | .free _ => 300 + station % 16 * 25
    | .cue _ _ => 300 + station % 16 * 25
    | .pos true => 300 + station % 16 * 25
    | .pos false => 800 + q * 25 := by
  cases f with
  | pos urgent => cases urgent <;> rfl
  | _ => rfl

/-- The head of the queue, with a measurement running, is sent at the gap of its class (R34). -/
theorem State.transmit_of_head {s : State} {f : Waiting} {rest : List Waiting} {start : Nat}
    (hq : s.ni.queue = f :: rest) (hi : s.ni.idleFrom = some start) (dt : Nat) :
    s.transmit dt = (s.elapseTo dt (start + gapOf s.cfg.opt.station s.ni.q f)).sendHead f rest := by
  simp only [State.transmit, hq, hi]

theorem State.reportSent_of_other {f : Waiting} (h : ∀ b ref, f ≠ .cue b ref) (s : State) : s.reportSent f = s := by
  cases f with
  | cue b ref => exact absurd rfl (h b ref)
  | _ => rfl

theorem State.reportSent_slots (f : Waiting) (s : State) : (s.reportSent f).scu.slot1 = s.scu.slot1
    ∧ (s.reportSent f).scu.slot2 = s.scu.slot2 ∧ (s.reportSent f).scu.chain = s.scu.chain := by
  cases f <;> exact ⟨rfl, rfl, rfl⟩

/-- The NI with its head in transmission (R26, R35). -/
def State.headSent (f : Waiting) (rest : List Waiting) (s : State) : State :=
  s.setNi { s.ni with queue := rest, sending := some (s.bytesOf f), carrierBusy := true, idleFrom := none }

theorem State.sendHead_eq (f : Waiting) (rest : List Waiting) (s : State) :
    s.sendHead f rest = (s.headSent f rest).reportSent f := rfl

end Sys2Proof.Machine

open Sys2Proof.Machine in
/-- Settles O28: the head leaves with the content of its moment, and the report goes to the tracker record of a CUE. -/
theorem headIsSentAtItsGap : Obligations.HeadIsSentAtItsGap := by
  unfold Obligations.HeadIsSentAtItsGap
  refine ⟨fun dt f rest start s hq hi => ?_, fun dt s hp => ?_⟩
  · refine ⟨_, congrArg Host.Outcome.next (State.transmit_of_head hq hi dt), ?_⟩
    rw [State.sendHead_eq, gapOf_eq]
    generalize hu : (s.elapseTo dt _).headSent f rest = u
    obtain ⟨-, hnow, -, hcfg, hcfs, hni, hptb, hsau, hdsc, hrm, hrsq, hsck, hspe, hstc, hpending⟩ :=
      State.reportSent_frame f u
    obtain ⟨h1, h2, hchain⟩ := State.reportSent_slots f u
    have hscu : (∀ b ref, f ≠ .cue b ref) → (u.reportSent f).scu = u.scu := fun h => by
      rw [State.reportSent_of_other h]
    subst hu
    refine ⟨hnow, hni.trans ?_, ?_, hscu, h1, h2, hchain, hptb, hdsc, hsau, hrsq, hrm, hsck, hspe, hstc, hcfg, hcfs,
      hpending⟩
    · cases f <;> rfl
    · rintro b ref rfl
      rfl
  · exact congrArg Host.Outcome.next (if_pos hp)

namespace Sys2Proof.Machine

/-! ### What a rise of the latch does to the NI and the RM -/

/-- What a change of the motion state keeps of NI and RM a rise of the latch keeps at the DSC (R88, R89). -/
theorem State.driveRise_keeps {Q : Ni → Rm → Prop}
    (hQ : ∀ (m : Motion) (u : State), Q u.ni u.rm → Q (u.setMotion m).ni (u.setMotion m).rm) (level : Nat) {s : State}
    (h : Q s.ni s.rm) : Q (s.driveRise level).ni (s.driveRise level).rm := by
  have held (u : State) (hu : Q u.ni u.rm) : Q u.enterHeld.ni u.enterHeld.rm := by
    simp only [State.enterHeld]
    split
    · exact hQ _ _ (hQ _ _ hu)
    · simpa using hQ .held u hu
  simp only [State.driveRise]
  split
  case h_1 =>
    split
    · exact hQ _ _ h
    · split
      · exact held _ (hQ _ _ h)
      · exact hQ _ _ h
  case h_2 => split <;> exact hQ _ _ h
  case h_3 =>
    split
    · exact hQ _ _ h
    · exact h
  all_goals exact h

theorem State.raiseLatch_keeps {Q : Ni → Rm → Prop}
    (hQ : ∀ (m : Motion) (u : State), Q u.ni u.rm → Q (u.setMotion m).ni (u.setMotion m).rm) (level : Nat)
    (cause : StopCause) (origin : Nat) {s : State} (h : Q s.ni s.rm) :
    Q (s.raiseLatch level cause origin).ni (s.raiseLatch level cause origin).rm := by
  simp only [State.raiseLatch]
  split
  · simp only [State.notifyRise, State.setSpe_ni, State.setSpe_rm, State.abandonChain_frame]
    exact State.driveRise_keeps hQ level (by simpa using h)
  · exact h

/-- Above latch 0 a chain issues nothing: a word whose trigger is met waits with STOPPED (R135). -/
theorem State.runChain_ni_of_latched {s : State} (h : 0 < s.stc.latch) (n : Nat) (met : Bool) :
    (s.runChain n met).ni = s.ni := by
  cases n with
  | zero => rfl
  | succ n =>
    simp only [State.runChain, h, if_true]
    split
    · rfl
    · split
      · simp
      · split <;> rfl

theorem State.reportDropped_ni_of_latched {s : State} (h : 0 < s.stc.latch) (f : Option Waiting) :
    (s.reportDropped f).ni = s.ni := by
  have hr (u : Scu) (n : Nat) (met : Bool) : ((s.setScu u).runChain n met).ni = s.ni :=
    State.runChain_ni_of_latched (s := s.setScu u) h n met
  simp only [State.reportDropped]
  split
  · simp only [State.recordFreed]
    split
    · simp only [State.retryChain]
      split
      · exact hr ..
      · rfl
    · simp only [State.testChain]
      split
      · exact hr ..
      · rfl
  · rfl

theorem Cause.level_pos (c : Cause) : 0 < c.level := by cases c <;> decide

/-- A rise of the asserted level leaves of NI and RM what its frame, its POS requests and the DSC leave (R182). -/
theorem State.levelRises_keeps {Q : Ni → Rm → Prop}
    (hQ : ∀ (m : Motion) (u : State), Q u.ni u.rm → Q (u.setMotion m).ni (u.setMotion m).rm) (c : Cause) {s : State}
    (h : Q ((s.putFrame (.stop c.level c.code)).1.requestPos true).ni s.rm) :
    Q (s.levelRises c).ni (s.levelRises c).rm := by
  simp only [State.levelRises]
  rw [State.reportDropped_ni_of_latched]
  · simp only [State.reportDropped_frame]
    exact State.raiseLatch_keeps hQ _ _ _ (by simpa using h)
  · rw [(State.raiseLatch_stc ..).2]
    exact Nat.lt_of_lt_of_le c.level_pos (Nat.le_max_right ..)

theorem State.setMotion_rm (m : Motion) (s : State) :
    (s.setMotion m).rm.vehicle = s.rm.vehicle ∧ (s.setMotion m).rm.seats = s.rm.seats := by
  simp [State.setMotion, State.evalRelease]

theorem State.setMotion_silence (m : Motion) (s : State) : (s.setMotion m).ni.silence = s.ni.silence := by
  simp only [State.setMotion, State.evalRelease_frame]
  exact (State.requestPos_net ..).2.1

/-- A raising moves neither the restraints nor the net-silence timer. -/
theorem State.raise_rm_silence (c : Cause) (s : State) : (s.raise c).rm.vehicle = s.rm.vehicle
    ∧ (s.raise c).rm.seats = s.rm.seats ∧ (s.raise c).ni.silence = s.ni.silence := by
  rw [State.raise_eq]
  split
  · split
    · refine State.levelRises_keeps (Q := fun n m => m.vehicle = s.rm.vehicle ∧ m.seats = s.rm.seats
        ∧ n.silence = s.ni.silence) (fun m u hu => ?_) c ⟨rfl, rfl, ?_⟩
      · obtain ⟨hv, hk, hs⟩ := hu
        obtain ⟨mv, mk⟩ := u.setMotion_rm m
        exact ⟨mv.trans hv, mk.trans hk, (u.setMotion_silence m).trans hs⟩
      · have hp : ((s.joined c).putFrame (.stop c.level c.code)).1.ni.silence = s.ni.silence :=
          (Ni.measure_rest ..).2.2.2
        exact (State.requestPos_net ..).2.1.trans hp
    · exact ⟨rfl, rfl, rfl⟩
  · exact ⟨rfl, rfl, rfl⟩

/-! ### The record of a raising (R188, R189) -/

theorem State.raiseLatch_records (level : Nat) (cause : StopCause) (origin : Nat) (s : State) :
    (s.raiseLatch level cause origin).stc.incidents = s.stc.incidents
      ∧ (s.raiseLatch level cause origin).stc.nextSeq = s.stc.nextSeq := by
  simp only [State.raiseLatch]
  split <;> simp

/-- A raising of a cause that is not active appends the cause and its record (R182, R188). -/
theorem State.raise_stc_new {s : State} {c : Cause} (ha : s.active = true) (hc : c ∉ s.stc.causes) :
    (s.raise c).stc.causes = s.stc.causes ++ [c] ∧ (s.raise c).stc.nextSeq = (s.stc.nextSeq + 1) % 65536
      ∧ (s.raise c).stc.incidents = (if s.stc.incidents.length < 16 then s.stc.incidents else s.stc.incidents.drop 1)
        ++ [s.incidentNow (.local_ c) c.level s.cfg.opt.station] := by
  have hj : (s.joined c).stc.causes = s.stc.causes ++ [c] ∧ (s.joined c).stc.nextSeq = (s.stc.nextSeq + 1) % 65536
      ∧ (s.joined c).stc.incidents = (if s.stc.incidents.length < 16 then s.stc.incidents
        else s.stc.incidents.drop 1) ++ [s.incidentNow (.local_ c) c.level s.cfg.opt.station] := ⟨rfl, rfl, rfl⟩
  rw [State.raise_eq, if_pos ⟨ha, hc⟩]
  split
  · simpa [State.levelRises, State.raiseLatch_stc, State.raiseLatch_records] using hj
  · exact hj

/-! ### The timers of the NI (R40, R41) -/

theorem Waiting.rank_le (f : Waiting) : f.rank ≤ 2 := by
  cases f with
  | pos urgent => cases urgent <;> decide
  | _ => exact Nat.le_succ_of_le (by simp [Waiting.rank])

/-- A frame of the lowest class joins at the end of the queue (R36). -/
theorem insertFrame_last {f : Waiting} (hf : f.rank = 2) (q : List Waiting) : insertFrame f q = q ++ [f] := by
  induction q with
  | nil => rfl
  | cons x xs ih =>
    have hx : x.rank ≤ f.rank := hf ▸ x.rank_le
    simp [insertFrame, hx, ih]

theorem joinPos_of_none {q : List Waiting} (urgent : Bool) (h : ∀ w ∈ q, w.isPos = false) (hl : q.length < 6) :
    joinPos urgent q = insertFrame (.pos urgent) q := by
  have hany : q.any Waiting.isPos = false := by simpa using h
  simp [joinPos, hany, joinQueue, hl]

theorem joinPos_of_standing {q : List Waiting} (h : ∃ w ∈ q, w.isPos = true) : joinPos false q = q := by
  have hany : q.any Waiting.isPos = true := by simpa using h
  simp [joinPos, hany]

theorem exec_netSilenceTimerExpiry {s : State} {d : Nat} (h : s.ni.silence = some d) (dt : Nat) :
    exec (.netSilenceTimerExpiry dt) s
      = .next (((s.elapseTo dt (d * 1000)).setNi { s.ni with silence := none }).raise .netSilent) := by
  simp only [exec, execNetSilenceTimerExpiry, State.onExpiry, h]
  rfl

/-- The queue of a vehicle that a first cause of level 1 stops, where nothing waited (R36, R182). -/
theorem State.setMotion_stopQueue {code : Nat} (m : Motion) {s : State} (h : s.ni.queue = [.stop 1 code, .pos true]) :
    (s.setMotion m).ni.queue = [.stop 1 code, .pos true] := by
  rw [State.setMotion_queue, h]
  rfl

/-- A first cause of level 1 sends a STOP and a class C POS where nothing waited (R182, R40). -/
theorem State.raise_queue_of_empty {s : State} {c : Cause} (ha : s.active = true) (hc : c ∉ s.stc.causes)
    (h0 : s.stc.asserted = 0) (hl : c.level = 1) (hq : s.ni.queue = []) :
    (s.raise c).ni.queue = [.stop 1 c.code, .pos true] := by
  rw [State.raise_eq, if_pos ⟨ha, hc⟩, if_pos (h0 ▸ c.level_pos)]
  refine State.levelRises_keeps (Q := fun n _ => n.queue = [.stop 1 c.code, .pos true])
    (fun m u hu => u.setMotion_stopQueue m hu) c ?_
  rw [State.requestPos_queue, State.putFrame_queue, hl]
  have hj : (s.joined c).ni.queue = [] := hq
  rw [hj]
  rfl

end Sys2Proof.Machine

open Sys2Proof.Machine in
/-- Settles O29: the request restarts the timer and joins the queue where no POS stands; the silence is a raising. -/
theorem netTimersRequestAPosAndRaiseTheSilence : Obligations.NetTimersRequestAPosAndRaiseTheSilence := by
  unfold Obligations.NetTimersRequestAPosAndRaiseTheSilence
  refine ⟨fun dt d s hd => ?_, fun dt d s ha hd hsound hn => ?_⟩
  · have hexec : exec (.posPeriodTimerExpiry dt) s = .next ((s.elapseTo dt (d * 1000)).requestPos false) := by
      simp only [exec, execPosPeriodTimerExpiry, State.onExpiry, hd]
    obtain ⟨hpos, hsilence, hsending, hbusy⟩ := (s.elapseTo dt (d * 1000)).requestPos_net false
    have hqueue : ((s.elapseTo dt (d * 1000)).requestPos false).ni.queue = joinPos false s.ni.queue :=
      State.requestPos_queue ..
    refine ⟨_, hexec, rfl, hpos, fun hw hlen => ?_, fun ⟨w, hw, hp⟩ => ?_, hsilence, hsending, hbusy, rfl⟩
    · rw [hqueue, joinPos_of_none false hw hlen]
      exact insertFrame_last rfl _
    · rw [hqueue]
      exact joinPos_of_standing ⟨w, hw, hp⟩
  · refine ⟨_, exec_netSilenceTimerExpiry hd dt, ?_⟩
    generalize hu : (s.elapseTo dt (d * 1000)).setNi { s.ni with silence := none } = u
    have hua : u.active = true := hu ▸ ha
    have hun : Cause.netSilent ∉ u.stc.causes := hu ▸ hn
    have hul : u.Latched := State.StopsSound.latched (hu ▸ hsound)
    obtain ⟨hcauses, hseq, hinc⟩ := State.raise_stc_new hua hun
    obtain ⟨hv, hk, hs⟩ := u.raise_rm_silence .netSilent
    obtain ⟨h1, h2⟩ := u.raise_sameSlots .netSilent
    obtain ⟨-, hnow, -, hcfg, hcfs, hptb, hsck, -⟩ := u.raise_frame .netSilent
    have hqueue := State.raise_queue_of_empty (s := u) (c := .netSilent) hua hun
    have hjoined : ¬ u.stc.asserted < Cause.netSilent.level → u.raise .netSilent = u.joined .netSilent := fun h => by
      rw [State.raise_eq, if_pos ⟨hua, hun⟩, if_neg h]
    have hlatch := hul.raise_latch hua .netSilent
    subst hu
    refine ⟨hnow, hs, hcauses, hlatch, hseq, ⟨_, by rw [hinc]; exact List.getLast?_concat, rfl, rfl, rfl, rfl, rfl⟩,
      fun h0 hq => hqueue h0 rfl hq, fun h0 => ?_, hptb, hsck, hv, hk, h1, h2, hcfg, hcfs⟩
    rw [hjoined fun h => h0 (Nat.lt_one_iff.mp h)]
    rfl

namespace Sys2Proof.Machine

/-! ### Numbers as bytes (R43) -/

theorem length_beBytes (w n : Nat) : (beBytes w n).length = w := by
  induction w with
  | zero => rfl
  | succ w ih => simp [beBytes, ih]

/-- The bytes of a number, read on top of those before it (R43). -/
theorem foldl_beBytes (w n acc : Nat) :
    (beBytes w n).foldl (fun a b => a * 256 + b.toNat) acc = acc * 256 ^ w + n % 256 ^ w := by
  induction w generalizing acc with
  | zero => simp [beBytes, Nat.mod_one]
  | succ w ih =>
    rw [beBytes, List.foldl_cons, ih, BitVec.toNat_ofNat]
    have hsplit : n % 256 ^ (w + 1) = n % 256 ^ w + 256 ^ w * (n / 256 ^ w % 256) := by
      rw [pow_succ, Nat.mod_mul]
    rw [hsplit]
    ring_nf

/-- A number that fits its bytes is read back (R43). -/
theorem beNat_beBytes {w n : Nat} (h : n < 256 ^ w) : beNat (beBytes w n) = n := by
  rw [beNat, foldl_beBytes, Nat.mod_eq_of_lt h, Nat.zero_mul, Nat.zero_add]

theorem beNat_two {n : Nat} (h : fits 16 n = true) :
    beNat [BitVec.ofNat 8 (n / 256 ^ 1), BitVec.ofNat 8 (n / 256 ^ 0)] = n :=
  beNat_beBytes (w := 2) (by simpa [fits] using h)

theorem beNat_three {n : Nat} (h : fits 24 n = true) :
    beNat [BitVec.ofNat 8 (n / 256 ^ 2), BitVec.ofNat 8 (n / 256 ^ 1), BitVec.ofNat 8 (n / 256 ^ 0)] = n :=
  beNat_beBytes (w := 3) (by simpa [fits] using h)

theorem beNat_four {n : Nat} (h : fits 32 n = true) :
    beNat [BitVec.ofNat 8 (n / 256 ^ 3), BitVec.ofNat 8 (n / 256 ^ 2), BitVec.ofNat 8 (n / 256 ^ 1),
      BitVec.ofNat 8 (n / 256 ^ 0)] = n :=
  beNat_beBytes (w := 4) (by simpa [fits] using h)

theorem byte_toNat {n : Nat} (h : n < 256) : (BitVec.ofNat 8 (n / 256 ^ 0)).toNat = n := by
  simp [Nat.mod_eq_of_lt h]

/-! ### Named values of the fields -/

theorem motionOf_code {m : Motion} (hp : m ≠ .parked) (hc : m ≠ .configFault) : motionOf (motionCode m) = some m := by
  cases m <;> first | rfl | contradiction

theorem restraintOf_code (r : Restraint) : restraintOf (restraintCode r) = some r := by cases r <;> rfl

theorem clockOf_code (k : ClockState) : clockOf (clockCode k) = some k := by cases k <;> rfl

theorem resultOf_code (r : CueResult) : resultOf (resultCode r) = some r := by cases r <;> rfl

theorem grantOf_code (g : GrantKind) : grantOf (grantCode g) = some g := by cases g <;> rfl

theorem motionCode_lt (m : Motion) : motionCode m < 256 := by cases m <;> decide

theorem restraintCode_lt (r : Restraint) : restraintCode r < 256 := by cases r <;> decide

theorem clockCode_lt (k : ClockState) : clockCode k < 256 := by cases k <;> decide

theorem resultCode_lt (r : CueResult) : resultCode r < 256 := by cases r <;> decide

theorem grantCode_lt (g : GrantKind) : grantCode g < 256 := by cases g <;> decide

theorem kindCode_lt (b : Body) : kindCode b < 256 := by cases b <;> exact Nat.lt_of_sub_eq_succ rfl

/-- The two scene bytes of a POS give its held scenes back (R44). -/
theorem heldOf_scenes {held : List Nat} (hl : held.length ≤ 2) (hs : held.all isScene = true) (hn : held.Nodup) :
    heldOf (sceneAt held 0) (sceneAt held 1) = some held ∧ sceneAt held 0 < 256 ∧ sceneAt held 1 < 256 := by
  match held, hl with
  | [], _ => exact ⟨rfl, by decide, by decide⟩
  | [x], _ =>
    have hx : 1 ≤ x ∧ x ≤ 63 := isScene_iff.mp (by simpa using hs)
    have h0 : x ≠ 0 := by omega
    exact ⟨by simp [heldOf, sceneAt, h0], by simp [sceneAt]; omega, by simp [sceneAt]⟩
  | [x, y], _ =>
    have hxy : isScene x = true ∧ isScene y = true := by simpa using hs
    have hx := isScene_iff.mp hxy.1
    have hy := isScene_iff.mp hxy.2
    have hx0 : x ≠ 0 := by omega
    have hy0 : y ≠ 0 := by omega
    have hne : x ≠ y := by simpa using hn
    exact ⟨by simp [heldOf, sceneAt, hx0, hy0, hne], by simp [sceneAt]; omega, by simp [sceneAt]; omega⟩

theorem optScene_getD {c : Option Nat} (h : ∀ x, c = some x → isScene x = true) :
    optScene (c.getD 0) = c ∧ c.getD 0 < 256 := by
  cases c with
  | none => exact ⟨rfl, by decide⟩
  | some x =>
    have hx := isScene_iff.mp (h x rfl)
    have h0 : x ≠ 0 := by omega
    exact ⟨by simp [optScene, h0], by simp only [Option.getD_some]; omega⟩

/-! ### Bodies (Tables 2-5 to 2-9) -/

theorem bodyLength_kindCode (b : Body) : bodyLength (kindCode b) = some (encodeBody b).length := by
  have hopt (w : Nat) (x : Option Nat) : (optField w x).length = w + 1 := by
    cases x <;> simp [optField, length_beBytes]
  cases b <;> simp only [encodeBody, List.length_append, length_beBytes, hopt] <;> rfl

section
variable (a b c d e f g h : Byte)

theorem decodeBody_stop : decodeBody 2 [a, b] = some (.stop a.toNat b.toNat) := rfl
theorem decodeBody_claim : decodeBody 4 [a] = some (.claim a.toNat) := rfl
theorem decodeBody_free : decodeBody 5 [a] = some (.free a.toNat) := rfl
theorem decodeBody_cue : decodeBody 6 [a, b, c, d, e, f, g, h]
    = some (.cue ⟨a.toNat, b.toNat, beNat [c, d], beNat [e, f, g, h]⟩) := rfl
theorem decodeBody_cuest : decodeBody 7 [a, b, c, d, e, f, g, h] = (resultOf c.toNat).bind fun result =>
    (presence d (beNat [e, f, g, h])).bind fun start => some (.cuest ⟨a.toNat, b.toNat, result, start⟩) := rfl
theorem decodeBody_sync : decodeBody 8 [a, b, c, d, e] = some (.sync (beNat [a, b, c, d]) e.toNat) := rfl
theorem decodeBody_grant : decodeBody 9 [a, b] = (grantOf b.toNat).bind fun kind => some (.grant a.toNat kind) := rfl
theorem decodeBody_fix : decodeBody 10 [a, b, c, d] = some (.fix a.toNat b.toNat (beNat [c, d])) := rfl
theorem decodeBody_clear : decodeBody 11 [a] = some (.clear a.toNat) := rfl

end

theorem decodeBody_pos (p o2 o1 o0 lane entry v1 v0 m r a h1 h2 c k : Byte) :
    decodeBody 1 [p, o2, o1, o0, lane, entry, v1, v0, m, r, a, h1, h2, c, k]
      = (presence p (beNat [o2, o1, o0])).bind fun ordinate => (motionOf m.toNat).bind fun motion =>
        (restraintOf r.toNat).bind fun restraint => (heldOf h1.toNat h2.toNat).bind fun held =>
        (clockOf k.toNat).bind fun clock => some (.pos ⟨ordinate, lane.toNat, entry.toNat, beNat [v1, v0], motion,
          restraint, a.toNat, held, optScene c.toNat, clock⟩) := rfl

/-- The presence byte and the field of an absent or present ordinate (R43). -/
theorem presence_ordinate {o : Option Nat} (h : ∀ x, o = some x → fits 24 x = true) :
    ∃ p o2 o1 o0, optField 3 o = [p, o2, o1, o0] ∧ presence p (beNat [o2, o1, o0]) = some o := by
  cases o with
  | none => exact ⟨_, _, _, _, rfl, rfl⟩
  | some x => exact ⟨_, _, _, _, rfl, by rw [beNat_three (h x rfl)]; rfl⟩

/-- The presence byte and the field of an absent or present start (R43). -/
theorem presence_start {o : Option Nat} (h : ∀ x, o = some x → fits 32 x = true) :
    ∃ p t3 t2 t1 t0, optField 4 o = [p, t3, t2, t1, t0] ∧ presence p (beNat [t3, t2, t1, t0]) = some o := by
  cases o with
  | none => exact ⟨_, _, _, _, _, rfl, rfl⟩
  | some x => exact ⟨_, _, _, _, _, rfl, by rw [beNat_four (h x rfl)]; rfl⟩

/-- A POS within its ranges is read back from its bytes (Table 2-6). -/
theorem decodeBody_encodePos {p : PosBody} (h : posInRange p = true) :
    decodeBody 1 (encodeBody (.pos p)) = some (.pos p) := by
  obtain ⟨ordinate, lane, entry, speed, motion, restraint, level, held, claiming, clock⟩ := p
  simp only [posInRange, Bool.and_eq_true, decide_eq_true_eq] at h
  obtain ⟨⟨⟨⟨⟨⟨⟨⟨⟨⟨hord, hlane⟩, hentry⟩, hspeed⟩, hparked⟩, hfault⟩, hlevel⟩, hlen⟩, hscenes⟩, hnodup⟩, hclaim⟩ := h
  obtain ⟨hheld, h0, h1⟩ := heldOf_scenes hlen hscenes hnodup
  obtain ⟨hopt, hc⟩ := optScene_getD (c := claiming) (by rintro x rfl; exact hclaim)
  obtain ⟨p, o2, o1, o0, hfield, hpresent⟩ := presence_ordinate (o := ordinate) (by rintro x rfl; exact hord)
  simp only [encodeBody, hfield]
  refine (decodeBody_pos p o2 o1 o0 ..).trans ?_
  rw [hpresent, byte_toNat (motionCode_lt motion), motionOf_code hparked hfault,
    byte_toNat (restraintCode_lt restraint), restraintOf_code, byte_toNat h0, byte_toNat h1, hheld,
    byte_toNat (clockCode_lt clock), clockOf_code, byte_toNat (show lane < 256 by omega),
    byte_toNat (show entry < 256 by omega), beNat_two hspeed, byte_toNat (show level < 256 by omega),
    byte_toNat hc, hopt]
  rfl

/-- A body within its ranges is read back from its bytes (R43, R44). -/
theorem decodeBody_encodeBody {b : Body} (h : bodyInRange b = true) :
    decodeBody (kindCode b) (encodeBody b) = some b := by
  cases b with
  | resume => rfl
  | pos p => exact decodeBody_encodePos h
  | cuest c =>
    obtain ⟨scene, cue, result, start⟩ := c
    simp only [bodyInRange, Bool.and_eq_true, isScene_iff, decide_eq_true_eq] at h
    obtain ⟨⟨hscene, hcue⟩, hstart⟩ := h
    obtain ⟨p, t3, t2, t1, t0, hfield, hpresent⟩ := presence_start (o := start) (by rintro x rfl; exact hstart)
    simp only [encodeBody, hfield]
    refine (decodeBody_cuest _ _ _ p t3 t2 t1 t0).trans ?_
    rw [byte_toNat (resultCode_lt result), resultOf_code, hpresent, byte_toNat (show scene < 256 by omega),
      byte_toNat (show cue < 256 by omega)]
    rfl
  | grant target kind =>
    simp only [bodyInRange, isStation, Bool.and_eq_true, decide_eq_true_eq] at h
    refine (decodeBody_grant ..).trans ?_
    rw [byte_toNat (grantCode_lt kind), grantOf_code, byte_toNat (show target < 256 by omega)]
    rfl
  | stop level code =>
    simp only [bodyInRange, Bool.and_eq_true, decide_eq_true_eq] at h
    refine (decodeBody_stop ..).trans ?_
    rw [byte_toNat (show level < 256 by omega), byte_toNat (show code < 256 by omega)]
  | claim x =>
    have hx := isScene_iff.mp h
    refine (decodeBody_claim _).trans ?_
    rw [byte_toNat (show x < 256 by omega)]
  | free x =>
    have hx := isScene_iff.mp h
    refine (decodeBody_free _).trans ?_
    rw [byte_toNat (show x < 256 by omega)]
  | cue c =>
    simp only [bodyInRange, Bool.and_eq_true, isScene_iff, decide_eq_true_eq] at h
    obtain ⟨⟨⟨hscene, hcue⟩, hspeed⟩, htime⟩ := h
    refine (decodeBody_cue ..).trans ?_
    rw [byte_toNat (show c.scene < 256 by omega), byte_toNat (show c.cue < 256 by omega), beNat_two hspeed,
      beNat_four htime]
  | sync time scene =>
    simp only [bodyInRange, Bool.and_eq_true, decide_eq_true_eq] at h
    refine (decodeBody_sync ..).trans ?_
    rw [beNat_four h.1, byte_toNat (show scene < 256 by omega)]
  | fix target entry distance =>
    simp only [bodyInRange, isStation, Bool.and_eq_true, decide_eq_true_eq] at h
    obtain ⟨⟨ht, he⟩, hd⟩ := h
    refine (decodeBody_fix ..).trans ?_
    rw [byte_toNat (show target < 256 by omega), byte_toNat (show entry < 256 by omega), beNat_two hd]
  | clear target =>
    simp only [bodyInRange, isStation, Bool.and_eq_true, decide_eq_true_eq] at h
    refine (decodeBody_clear _).trans ?_
    rw [byte_toNat (show target < 256 by omega)]

end Sys2Proof.Machine

namespace Sys2Proof.Machine

/-! ### Frames (R29, R43) -/

/-- What the form checks of R29 read out of a candidate, the two bytes of the CRC last. -/
structure FrameForm (bytes : List Byte) (f : Frame) where
  kind : Byte
  src : Byte
  sig1 : Byte
  sig0 : Byte
  len : Byte
  body : List Byte
  tail : List Byte
  bytes_eq : bytes = (kind :: src :: sig1 :: sig0 :: len :: body) ++ tail
  tail_length : tail.length = 2
  crc : beNat tail = (crc16 (kind :: src :: sig1 :: sig0 :: len :: body)).toNat
  kind_length : bodyLength kind.toNat = some len.toNat
  body_length : body.length = len.toNat
  src_eq : f.src = src.toNat
  sig_eq : f.sig = beNat [sig1, sig0]
  decoded : decodeBody kind.toNat body = some f.body

/-- The form checks pass exactly the bytes that have the form of a frame (R29). -/
theorem decodeFrame_iff {bytes : List Byte} {f : Frame} :
    decodeFrame bytes = some f ↔ Nonempty (FrameForm bytes f) := by
  constructor
  · intro h
    simp only [decodeFrame] at h
    split at h
    · cases h
    · next hlen =>
      split at h
      · cases h
      · next hcrc =>
        split at h
        · next k src g1 g0 len body hdata =>
          split at h
          · cases h
          · next hkind =>
            split at h
            · cases h
            · next hbody =>
              obtain ⟨b, hb, rfl⟩ := Option.map_eq_some_iff.mp h
              refine ⟨⟨k, src, g1, g0, len, body, bytes.drop (bytes.length - 2), ?_, ?_, ?_, not_not.mp hkind,
                not_not.mp hbody, rfl, rfl, hb⟩⟩
              · rw [← hdata, List.take_append_drop]
              · rw [List.length_drop]; omega
              · rw [← hdata]; exact not_not.mp hcrc
        · cases h
  · rintro ⟨k, src, g1, g0, len, body, tail, rfl, htail, hcrc, hkind, hbody, hsrc, hsig, hdecoded⟩
    have hl : ((k :: src :: g1 :: g0 :: len :: body) ++ tail).length - 2
        = (k :: src :: g1 :: g0 :: len :: body).length := by
      rw [List.length_append, htail, Nat.add_sub_cancel]
    have hlong : ¬ ((k :: src :: g1 :: g0 :: len :: body) ++ tail).length < 7 := by
      simp only [List.length_append, List.length_cons, htail]; omega
    simp only [decodeFrame, if_neg hlong, hl, List.take_left, List.drop_left, hcrc, ne_eq, not_true_eq_false, if_false,
      hkind, hbody, hdecoded, Option.map_some, ← hsrc, ← hsig]

/-- The encoding of a frame within the ranges has the form of R29. -/
theorem decodeFrame_encodeFrame {f : Frame} (h : frameInRange f = true) : decodeFrame (encodeFrame f) = some f := by
  simp only [frameInRange, isStation, Bool.and_eq_true, decide_eq_true_eq] at h
  obtain ⟨⟨⟨⟨-, hsrc⟩, -⟩, hsig⟩, hbody⟩ := h
  have hlen := bodyLength_kindCode f.body
  have hle : (encodeBody f.body).length < 256 := by
    cases hb : f.body <;> rw [hb] at hlen <;> exact Option.some.inj hlen ▸ (by decide)
  refine decodeFrame_iff.mpr ⟨⟨_, _, _, _, _, encodeBody f.body, beBytes 2 (crc16 (encodeUnchecked f)).toNat, rfl,
    length_beBytes .., beNat_beBytes (BitVec.isLt _), ?_, ?_, ?_, ?_, ?_⟩⟩
  · rw [byte_toNat (kindCode_lt _), byte_toNat hle, hlen]
  · rw [byte_toNat hle]
  · rw [byte_toNat (by omega)]
  · rw [beNat_two hsig]
  · rw [byte_toNat (kindCode_lt _), decodeBody_encodeBody hbody]

theorem parseCandidate_eq_some {bytes : List Byte} {f : Frame} :
    parseCandidate bytes = some f ↔ decodeFrame bytes = some f ∧ frameInRange f = true := by
  simp only [parseCandidate]
  split
  · next g hg =>
    simp only [hg, Option.ite_none_right_eq_some, Option.some.injEq]
    exact ⟨fun ⟨hr, he⟩ => ⟨he, he ▸ hr⟩, fun ⟨he, hr⟩ => ⟨he ▸ hr, he⟩⟩
  · next hg => simp [hg]

end Sys2Proof.Machine

open Sys2Proof.Machine in
/-- Settles O10: the encoding has the form that R29 asks for, and each field is read back from its bytes. -/
theorem framesSurviveTheirBytes : Obligations.FramesSurviveTheirBytes := fun _ h =>
  ⟨decodeFrame_encodeFrame h, parseCandidate_eq_some.mpr ⟨decodeFrame_encodeFrame h, h⟩⟩

namespace Sys2Proof.Machine

/-! ### Candidates and frames that are discarded (R28 to R32) -/

/-- With no more than the end of the carrier nothing but the time and the channel changes (R25, R35). -/
theorem State.carrierFalls_elapse {s : State} (h : s.powered = true) (dt : Nat) :
    (s.elapse dt).carrierFalls = s.passedBy dt := if_pos h

theorem exec_candidateDiscarded_of_none {s : State} {bytes : List Byte} (hp : s.powered = true)
    (h : parseCandidate bytes = none) (dt : Nat) : exec (.candidateDiscarded dt bytes) s = .next (s.passedBy dt) := by
  have hr : (s.elapse dt).receiveBytes bytes = (s.elapse dt).carrierFalls := by simp only [State.receiveBytes, h]
  exact congrArg Host.Outcome.next (hr.trans (State.carrierFalls_elapse hp dt))

end Sys2Proof.Machine

open Sys2Proof.Machine in
/-- Settles O11: a candidate that passed would have the form of a frame within the ranges, which each failure
excludes. -/
theorem malformedCandidatesAreDiscarded : Obligations.MalformedCandidatesAreDiscarded := by
  unfold Obligations.MalformedCandidatesAreDiscarded
  intro dt bytes s hp hbad
  refine exec_candidateDiscarded_of_none hp (Option.eq_none_iff_forall_ne_some.mpr fun f hf => ?_) dt
  obtain ⟨hd, hrange⟩ := parseCandidate_eq_some.mp hf
  obtain ⟨k, src, g1, g0, len, body, tail, rfl, htail, hcrc, hkind, hbody, hsrc, hsig, -⟩ := decodeFrame_iff.mp hd
  simp only [frameInRange, isStation, Bool.and_eq_true, decide_eq_true_eq] at hrange
  obtain ⟨⟨⟨⟨hsrc1, hsrc2⟩, hsig1⟩, -⟩, -⟩ := hrange
  have hlength : ((k :: src :: g1 :: g0 :: len :: body) ++ tail).length = body.length + 7 := by
    simp only [List.length_append, List.length_cons, htail]
  have hl : ((k :: src :: g1 :: g0 :: len :: body) ++ tail).length - 2
        = (k :: src :: g1 :: g0 :: len :: body).length := by
    rw [List.length_append, htail, Nat.add_sub_cancel]
  rcases hbad with h | h | ⟨c, hc, h⟩ | ⟨c, hc, h⟩ | ⟨h1, h0⟩ | ⟨c, n, m, hc, hn, hm, h⟩ | ⟨c, n, hc, hn, h⟩
  · omega
  · rw [hl, List.take_left, List.drop_left] at h
    exact h hcrc
  · cases hc
    simp [hkind] at h
  · cases hc
    omega
  · cases h1
    cases h0
    rw [hsig] at hsig1
    exact absurd hsig1 (by decide)
  · cases hc
    cases hm
    exact h (Option.some.inj (hkind.symm.trans hn))
  · cases hc
    have := Option.some.inj (hkind.symm.trans hn)
    omega

namespace Sys2Proof.Machine

/-- A frame that a part which neither acts nor is parked receives is discarded (R28). -/
theorem State.examine_of_idle {s : State} (ha : s.active = false) (hp : s.parked = false) (f : Frame) :
    s.examine f = s := by
  simp [State.examine, ha, hp]

/-- A frame that fails the checks of R30 to R32 is discarded (R28). -/
theorem State.examine_of_invalid {s : State} {f : Frame} (h : s.frameValid f = false) : s.examine f = s := by
  simp [State.examine, State.wakes, h]

/-- A parked part examines a frame for its wake alone (R28). -/
theorem State.examine_of_parked {s : State} (hp : s.parked = true) (f : Frame) :
    s.examine f = if s.wakes f then s.wake .net else s := by
  simp [State.examine, hp]

theorem exec_frameCommand_passedBy {s : State} {f : Frame} {dt : Nat} (hp : s.powered = true)
    (h : (s.passedBy dt).examine f = s.passedBy dt) : exec (frameCommand dt f) s = .next (s.passedBy dt) := by
  rw [exec_frameCommand, State.receive, State.carrierFalls_elapse hp, h]

theorem State.powered_of_parked {s : State} (h : s.parked = true) : s.powered = true := by
  simp only [State.parked, Bool.and_eq_true] at h
  exact h.1.1

end Sys2Proof.Machine

open Sys2Proof.Machine in
/-- Settles O12: the part does not examine the frame, or one of the checks of R30 to R32 fails. -/
theorem unfitFramesAreDiscarded : Obligations.UnfitFramesAreDiscarded := by
  unfold Obligations.UnfitFramesAreDiscarded
  intro dt f s hp hbad
  apply exec_frameCommand_passedBy hp
  have invalid (h : s.frameValid f = false) : (s.passedBy dt).examine f = s.passedBy dt := State.examine_of_invalid h
  rcases hbad with ⟨ha, hk⟩ | h | h | h | ⟨b, o, hb, hsig, ho, hle⟩
  · exact State.examine_of_idle (s := s.passedBy dt) ha hk f
  · exact invalid (by simp [State.frameValid, h])
  · exact invalid (by simp [State.frameValid, h])
  · exact invalid (by simp [State.frameValid, h])
  · exact invalid (by simp [State.frameValid, ordinateFits, hb, hsig, ho, Nat.not_lt.mpr hle])

namespace Sys2Proof.Machine

/-! ### The wake for a GRANT WAKE (R199) -/

/-- The state in which the NI begins at a wake: every block has its wake values (R199, R42). -/
def State.woken (r : WakeReason) (s : State) : State := { s with
  cfs := { s.cfs with startCause := .wake, wakeReason := some r }
  ni := { s.ni with queue := [], sending := none, idleFrom := none, posTimer := none }
  ptb := []
  sau := Sau.start
  dsc := { Dsc.start with steering := s.dsc.steering, timer := some (s.ms + 10) }
  rm := { Rm.start with seats := freshSeats s.cfg.opt.seatCount, timer := s.rm.timer }
  rsq := Rsq.start
  scu := { Scu.start with counters := s.scu.counters }
  sck := Sck.begins s.now
  spe := { s.spe.park with lastServed := 3 }
  stc := { Stc.start with incidents := s.stc.incidents, nextSeq := s.stc.nextSeq } }

theorem State.wake_eq (r : WakeReason) (s : State) : s.wake r = (s.woken r).netBegins := rfl

/-- An own-signature GRANT WAKE of a fixed station that names the part passes the checks (R28 to R32). -/
theorem State.wakes_of_grant {s : State} {h : Header} (hf : isFixed h.src = true) (hsig : h.sig = s.cfg.opt.signature)
    (h1 : 1 ≤ h.sig) (h2 : h.sig < 65536) (hst : isStation s.cfg.opt.station = true)
    (hne : h.src ≠ s.cfg.opt.station) : s.wakes ⟨h.src, h.sig, .grant s.cfg.opt.station .wake⟩ = true := by
  have hsrc : isStation h.src = true := by
    have := isFixed_iff.mp hf
    simp only [isStation, Bool.and_eq_true, decide_eq_true_eq]
    omega
  simp [State.wakes, State.frameValid, senderMay, frameInRange, bodyInRange, ordinateFits, fits, hf, hsrc, hst, hne,
    ← hsig, h1, h2]

theorem State.wakes_eq_false {s : State} {f : Frame}
    (h : f.body ≠ .grant s.cfg.opt.station .wake ∨ f.sig ≠ s.cfg.opt.signature) : s.wakes f = false := by
  rcases h with h | h <;> simp [State.wakes, h]

end Sys2Proof.Machine

open Sys2Proof.Machine in
/-- Settles O13: the frame wakes the part or not, and after the wake the NI begins on an empty queue. -/
theorem parkedPartWakesForItsGrant : Obligations.ParkedPartWakesForItsGrant := by
  unfold Obligations.ParkedPartWakesForItsGrant
  refine ⟨fun dt h s hparked hf hsig h1 h2 hst hne => ?_, fun dt f s hparked hbad => ?_⟩
  · have hp := State.powered_of_parked hparked
    have hw : (s.passedBy dt).wakes ⟨h.src, h.sig, .grant s.cfg.opt.station .wake⟩ = true :=
      State.wakes_of_grant hf hsig h1 h2 hst hne
    have he : (s.elapse dt).receive ⟨h.src, h.sig, .grant s.cfg.opt.station .wake⟩
        = ((s.passedBy dt).woken .net).netBegins := by
      rw [State.receive, State.carrierFalls_elapse hp, State.examine_of_parked (s := s.passedBy dt) hparked,
        if_pos hw, State.wake_eq]
    obtain ⟨hsilence, hpos, -, -, hqueue⟩ := ((s.passedBy dt).woken .net).netBegins_net
    exact ⟨_, congrArg Host.Outcome.next he, rfl, rfl, rfl, hqueue, hsilence, hpos, rfl, rfl, rfl, rfl, rfl, rfl, rfl,
      Sck.begins_reading (s.now + dt), rfl, rfl, rfl, rfl, rfl, rfl, rfl, rfl, rfl, rfl, rfl, rfl⟩
  · apply exec_frameCommand_passedBy (State.powered_of_parked hparked)
    have hw : (s.passedBy dt).wakes f = false := State.wakes_eq_false hbad
    rw [State.examine_of_parked (s := s.passedBy dt) hparked, hw]
    rfl

namespace Sys2Proof.Machine

/-! ### The status of an issued cue (R140, R142) -/

/-- Without a running chain a freed record has no word to act on (R134, R135). -/
theorem State.recordFreed_of_idle {s : State} (h : s.scu.chain.running = false) : s.recordFreed = s := by
  simp [State.recordFreed, State.retryChain, State.testChain, h]

/-- A SENT record is freed with its result, and a DONE plays its linked sound (R140, R142). -/
def State.answered (b : CuestBody) (r : Track) (s : State) : State :=
  (s.setScu (s.scu.sentDone b r)).playLink b r

theorem State.cueStatus_sent {s : State} {src : Nat} {b : CuestBody} {r : Track} (hs : s.cfg.station b.scene = src)
    (h0 : src ≠ 0) (hr : s.scu.recordOf b.scene b.cue = some r) (hst : r.state = .sent)
    (hc : s.scu.chain.running = false) : s.cueStatus src b = s.answered b r := by
  have hstation : s.rightStation src b = true := by simp [State.rightStation, hs, h0]
  have hidle : (s.answered b r).scu.chain.running = false := by
    simp only [State.answered, State.playLink_frame, State.setScu_scu, Scu.sentDone, Scu.freeRecord, Chain.watch]
    split <;> exact hc
  simp only [State.cueStatus, hstation, if_true, hr, hst]
  exact State.recordFreed_of_idle hidle

theorem State.answered_frame (b : CuestBody) (r : Track) (s : State) :
    (s.answered b r).now = s.now ∧ (s.answered b r).cfg = s.cfg ∧ (s.answered b r).cfs = s.cfs
      ∧ (s.answered b r).ptb = s.ptb ∧ (s.answered b r).sau = s.sau ∧ (s.answered b r).dsc = s.dsc
      ∧ (s.answered b r).rm = s.rm ∧ (s.answered b r).rsq = s.rsq ∧ (s.answered b r).sck = s.sck
      ∧ (s.answered b r).stc = s.stc ∧ (s.answered b r).powered = s.powered
      ∧ (s.answered b r).scu = s.scu.sentDone b r := by
  simp [State.answered]

/-- What the SPE is handed at a status (R142). -/
theorem State.answered_spe (b : CuestBody) (r : Track) (s : State) :
    (b.result = .done → ∀ l, r.link = some l → (s.answered b r).spe
        = s.spe.play s.cfg s.showTime l.voice ⟨l.clip, b.start, l.gain, 0, 0, .both, .cue⟩)
      ∧ (b.result ≠ .done ∨ r.link = none → (s.answered b r).spe = s.spe) := by
  refine ⟨fun hd l hl => ?_, fun h => ?_⟩
  · simp only [State.answered, State.playLink, hd, hl]
    rfl
  · simp only [State.answered, State.playLink]
    split
    · next hd hl =>
      rcases h with h | h
      · exact absurd hd h
      · rw [hl] at h
        cases h
    · rfl

theorem Counters.result_eq (x : CueResult) (c : Counters) : c.result x = match x with
    | .done => { c with done := min 65535 (c.done + 1) }
    | .busy => { c with busy := min 65535 (c.busy + 1) }
    | .refused => { c with refused := min 65535 (c.refused + 1) }
    | .fault => { c with fault := min 65535 (c.fault + 1) } := by
  cases x <;> rfl

/-- A valid frame of a kind that fixed stations send comes from no station 0 (R30). -/
theorem State.Receives.fixed_ne_zero {s : State} {h : Header} {b : CuestBody}
    (hr : s.Receives ⟨h.src, h.sig, .cuest b⟩) :
    h.src ≠ 0 := by
  obtain ⟨-, hv, -⟩ := hr
  simp only [State.frameValid, senderMay, Bool.and_eq_true] at hv
  have := isFixed_iff.mp hv.1.1.2
  omega

/-- What a reception that answers the SENT record leaves, whichever of the hearing and the status came first. -/
structure State.AnsweredFrom (dt src : Nat) (b : CuestBody) (r : Track) (s t : State) : Prop where
  scu : t.scu = s.scu.sentDone b r
  played : b.result = .done → ∀ l, r.link = some l → t.spe
    = s.spe.play s.cfg (s.elapse dt).showTime l.voice ⟨l.clip, b.start, l.gain, 0, 0, .both, .cue⟩
  silent : b.result ≠ .done ∨ r.link = none → t.spe = s.spe
  ptb : t.ptb = refreshed src ((s.now + dt) / 1000) s.ptb
  blocks : t.dsc = s.dsc ∧ t.sau = s.sau ∧ t.rsq = s.rsq ∧ t.rm = s.rm ∧ t.sck = s.sck ∧ t.stc = s.stc
    ∧ t.cfg = s.cfg ∧ t.cfs = s.cfs ∧ t.now = s.now + dt

theorem State.AnsweredFrom.afterSlots {dt src : Nat} {b : CuestBody} {r : Track} {s t : State}
    (h : s.AnsweredFrom dt src b r t) : s.AnsweredFrom dt src b r (t.afterSlots s.scu) := by
  rw [State.afterSlots_of_same _ _ (by rw [h.scu]; rfl) (by rw [h.scu]; rfl)]
  exact h

/-- The record is freed and its sound requested before or after the hearing, with the same outcome (R33). -/
theorem State.Receives.answered {s : State} {h : Header} {b : CuestBody} {r : Track}
    (hr : s.Receives ⟨h.src, h.sig, .cuest b⟩) (hstation : s.cfg.station b.scene = h.src)
    (hrec : s.scu.recordOf b.scene b.cue = some r) (hsent : r.state = .sent) (hchain : s.scu.chain.running = false)
    (dt : Nat) : s.AnsweredFrom dt h.src b r ((s.elapse dt).receive ⟨h.src, h.sig, .cuest b⟩) := by
  have after (u : State) (hu : u.scu = s.scu) (hcfg : u.cfg = s.cfg) : u.cueStatus h.src b = u.answered b r :=
    State.cueStatus_sent (hcfg ▸ hstation) hr.fixed_ne_zero (hu ▸ hrec) hsent (hu ▸ hchain)
  refine State.receive_beside (P := s.AnsweredFrom dt h.src b r) (f := ⟨h.src, h.sig, .cuest b⟩)
    (State.cueStatus h.src b) hr rfl ?_ ?_
  · rw [after (s.heardFirst dt h.src) rfl rfl]
    obtain ⟨hnow, hcfg, hcfs, hptb, hsau, hdsc, hrm, hrsq, hsck, hstc, -, hscu⟩ :=
      (s.heardFirst dt h.src).answered_frame b r
    obtain ⟨hplay, hstill⟩ := (s.heardFirst dt h.src).answered_spe b r
    exact State.AnsweredFrom.afterSlots
      ⟨hscu, hplay, hstill, hptb, hdsc, hsau, hrsq, hrm, hsck, hstc, hcfg, hcfs, hnow⟩
  · rw [after (s.heardLast dt) rfl rfl]
    obtain ⟨hnow, hcfg, hcfs, hptb, hsau, hdsc, hrm, hrsq, hsck, hstc, hpow, hscu⟩ :=
      (s.heardLast dt).answered_frame b r
    obtain ⟨hplay, hstill⟩ := (s.heardLast dt).answered_spe b r
    have ha : ((s.heardLast dt).answered b r).active = true := by
      rw [State.active, hpow, hcfs, hdsc]
      exact hr.1
    have hms : ((s.heardLast dt).answered b r).ms = (s.now + dt) / 1000 := congrArg (· / 1000) hnow
    rw [hr.hear_last ha hptb, hms]
    exact State.AnsweredFrom.afterSlots
      ⟨hscu, hplay, hstill, rfl, hdsc, hsau, hrsq, hrm, hsck, hstc, hcfg, hcfs, hnow⟩

/-- A frame that reaches no block beyond the PTB is a hearing alone (R33). -/
theorem State.Receives.heard {s : State} {f : Frame} {dt : Nat} (hr : s.Receives f)
    (hd : State.deliver f.src f.body (s.netted dt) = State.hear f.src (s.netted dt)) :
    exec (frameCommand dt f) s = .next (s.heard dt f.src) := by
  rw [exec_frameCommand, State.receive_of_receives _ _ _ hr, hd, State.hear_netted _ _ _ hr,
    State.afterSlots_of_same (s.heard dt f.src) s.scu rfl rfl]

end Sys2Proof.Machine

open Sys2Proof.Machine in
/-- Settles O20: the CUEST answers its record beside the hearing, and a CUE does no more than the hearing. -/
theorem cuestEndsASentCue : Obligations.CuestEndsASentCue := by
  unfold Obligations.CuestEndsASentCue
  refine ⟨fun dt h b r s hr hstation hrec hsent hchain => ?_,
    fun dt h b s hr => hr.heard (f := ⟨h.src, h.sig, .cue b⟩) rfl⟩
  obtain ⟨hscu, hplay, hstill, hptb, hrest⟩ := hr.answered hstation hrec hsent hchain dt
  refine ⟨_, rfl, by rw [hscu]; rfl, by rw [hscu]; exact Counters.result_eq .., hplay, hstill, by rw [hscu]; rfl,
    by rw [hscu]; rfl, by rw [hscu]; rfl, hptb, hrest⟩

namespace Sys2Proof.Machine

/-! ### The reception of a valid frame (R31, R33) -/

/-- With NET-SILENT not active a valid frame meets the blocks in the netted state (R41). -/
theorem State.netHeard_passedBy {s : State} (hn : Cause.netSilent ∉ s.stc.causes) (dt : Nat) :
    (s.passedBy dt).netHeard = s.netted dt := by
  have h : (s.netted dt).withdraw .netSilent = s.netted dt := by
    simp [State.withdraw, State.netted, hn]
  exact h

theorem State.parked_of_active {s : State} (h : s.active = true) : s.parked = false := by
  have := s.active_iff.mp h
  simp [State.parked, this]

/-- A valid frame is delivered in the netted state by its signature, and the RSQ acts on a change of the slots. -/
theorem State.receive_of_valid {s : State} {f : Frame} (ha : s.active = true) (hv : s.frameValid f = true)
    (hn : Cause.netSilent ∉ s.stc.causes) (dt : Nat) : (s.elapse dt).receive f =
      (if f.sig = s.cfg.opt.signature then State.deliver f.src f.body (s.netted dt)
        else State.deliverForeign f.src f.body (s.netted dt)).afterSlots s.scu := by
  have hp : (s.passedBy dt).parked = false := State.parked_of_active ha
  have hact : ((s.passedBy dt).active && (s.passedBy dt).frameValid f) = true :=
    Bool.and_eq_true_iff.mpr ⟨ha, hv⟩
  rw [State.receive, State.carrierFalls_elapse (State.powered_of_active ha), State.examine, hp, hact,
    State.handleFrame, State.netHeard_passedBy hn]
  rfl

/-- An own-signature CUE, known sender or not: the hearing in the netted state, and the RSQ at the slots. -/
theorem exec_cueFrame_hearOwn {s : State} {h : Header} {b : CueBody} (ha : s.active = true)
    (hv : s.frameValid ⟨h.src, h.sig, .cue b⟩ = true) (hsig : h.sig = s.cfg.opt.signature)
    (hn : Cause.netSilent ∉ s.stc.causes) (dt : Nat) :
    exec (.cueFrame dt h b) s = .next (((s.netted dt).hearOwn h.src).afterSlots s.scu) := by
  have hr := State.receive_of_valid ha hv hn dt
  rw [if_pos hsig] at hr
  have hh : State.deliver h.src (.cue b) (s.netted dt) = (s.netted dt).hearOwn h.src := if_pos ha
  exact congrArg Host.Outcome.next (hr.trans (congrArg (State.afterSlots s.scu) hh))

/-! ### First hearings (R48, R49) -/

theorem State.foreignAfter_of_same {s : State} {before : Bool} (h : s.foreignSeen = before) :
    s.foreignAfter before = s := by
  subst h
  cases hs : s.foreignSeen <;> simp [State.foreignAfter, hs]

theorem State.peer_eq_none {s : State} {src : Nat} (h : ∀ p ∈ s.ptb, p.station ≠ src) : s.peer src = none := by
  simpa [State.peer] using h

/-- A new own-signature record joins the end of a table with room, and is no FOREIGN record (R48). -/
theorem State.addPeer_own {s t : State} (hroom : s.makeRoom = t) (hl : t.ptb.length < 24) (src : Nat) :
    s.addPeer src false = t.setPtb (t.ptb ++ [Peer.first src t.ms false]) := by
  subst hroom
  simp only [State.addPeer, hl, if_true]
  apply State.foreignAfter_of_same
  simp [State.foreignSeen, Peer.foreignVehicle, Peer.first]

theorem State.makeRoom_of_room {s : State} (h : s.ptb.length < 24) : s.makeRoom = s := if_pos h

theorem State.hearOwn_of_unknown {s : State} {src : Nat} (h : ∀ p ∈ s.ptb, p.station ≠ src) :
    s.hearOwn src = s.addPeer src false := by
  simp [State.hearOwn, State.peer_eq_none h]

/-- The eviction's choice among records is one of them that is not pinned (R49). -/
theorem foldl_olderPeer_mem {t : List Peer} {a : Option Peer} {q : Peer} (h : t.foldl olderPeer a = some q) :
    (q ∈ t ∧ q.pinned = false) ∨ a = some q := by
  induction t generalizing a with
  | nil => exact .inr h
  | cons x xs ih =>
    rcases ih h with ⟨hq, hp⟩ | hx
    · exact .inl ⟨List.mem_cons_of_mem _ hq, hp⟩
    · simp only [olderPeer] at hx
      split at hx
      · exact .inr hx
      · next hpin =>
        have hself : x = q → (q ∈ x :: xs ∧ q.pinned = false) := by
          rintro rfl
          exact ⟨List.mem_cons_self .., eq_false_of_ne_true hpin⟩
        split at hx
        · exact .inl (hself (Option.some.inj hx))
        · split at hx
          · exact .inl (hself (Option.some.inj hx))
          · exact .inr hx

/-- A record that is older than every later one stays the eviction's choice (R49). -/
theorem foldl_olderPeer_keeps {t : List Peer} {p : Peer}
    (h : ∀ q ∈ t, q.pinned = false → p.lastHeard ≤ q.lastHeard) : t.foldl olderPeer (some p) = some p := by
  induction t with
  | nil => rfl
  | cons x xs ih =>
    have hx : olderPeer (some p) x = some p := by
      simp only [olderPeer]
      split
      · rfl
      · next hpin =>
        have := h x (List.mem_cons_self ..) (eq_false_of_ne_true hpin)
        simp [Nat.not_lt.mpr this]
    rw [List.foldl_cons, hx, ih fun q hq => h q (List.mem_cons_of_mem _ hq)]

/-- The evicted record is the unpinned one heard longest ago, the first of those in table order (R49). -/
theorem evictee_eq {before after : List Peer} {p : Peer} (hp : p.pinned = false)
    (hb : ∀ q ∈ before, q.pinned = false → p.lastHeard < q.lastHeard)
    (ha : ∀ q ∈ after, q.pinned = false → p.lastHeard ≤ q.lastHeard) :
    evictee (before ++ p :: after) = some p := by
  have hx : olderPeer (before.foldl olderPeer none) p = some p := by
    simp only [olderPeer, hp, Bool.false_eq_true, if_false]
    split
    · rfl
    · next q hq =>
      rcases foldl_olderPeer_mem hq with ⟨hm, hn⟩ | hn
      · exact if_pos (hb q hm hn)
      · cases hn
  rw [evictee, List.foldl_append, List.foldl_cons, hx, foldl_olderPeer_keeps ha]

/-- One record a station: the one named is found, and its removal leaves the others (R45). -/
theorem peers_split {before after : List Peer} {p : Peer} (h : ((before ++ p :: after).map Peer.station).Nodup) :
    (before ++ p :: after).find? (fun q => q.station = p.station) = some p
      ∧ (before ++ p :: after).filter (fun q => q.station ≠ p.station) = before ++ after := by
  rw [List.map_append, List.map_cons, List.nodup_append] at h
  obtain ⟨-, hafter, hdisj⟩ := h
  have hb (q : Peer) (hq : q ∈ before) : q.station ≠ p.station :=
    hdisj _ (List.mem_map_of_mem hq) _ (List.mem_cons_self ..)
  have ha (q : Peer) (hq : q ∈ after) : q.station ≠ p.station := fun he =>
    (List.nodup_cons.mp hafter).1 (he ▸ List.mem_map_of_mem hq)
  constructor
  · rw [List.find?_append, List.find?_eq_none.mpr (by simpa using hb)]
    simp
  · rw [List.filter_append, List.filter_cons, List.filter_eq_self.mpr (by simpa using hb),
      List.filter_eq_self.mpr (by simpa using ha)]
    simp

/-- The removal of a record that no other block depends on (R60). -/
theorem State.removePeer_plain {s : State} {before after : List Peer} {p : Peer} (ht : s.ptb = before ++ p :: after)
    (hs : (s.ptb.map Peer.station).Nodup) (h1 : p.pin1 = false) (h2 : p.pin2 = false) (hscene : p.showsScene = false)
    (hf : p.foreignVehicle = false) : s.removePeer p.station = s.setPtb (before ++ after) := by
  obtain ⟨hfind, hfilter⟩ := peers_split (ht ▸ hs)
  have hpeer : s.peer p.station = some p := by rw [State.peer, ht]; exact hfind
  have hseen : (s.setPtb (before ++ after)).foreignSeen = s.foreignSeen := by
    simp [State.foreignSeen, ht, hf]
  simp only [State.removePeer, State.removeWith, hpeer, h1, h2, hscene, Bool.or_self, Bool.false_eq_true, if_false, ht,
    hfilter]
  exact State.foreignAfter_of_same hseen

theorem Peer.pins_of_unpinned {p : Peer} (h : p.pinned = false) : p.pin1 = false ∧ p.pin2 = false := by
  simp only [Peer.pinned, Bool.or_eq_false_iff] at h
  exact ⟨h.1.2, h.2⟩

/-- A full table makes room by the eviction (R49). -/
theorem State.makeRoom_of_full {s : State} {before after : List Peer} {p : Peer} (ht : s.ptb = before ++ p :: after)
    (hs : s.PeersSound) (hfull : s.ptb.length = 24) (hp : p.pinned = false)
    (hb : ∀ q ∈ before, q.pinned = false → p.lastHeard < q.lastHeard)
    (ha : ∀ q ∈ after, q.pinned = false → p.lastHeard ≤ q.lastHeard) (hscene : p.showsScene = false)
    (hf : p.foreignVehicle = false) : s.makeRoom = s.setPtb (before ++ after) := by
  obtain ⟨-, hnodup⟩ := hs
  obtain ⟨h1, h2⟩ := Peer.pins_of_unpinned hp
  have hev : evictee s.ptb = some p := by rw [ht]; exact evictee_eq hp hb ha
  have hr : s.makeRoom = s.removePeer p.station := by simp only [State.makeRoom, hfull, Nat.lt_irrefl, if_false, hev]
  rw [hr, State.removePeer_plain ht hnodup h1 h2 hscene hf]

/-! ### A hearing that clears FOREIGN (R50, R61) -/

/-- With the last FOREIGN vehicle record refreshed none is left (R61). -/
theorem refreshed_none_foreign {t : List Peer} {src : Nat} (m : Nat)
    (h : ∀ p ∈ t, p.foreignVehicle = true → p.station = src) :
    (refreshed src m t).any Peer.foreignVehicle = false := by
  simp only [refreshed, List.any_map, List.any_eq_false, Function.comp_apply]
  intro p hp
  split
  · simp [Peer.foreignVehicle]
  · next hne => exact fun hf => hne (h p hp hf)

theorem State.peer_isSome {s : State} {src : Nat} (h : ∃ p ∈ s.ptb, p.station = src) : (s.peer src).isSome = true := by
  simpa [State.peer] using h

/-- The hearing of the last FOREIGN vehicle withdraws the cause (R50, R61). -/
theorem State.hearOwn_clears {s : State} {src : Nat} (hk : ∃ p ∈ s.ptb, p.station = src ∧ p.foreignVehicle = true)
    (h : ∀ p ∈ s.ptb, p.foreignVehicle = true → p.station = src) :
    s.hearOwn src = (s.setPtb (refreshed src s.ms s.ptb)).withdraw .foreign := by
  obtain ⟨p, hp, hst, hf⟩ := hk
  have hknown := State.peer_isSome ⟨p, hp, hst⟩
  have hseen : s.foreignSeen = true := List.any_eq_true.mpr ⟨p, hp, hf⟩
  have hgone : (s.setPtb (refreshed src s.ms s.ptb)).foreignSeen = false := refreshed_none_foreign s.ms h
  have he : s.hearOwn src = (s.setPtb (refreshed src s.ms s.ptb)).foreignAfter s.foreignSeen := by
    simp only [State.hearOwn, hknown, if_true]
    rfl
  rw [he, State.foreignAfter, hseen, hgone]
  rfl

/-- A withdrawal changes the causes, and beyond them the NI at most (R182). -/
theorem State.withdraw_rest {s : State} {c : Cause} (ha : s.active = true) (hc : c ∈ s.stc.causes) :
    (s.withdraw c).stc = { s.stc with causes := s.stc.causes.filter (· ≠ c) }
      ∧ { s.withdraw c with ni := s.ni, stc := s.stc } = s := by
  simp only [State.withdraw, ha, List.contains_iff_mem.mpr hc]
  simp only [Bool.not_true, Bool.or_self, Bool.false_eq_true, if_false]
  split <;> exact ⟨rfl, rfl⟩

end Sys2Proof.Machine

namespace Sys2Proof.Machine

/-! ### Foreign hearings (R31, R51) -/

/-- A foreign frame other than a STOP above the latch is a hearing alone (R31). -/
theorem State.deliverForeign_heard {s : State} {b : Body} (h : ∀ level code, b = .stop level code → level ≤ s.stc.latch)
    (src : Nat) : s.deliverForeign src b = s.hearForeign src := by
  cases b with
  | stop level code => exact if_neg (Nat.not_lt.mpr (h level code rfl))
  | _ => rfl

/-- A foreign frame meets the PTB in the netted state, and the RSQ acts on a change of the slots (R31). -/
theorem State.ReceivesForeign.receive {s : State} {f : Frame} (hr : s.ReceivesForeign f) (dt : Nat) :
    (s.elapse dt).receive f = (State.deliverForeign f.src f.body (s.netted dt)).afterSlots s.scu := by
  obtain ⟨ha, hv, hsig, hn⟩ := hr
  rw [State.receive_of_valid ha hv hn, if_neg hsig]

/-- A station with a record has its first one. -/
theorem State.peer_of_known {s : State} {src : Nat} (h : ∃ p ∈ s.ptb, p.station = src) :
    ∃ q ∈ s.ptb, s.peer src = some q ∧ q.station = src := by
  obtain ⟨q, hq⟩ := Option.isSome_iff_exists.mp (State.peer_isSome h)
  exact ⟨q, List.mem_of_find?_eq_some hq, hq, by simpa using List.find?_some hq⟩

/-- The table after a foreign hearing, before the SCU is told (R51). -/
def State.markedForeign (src : Nat) (s : State) : State :=
  (s.setPtb (foreignHeard src s.ms s.ptb)).foreignAfter s.foreignSeen

theorem State.hearForeign_of_known {s : State} {src : Nat} {q : Peer} (h : s.peer src = some q) :
    s.hearForeign src = if q.pin1 || q.pin2 || q.showsScene then (s.markedForeign src).tellScu src
      else s.markedForeign src := by
  simp only [State.hearForeign, h]
  rfl

/-- A foreign hearing of a known station that no slot waits on and that shows no scene (R51). -/
theorem State.hearForeign_untold {s : State} {src : Nat} (hk : ∃ p ∈ s.ptb, p.station = src)
    (hs : ∀ p ∈ s.ptb, p.station = src → p.pin1 = false ∧ p.pin2 = false ∧ p.showsScene = false) :
    s.hearForeign src = s.markedForeign src := by
  obtain ⟨q, hq, hpeer, hst⟩ := State.peer_of_known hk
  obtain ⟨h1, h2, h3⟩ := hs q hq hst
  simp [State.hearForeign_of_known hpeer, h1, h2, h3]

/-- A foreign hearing of a fixed station, or beside another FOREIGN vehicle, brings no first one (R61). -/
theorem foreignHeard_seen {t : List Peer} {src : Nat} (m : Nat)
    (h : (∃ p ∈ t, p.foreignVehicle = true) ∨ isFixed src = true) :
    (foreignHeard src m t).any Peer.foreignVehicle = t.any Peer.foreignVehicle := by
  rcases h with ⟨p, hp, hf⟩ | hfixed
  · rw [List.any_eq_true.mpr ⟨p, hp, hf⟩, List.any_eq_true]
    refine ⟨_, List.mem_map_of_mem hp, ?_⟩
    simp only [Peer.foreignVehicle, Bool.and_eq_true] at hf
    split
    · simpa [Peer.foreignVehicle, Peer.isVehicle] using hf.1
    · simpa [Peer.foreignVehicle] using hf
  · have hrange := isFixed_iff.mp hfixed
    rw [foreignHeard, List.any_map]
    congr 1
    funext p
    simp only [Function.comp_apply]
    split
    · next hst =>
      have hv : p.isVehicle = false := by
        simp only [Peer.isVehicle, Bool.and_eq_false_iff, decide_eq_false_iff_not]
        omega
      simp only [Peer.isVehicle] at hv
      simp [Peer.foreignVehicle, Peer.isVehicle, hv]
    · rfl

theorem State.markedForeign_of_seen {s : State} {src : Nat}
    (h : (∃ p ∈ s.ptb, p.foreignVehicle = true) ∨ isFixed src = true) :
    s.markedForeign src = s.setPtb (foreignHeard src s.ms s.ptb) :=
  State.foreignAfter_of_same (foreignHeard_seen s.ms h)

/-! ### A foreign STOP above the latch (R183) -/

theorem State.notifyRise_sameSlots (was level : Nat) (s : State) : s.SameSlots (s.notifyRise was level) :=
  ((State.sameSlots_of_scu (by simp)).trans
    (State.abandonChain_sameSlots .abandoned ((s.authorityRise was level).driveRise level))).trans
    (State.sameSlots_of_scu rfl)

theorem State.abandonChain_idle (e : ChainEnd) (s : State) : (s.abandonChain e).scu.chain.running = false := by
  simp only [State.abandonChain]
  split
  · rfl
  · next h => exact eq_false_of_ne_true h

/-- What a frame that raises the latch leaves of the stops, the drive, the chain and the slots (R183, R184, R189). -/
structure State.RaisedTo (level : Nat) (cause : StopCause) (origin : Nat) (s t : State) : Prop where
  latch : t.stc.latch = level
  causes : t.stc.causes = s.stc.causes
  first : t.stc.first = if s.stc.latch = 0 then some ⟨cause, origin⟩ else s.stc.first
  incidents : t.stc.incidents = (if s.stc.incidents.length < 16 then s.stc.incidents else s.stc.incidents.drop 1)
    ++ [s.incidentNow cause level origin]
  halted : level = 2 → t.sau.authority = 0 ∧ t.dsc.command = 0
  chain : t.scu.chain.running = false
  slots : s.SameSlots t

theorem State.frameLevel_raisedTo {s : State} {level : Nat} (h : s.stc.latch < level) (cause : StopCause)
    (origin : Nat) : s.RaisedTo level cause origin (s.frameLevel level cause origin) := by
  generalize hu : (s.writeIncident cause level origin).setStc { (s.writeIncident cause level origin).stc with
    latch := level, first := if s.stc.latch = 0 then some ⟨cause, origin⟩ else s.stc.first } = u
  have he : s.frameLevel level cause origin = u.notifyRise s.stc.latch level := by
    have hw : (s.writeIncident cause level origin).stc.latch < level := h
    subst hu
    simp only [State.frameLevel, h, if_true, State.raiseLatch, hw]
    rfl
  have hstc : (u.notifyRise s.stc.latch level).stc = u.stc := by simp
  have hslots := u.notifyRise_sameSlots s.stc.latch level
  rw [he]
  refine ⟨?_, ?_, ?_, ?_, ?_, State.abandonChain_idle .abandoned _, ?_⟩
  · rw [hstc]; subst hu; rfl
  · rw [hstc]; subst hu; rfl
  · rw [hstc]; subst hu; rfl
  · rw [hstc]; subst hu; rfl
  · rintro rfl
    exact State.notifyRise_zero ..
  · subst hu
    exact hslots

/-- A foreign STOP above the latch has raised it, and its sender has had its foreign hearing (R31, R183). -/
def State.StoppedByForeign (dt : Nat) (h : Header) (level code : Nat) (s t : State) : Prop :=
  (s.elapse dt).RaisedTo level (.code code) h.src t ∧ t.ptb = foreignHeard h.src ((s.now + dt) / 1000) s.ptb

theorem State.StoppedByForeign.afterSlots {dt : Nat} {h : Header} {level code : Nat} {s t : State}
    (ht : s.StoppedByForeign dt h level code t) : s.StoppedByForeign dt h level code (t.afterSlots s.scu) := by
  obtain ⟨h1, h2⟩ := ht.1.slots
  have hsame : t.afterSlots s.scu = t :=
    State.afterSlots_of_same _ _ (congrArg Slot.state h1).symm (congrArg Slot.state h2).symm
  rwa [hsame]

/-- A foreign STOP above the latch acts beside the hearing, in either order (R33). -/
theorem State.ReceivesForeign.stopped {s : State} {h : Header} {level code : Nat}
    (hr : s.ReceivesForeign ⟨h.src, h.sig, .stop level code⟩) (hk : ∃ p ∈ s.ptb, p.station = h.src)
    (hs : ∀ p ∈ s.ptb, p.station = h.src → p.pin1 = false ∧ p.pin2 = false ∧ p.showsScene = false)
    (hseen : (∃ p ∈ s.ptb, p.foreignVehicle = true) ∨ isFixed h.src = true) (hlevel : s.stc.latch < level)
    (dt : Nat) :
    s.StoppedByForeign dt h level code ((s.elapse dt).receive ⟨h.src, h.sig, .stop level code⟩) := by
  have hear (u : State) (hp : u.ptb = s.ptb) : u.hearForeign h.src = u.setPtb (foreignHeard h.src u.ms s.ptb) := by
    rw [State.hearForeign_untold (hp ▸ hk) (hp ▸ hs), State.markedForeign_of_seen (hp ▸ hseen), hp]
  have hd : State.deliverForeign h.src (.stop level code) (s.netted dt)
      = (s.netted dt).inEitherOrder (State.hearForeign h.src) (State.frameLevel level (.code code) h.src) :=
    if_pos hlevel
  have hrec : (s.elapse dt).receive ⟨h.src, h.sig, .stop level code⟩
      = (State.deliverForeign h.src (.stop level code) (s.netted dt)).afterSlots s.scu := hr.receive dt
  rw [hrec, hd]
  refine State.StoppedByForeign.afterSlots
    (State.inEitherOrder_of (P := s.StoppedByForeign dt h level code) _ _ _ ?_ ?_)
  · rw [hear (s.netted dt).settled rfl]
    obtain ⟨h1, h2, h3, h4, h5, h6, h7⟩ := State.frameLevel_raisedTo
      (s := (s.netted dt).settled.setPtb (foreignHeard h.src (s.netted dt).settled.ms s.ptb)) hlevel (.code code) h.src
    exact ⟨⟨h1, h2, h3, h4, h5, h6, h7⟩, by simp; rfl⟩
  · obtain ⟨h1, h2, h3, h4, h5, h6, h7⟩ :=
      State.frameLevel_raisedTo (s := (s.netted dt).settled) hlevel (.code code) h.src
    rw [hear _ (by simp; rfl)]
    exact ⟨⟨h1, h2, h3, h4, h5, h6, h7⟩, by simp [State.ms]; rfl⟩

/-! ### The first FOREIGN vehicle (R61) -/

/-- The state in which FOREIGN is raised: the record of the new FOREIGN vehicle stands (R51, R61). -/
def State.WithForeign (dt : Nat) (f : Frame) (s u : State) : Prop :=
  ∃ t, u = (s.netted dt).setPtb t
    ∧ ((∃ p ∈ s.ptb, p.station = f.src) → t = foreignHeard f.src ((s.now + dt) / 1000) s.ptb)
    ∧ ((∀ p ∈ s.ptb, p.station ≠ f.src) → t = s.ptb
      ++ [⟨f.src, true, (s.now + dt) / 1000, false, false, false, false, none, none⟩])

theorem isVehicle_iff {v : Nat} : isVehicle v = true ↔ 1 ≤ v ∧ v ≤ 47 := by simp [isVehicle]

/-- The slots stand where FOREIGN is raised, so the RSQ sees no change of them. -/
theorem State.raised_foreign_afterSlots {u s : State} (h : s.SameSlots u) :
    (u.raise .foreign).afterSlots s.scu = u.raise .foreign := by
  obtain ⟨h1, h2⟩ := h.trans (u.raise_sameSlots .foreign)
  exact State.afterSlots_of_same _ _ (congrArg Slot.state h1).symm (congrArg Slot.state h2).symm

/-- The first FOREIGN vehicle record raises FOREIGN (R61). -/
theorem State.ReceivesForeign.raises {s : State} {f : Frame} (hr : s.ReceivesForeign f) (hv : isVehicle f.src = true)
    (hnone : ∀ p ∈ s.ptb, p.foreignVehicle = false) (hstop : ∀ level code, f.body ≠ .stop level code)
    (hs : ∀ p ∈ s.ptb, p.station = f.src → p.pin1 = false ∧ p.pin2 = false ∧ p.showsScene = false)
    (hroom : (∃ p ∈ s.ptb, p.station = f.src) ∨ s.ptb.length < 24) (dt : Nat) :
    ∃ u, s.WithForeign dt f u ∧ (s.elapse dt).receive f = u.raise .foreign := by
  have hunseen : (s.netted dt).foreignSeen = false := by
    simp only [State.foreignSeen, List.any_eq_false]
    exact fun p hp => Bool.not_eq_true _ ▸ hnone p hp
  have after (t : List Peer) (ht : t.any Peer.foreignVehicle = true) :
      (((s.netted dt).setPtb t).foreignAfter false).afterSlots s.scu = ((s.netted dt).setPtb t).raise .foreign := by
    have h : ((s.netted dt).setPtb t).foreignSeen = true := ht
    have hraise : ((s.netted dt).setPtb t).foreignAfter false = ((s.netted dt).setPtb t).raise .foreign := by
      simp [State.foreignAfter, h]
    rw [hraise, State.raised_foreign_afterSlots (s := s) (u := (s.netted dt).setPtb t) ⟨rfl, rfl⟩]
  have hsrc := isVehicle_iff.mp hv
  rw [hr.receive dt, State.deliverForeign_heard fun level code h => absurd h (hstop level code)]
  by_cases hk : ∃ p ∈ s.ptb, p.station = f.src
  · refine ⟨(s.netted dt).setPtb (foreignHeard f.src ((s.now + dt) / 1000) s.ptb),
      ⟨_, rfl, fun _ => rfl, fun h => ?_⟩, ?_⟩
    · obtain ⟨p, hp, hst⟩ := hk
      exact absurd hst (h p hp)
    · have hh : (s.netted dt).hearForeign f.src = (s.netted dt).markedForeign f.src := State.hearForeign_untold hk hs
      obtain ⟨p, hp, hst⟩ := hk
      have hseen : (foreignHeard f.src ((s.now + dt) / 1000) s.ptb).any Peer.foreignVehicle = true := by
        refine List.any_eq_true.mpr ⟨_, List.mem_map_of_mem hp, ?_⟩
        simp [hst, Peer.foreignVehicle, Peer.isVehicle, hsrc]
      rw [hh, State.markedForeign, hunseen]
      exact after _ hseen
  · have hun : ∀ p ∈ s.ptb, p.station ≠ f.src := fun p hp hst => hk ⟨p, hp, hst⟩
    have hlen : (s.netted dt).ptb.length < 24 := hroom.resolve_left hk
    refine ⟨(s.netted dt).setPtb (s.ptb ++ [Peer.first f.src ((s.now + dt) / 1000) true]),
      ⟨_, rfl, fun h => absurd h hk, fun _ => rfl⟩, ?_⟩
    have hpeer : (s.netted dt).peer f.src = none := State.peer_eq_none hun
    have hseen : (s.ptb ++ [Peer.first f.src ((s.now + dt) / 1000) true]).any Peer.foreignVehicle = true := by
      simp [Peer.foreignVehicle, Peer.first, Peer.isVehicle, hsrc]
    have hh : (s.netted dt).hearForeign f.src
        = ((s.netted dt).setPtb (s.ptb ++ [Peer.first f.src ((s.now + dt) / 1000) true])).foreignAfter false := by
      simp only [State.hearForeign, hpeer, State.addPeer, State.makeRoom_of_room hlen, hlen, if_true, hunseen]
      rfl
    rw [hh]
    exact after _ hseen

end Sys2Proof.Machine

namespace Sys2Proof.Machine

/-! ### A block that a foreign hearing lifts (R51, R128) -/

/-- The claim check leaves the station out, so its foreign hearing does not show in it (R51, R125). -/
theorem State.claimCheck_foreignHeard {s u : State} {src : Nat} (m : Nat) (hp : u.ptb = foreignHeard src m s.ptb)
    (hc : u.cfg = s.cfg) (x : Nat) : u.claimCheck (some src) x = s.claimCheck (some src) x := by
  have hst : Peer.station ∘ (fun p : Peer => if p.station = src then
      { p with lastHeard := m, stale := false, foreign := true, lastSync := none, data := none } else p)
      = Peer.station := by
    funext p
    simp only [Function.comp_apply]
    split <;> rfl
  rw [State.claimCheck, State.claimCheck, hp, hc, foreignHeard, List.filter_map, List.map_map, hst]
  congr 2
  refine List.filter_congr fun p _ => ?_
  simp only [Function.comp_apply]
  split
  · next he => simp [he]
  · rfl

/-- A pin that is taken from records heard within the drop time removes none of them (R57, R58). -/
theorem State.pinWith_of_fresh {s : State} {f : Pin} (tell : Nat → State → State) (station : Option Nat)
    (h : ∀ p ∈ s.ptb, ∀ q ∈ s.ptb, q.carries f = true → p.station = q.station →
      s.ms < p.lastHeard + s.cfg.opt.dropTime) :
    s.pinWith tell f station = s.setPtb (namePin f station s.ptb) := by
  have hset (b : Bool) (p : Peer) : (p.setPin f b).station = p.station ∧ (p.setPin f b).lastHeard = p.lastHeard := by
    cases f with
    | ahead => exact ⟨rfl, rfl⟩
    | slot k => cases k <;> exact ⟨rfl, rfl⟩
  simp only [State.pinWith]
  split
  · rfl
  · next q hq =>
    split
    · rfl
    · next p' hp' =>
      refine if_neg fun hc => ?_
      obtain ⟨p, hp, rfl⟩ := List.mem_map.mp (List.mem_of_find?_eq_some hp')
      have hst : (p.setPin f (decide (station = some p.station))).station = q.station := by
        simpa using List.find?_some hp'
      have hfresh := h p hp q (List.mem_of_find?_eq_some hq) (by simpa using List.find?_some hq)
        ((hset _ p).1.symm.trans hst)
      simp only [State.overdue, (hset _ p).2, Bool.and_eq_true, decide_eq_true_eq] at hc
      exact absurd hc.2 (Nat.not_le.mpr hfresh)

/-- A slot that enters CLAIMING, the state and scene of the other one, and the CLAIM frame in a queue with room
(R126). -/
theorem State.enterClaiming_slots {s : State} {k : SlotId} {x : Nat} (hq : s.ni.queue.length < 6) :
    ((s.enterClaiming k x).scu.slot k).state = .claiming ∧ ((s.enterClaiming k x).scu.slot k).scene = some x
      ∧ ((s.enterClaiming k x).scu.slot k).window = some (s.ms + s.cfg.opt.claimWindow)
      ∧ ((s.enterClaiming k x).scu.slot k).blocking = none
      ∧ ((s.enterClaiming k x).scu.slot (otherSlot k)).state = (s.scu.slot (otherSlot k)).state
      ∧ ((s.enterClaiming k x).scu.slot (otherSlot k)).scene = (s.scu.slot (otherSlot k)).scene
      ∧ .claim x ∈ (s.enterClaiming k x).ni.queue := by
  generalize hv : (⟨some x, .claiming, some (s.ms + s.cfg.opt.claimWindow), none, none⟩ : Slot) = v
  have hslots : (s.setScu (s.scu.moveSlot k v)).SameSlots (s.enterClaiming k x) := by
    rw [State.enterClaiming, hv]
    exact (State.requestFrame_sameSlots (.claim x) _).trans (State.sameSlots_of_scu (by simp))
  have hother := s.scu.other_moveSlot k v
  rw [hslots.slot, hslots.slot, State.setScu_scu, Scu.slot_moveSlot]
  subst hv
  refine ⟨rfl, rfl, rfl, rfl, hother.1, hother.2, ?_⟩
  rw [State.enterClaiming, State.slotNotice_queue]
  exact mem_joinPos true (State.requestFrame_of_room (s := s.setScu (s.scu.moveSlot k _)) (.claim x) hq).2
    (by simp [Waiting.rank]) rfl

/-- A change of the slots that brings none to HELD leaves nothing due (R18, R20). -/
theorem State.NothingDue.of_not_held {s t : State} (h : s.NothingDue) (k : SlotId) (hr : t.rsq = s.rsq)
    (hc : t.cfg = s.cfg) (hk : (t.scu.slot k).state ≠ .held)
    (ho : (t.scu.slot (otherSlot k)).state = (s.scu.slot (otherSlot k)).state)
    (hos : (t.scu.slot (otherSlot k)).scene = (s.scu.slot (otherSlot k)).scene) : t.NothingDue := by
  have he : t.entry = s.entry := by rw [State.entry, State.entry, hr, hc]
  obtain ⟨hscene, hrel⟩ := h
  refine ⟨fun x hx hh hkn => ?_, by rwa [hr]⟩
  rw [hr] at hkn ⊢
  refine hscene x (he ▸ hx) ?_ hkn
  rw [Scu.holdsScene_iff _ k] at hh ⊢
  simp only [Slot.holds, ho, hos, hk, decide_false, Bool.false_and, Bool.false_or] at hh
  simp [Slot.holds, hh]

/-- The state in which a slot has been re-claimed, its pin taken off the table (R57, R128). -/
def State.reclaimed (k : SlotId) (x : Nat) (s : State) : State :=
  (s.enterClaiming k x).setPtb (namePin (.slot k) none s.ptb)

/-- A lifted block with no other record in the way re-claims the slot (R128). -/
theorem State.liftWith_reclaims {s : State} {k : SlotId} {x src : Nat} (tell : Nat → State → State)
    (hx : (s.scu.slot k).scene = some x) (hb : (s.scu.slot k).blocking = some src)
    (hc : s.claimCheck (some src) x = none)
    (h : ∀ p ∈ s.ptb, ∀ q ∈ s.ptb, q.carries (.slot k) = true → p.station = q.station →
      s.ms < p.lastHeard + s.cfg.opt.dropTime) : s.liftWith tell k = s.reclaimed k x := by
  have hp : (s.enterClaiming k x).ptb = s.ptb := by simp
  have hm : (s.enterClaiming k x).ms = s.ms := by simp [State.ms]
  have hcfg : (s.enterClaiming k x).cfg = s.cfg := by simp
  simp only [State.liftWith, hx, hb, hc]
  rw [State.pinWith_of_fresh tell none (by rw [hp, hm, hcfg]; exact h), hp]
  rfl

theorem State.reclaimed_slot (k j : SlotId) (x : Nat) (s : State) :
    (s.reclaimed k x).scu.slot j = (s.enterClaiming k x).scu.slot j := rfl

/-- The SCU that is told of a station on which one slot waits lifts the block of that slot alone (R128). -/
theorem State.tellScu_of_waiting {s : State} {k : SlotId} {x src : Nat} (hw : (s.scu.slot k).state = .waiting)
    (hx : (s.scu.slot k).scene = some x) (hb : (s.scu.slot k).blocking = some src)
    (ho : (s.scu.slot (otherSlot k)).state ≠ .waiting) (hc : s.claimCheck (some src) x = none)
    (hq : s.ni.queue.length < 6)
    (h : ∀ p ∈ s.ptb, ∀ q ∈ s.ptb, q.carries (.slot k) = true → p.station = q.station →
      s.ms < p.lastHeard + s.cfg.opt.dropTime) : s.tellScu src = s.reclaimed k x := by
  have hlift := State.liftWith_reclaims (State.tellGone s.ptb.length) hx hb hc h
  have hwaits : (s.scu.slot k).waitsOn src = true := by simp [Slot.waitsOn, hw, hb]
  have hstays {a : Slot} (ha : a.state ≠ .waiting) : a.waitsOn src = false := by simp [Slot.waitsOn, ha]
  obtain ⟨-, -, -, -, hother, -, -⟩ := State.enterClaiming_slots (k := k) (x := x) hq
  cases k with
  | one =>
    have h2 : (s.reclaimed .one x).scu.slot2.waitsOn src = false := hstays (by
      change ((s.enterClaiming .one x).scu.slot (otherSlot .one)).state ≠ .waiting
      rw [hother]
      exact ho)
    have h1 : s.scu.slot1.waitsOn src = true := hwaits
    simp [State.tellScu, State.tellGone, h1, hlift, h2]
  | two =>
    have h1 : s.scu.slot1.waitsOn src = false := hstays ho
    have h2 : s.scu.slot2.waitsOn src = true := hwaits
    simp [State.tellScu, State.tellGone, h1, h2, hlift]

theorem Peer.carries_setPin_false (f : Pin) (p : Peer) : (p.setPin f false).carries f = false := by
  cases f with
  | ahead => rfl
  | slot k => cases k <;> rfl

/-- A pin on no station stands on no record (R57). -/
theorem carries_namePin_none {f : Pin} {t : List Peer} {p : Peer} (h : p ∈ namePin f none t) : p.carries f = false := by
  obtain ⟨q, -, rfl⟩ := List.mem_map.mp h
  exact q.carries_setPin_false f

theorem foreignHeard_carries (f : Pin) (src m : Nat) (t : List Peer) {p : Peer} (h : p ∈ foreignHeard src m t) :
    ∃ q ∈ t, p.station = q.station ∧ p.carries f = q.carries f ∧ (q.station = src → p.lastHeard = m) := by
  obtain ⟨q, hq, rfl⟩ := List.mem_map.mp h
  refine ⟨q, hq, ?_⟩
  split
  · refine ⟨rfl, ?_, fun _ => rfl⟩
    cases f with
    | ahead => rfl
    | slot k => cases k <;> rfl
  · next hne => exact ⟨rfl, rfl, fun h => absurd h hne⟩

/-- A foreign hearing of the station that a slot waits on re-claims the slot, where no other record blocks its scene
(R51, R128). -/
theorem State.ReceivesForeign.reclaims {s : State} {f : Frame} {x : Nat} {k : SlotId} (hr : s.ReceivesForeign f)
    (hdue : s.NothingDue) (hseen : ∃ p ∈ s.ptb, p.foreignVehicle = true)
    (hstop : ∀ level code, f.body = .stop level code → level ≤ s.stc.latch)
    (hw : (s.scu.slot k).state = .waiting) (hx : (s.scu.slot k).scene = some x)
    (hb : (s.scu.slot k).blocking = some f.src) (hk : ∃ p ∈ s.ptb, p.station = f.src)
    (hpin : ∀ p ∈ s.ptb, p.carries (.slot k) = true ↔ p.station = f.src) (hsound : s.ConfigSound)
    (hc : s.claimCheck (some f.src) x = none) (hq : s.ni.queue.length < 6)
    (ho : (s.scu.slot (otherSlot k)).state ≠ .waiting) (dt : Nat) :
    (s.elapse dt).receive f
      = ((s.netted dt).setPtb (foreignHeard f.src ((s.now + dt) / 1000) s.ptb)).reclaimed k x := by
  generalize hv : (s.netted dt).setPtb (foreignHeard f.src ((s.now + dt) / 1000) s.ptb) = v
  have hqueue : v.ni.queue.length < 6 := by
    subst hv
    exact (congrArg List.length (Ni.measure_queue ..)).trans_lt hq
  have hready : s.cfs.load = .ready := (s.active_iff.mp hr.1).2.1
  have hdrop : 0 < s.cfg.opt.dropTime := by
    have hs := hsound hready
    simp only [Sound, OptionsSound] at hs
    omega
  have hfresh : ∀ p ∈ v.ptb, ∀ q ∈ v.ptb, q.carries (.slot k) = true → p.station = q.station →
      v.ms < p.lastHeard + v.cfg.opt.dropTime := by
    subst hv
    intro p hp q hq hcar hst
    obtain ⟨p0, hp0, hps, -, hheard⟩ := foreignHeard_carries (.slot k) _ _ _ hp
    obtain ⟨q0, hq0, hqs, hqc, -⟩ := foreignHeard_carries (.slot k) _ _ _ hq
    have hsrc : q0.station = f.src := (hpin q0 hq0).mp (hqc ▸ hcar)
    rw [hheard (by omega)]
    exact Nat.lt_add_of_pos_right hdrop
  have htold : v.tellScu f.src = v.reclaimed k x := by
    refine State.tellScu_of_waiting ?_ ?_ ?_ ?_ ?_ hqueue hfresh
    · subst hv; exact hw
    · subst hv; exact hx
    · subst hv; exact hb
    · subst hv; exact ho
    · have hptb : v.ptb = foreignHeard f.src ((s.now + dt) / 1000) s.ptb := by subst hv; rfl
      have hcfg : v.cfg = s.cfg := by subst hv; rfl
      exact (State.claimCheck_foreignHeard _ hptb hcfg x).trans hc
  obtain ⟨q, hq, hpeer, hqst⟩ := State.peer_of_known (s := s.netted dt) hk
  have hpins : (q.pin1 || q.pin2 || q.showsScene) = true := by
    have hcar : q.carries (.slot k) = true := (hpin q hq).mpr hqst
    cases k with
    | one => simp [show q.pin1 = true from hcar]
    | two => simp [show q.pin2 = true from hcar]
  have hmarked : (s.netted dt).markedForeign f.src = v := hv ▸ State.markedForeign_of_seen (.inl hseen)
  have hheard : (s.netted dt).hearForeign f.src = v.reclaimed k x := by
    rw [State.hearForeign_of_known hpeer, if_pos hpins, hmarked, htold]
  obtain ⟨hst, -, -, -, hos, hosc, -⟩ := State.enterClaiming_slots (k := k) (x := x) hqueue
  have hdone : (v.reclaimed k x).NothingDue := by
    refine hdue.of_not_held k ?_ ?_ ?_ ?_ ?_
    · subst hv; simp [State.reclaimed]; rfl
    · subst hv; simp [State.reclaimed]; rfl
    · rw [State.reclaimed_slot, hst]; decide
    · rw [State.reclaimed_slot, hos]; subst hv; rfl
    · rw [State.reclaimed_slot, hosc]; subst hv; rfl
  rw [hr.receive dt, State.deliverForeign_heard (by exact hstop), hheard, State.afterSlots_of_nothingDue hdone]

end Sys2Proof.Machine

open Sys2Proof.Machine in
/-- Settles O14: each clause is the hearing of its kind in the netted state, with the one change that it names. -/
theorem framesForOthersAreHearingsAlone : Obligations.FramesForOthersAreHearingsAlone := by
  unfold Obligations.FramesForOthersAreHearingsAlone
  refine ⟨fun dt f s hr hkind => ?alone, fun dt h b s ha hv hsig hn hun hroom => ?first,
    fun dt h b before after p s ha hv hsig hn hun hsound hfull ht hp hbefore hafter hscene hforeign => ?evicts,
    fun dt h b s ha hv hsig hn hactive hk hlast => ?clears,
    fun dt f s hr hk hs hseen hstop => ?foreign,
    fun dt h level code s hr hk hs hseen hlevel => ?stops,
    fun dt f s hr hsound hv hnone hcause hstop hs => ?raises,
    fun dt f x k s hr hdue _ hseen hstop hw hx hb hk hpin _ hsound hc hq ho => ?reclaims⟩
  case alone =>
    refine hr.heard ?_
    rcases hkind with ⟨b, hb⟩ | ⟨x, k, hb, hne⟩ | ⟨x, e, d, hb, hne⟩
    · rw [hb]
      rfl
    · rw [hb]
      exact if_neg hne
    · rw [hb]
      exact if_neg hne
  case first =>
    have hlen : (s.netted dt).ptb.length < 24 := hroom
    have hadd := State.addPeer_own (State.makeRoom_of_room hlen) hlen h.src
    rw [exec_cueFrame_hearOwn ha hv hsig hn, State.hearOwn_of_unknown (s := s.netted dt) hun, hadd,
      State.afterSlots_of_same ((s.netted dt).setPtb _) s.scu rfl rfl]
    rfl
  case evicts =>
    have hroom := State.makeRoom_of_full (s := s.netted dt) ht hsound hfull hp hbefore hafter hscene hforeign
    have hlen : (before ++ after).length < 24 := by
      rw [ht, List.length_append, List.length_cons] at hfull
      rw [List.length_append]
      omega
    rw [exec_cueFrame_hearOwn ha hv hsig hn, State.hearOwn_of_unknown (s := s.netted dt) hun,
      State.addPeer_own hroom hlen,
      State.afterSlots_of_same (((s.netted dt).setPtb _).setPtb _) s.scu rfl rfl]
    rfl
  case clears =>
    have hclear := State.hearOwn_clears (s := s.netted dt) hk hlast
    generalize hu : (s.netted dt).setPtb (refreshed h.src (s.netted dt).ms (s.netted dt).ptb) = u at hclear
    obtain ⟨hstc, hrest⟩ := State.withdraw_rest (s := u) (c := .foreign) (by subst hu; exact ha)
      (by subst hu; exact hactive)
    obtain ⟨-, hnow, -, -, -, hptb, -, -, -, -, hscu, -⟩ := u.withdraw_frame .foreign
    refine ⟨_, exec_cueFrame_hearOwn ha hv hsig hn dt, ?_⟩
    rw [hclear, State.afterSlots_of_same _ _ (by rw [hscu]; subst hu; rfl) (by rw [hscu]; subst hu; rfl)]
    refine ⟨by rw [hnow]; subst hu; rfl, by rw [hstc]; subst hu; rfl, by rw [hptb]; subst hu; rfl, ?_⟩
    calc _ = { ({ u.withdraw .foreign with ni := u.ni, stc := u.stc } : State) with
            now := s.now, ni := s.ni, ptb := s.ptb, stc := s.stc } := rfl
      _ = s := by rw [hrest]; subst hu; rfl
  case foreign =>
    have hheard : (s.netted dt).hearForeign f.src
        = (s.netted dt).setPtb (foreignHeard f.src ((s.now + dt) / 1000) s.ptb) :=
      (State.hearForeign_untold (s := s.netted dt) hk hs).trans (State.markedForeign_of_seen (s := s.netted dt) hseen)
    rw [exec_frameCommand, hr.receive dt, State.deliverForeign_heard (by exact hstop), hheard,
      State.afterSlots_of_same ((s.netted dt).setPtb _) s.scu rfl rfl]
    rfl
  case stops =>
    obtain ⟨⟨hlatch, hcauses, hfirst, hincidents, hhalted, hchain, -⟩, hptb⟩ := hr.stopped hk hs hseen hlevel dt
    exact ⟨_, rfl, hlatch, hcauses, hfirst, hincidents, hhalted, hchain, hptb⟩
  case raises =>
    rw [exec_frameCommand]
    refine ⟨_, rfl, fun hk => ?_, fun hun hlen => ?_, fun hroom => ?_⟩
    · obtain ⟨u, ⟨t, hu, ht, -⟩, he⟩ := hr.raises hv hnone hstop hs (.inl hk) dt
      obtain ⟨-, -, -, -, -, hptb, -⟩ := u.raise_frame .foreign
      rw [he, hptb, hu]
      exact ht hk
    · obtain ⟨u, ⟨t, hu, -, ht⟩, he⟩ := hr.raises hv hnone hstop hs (.inr hlen) dt
      obtain ⟨-, -, -, -, -, hptb, -⟩ := u.raise_frame .foreign
      rw [he, hptb, hu]
      exact ht hun
    · obtain ⟨u, ⟨t, hu, -, -⟩, he⟩ := hr.raises hv hnone hstop hs hroom dt
      rw [he]
      have hul : u.Latched := State.StopsSound.latched (s := u) (by subst hu; exact hsound)
      have hua : u.active = true := by subst hu; exact hr.1
      obtain ⟨hcauses, -, hinc⟩ := State.raise_stc_new (s := u) (c := .foreign) hua (by subst hu; exact hcause)
      have hlatch := hul.raise_latch hua .foreign
      obtain ⟨hvehicle, hseats, -⟩ := u.raise_rm_silence .foreign
      obtain ⟨h1, h2⟩ := u.raise_sameSlots .foreign
      obtain ⟨-, -, -, hcfg, hcfs, -, hsck, -⟩ := u.raise_frame .foreign
      have hrides := u.raise_rides .foreign
      refine ⟨?_, ?_, ⟨u.incidentNow (.local_ .foreign) 1 u.cfg.opt.station, ?_, ?_⟩, ?_⟩
      · rw [hcauses]; subst hu; rfl
      · rw [hlatch]; subst hu; rfl
      · rw [hinc]; exact List.getLast?_concat
      · subst hu; exact ⟨rfl, rfl, rfl, rfl⟩
      · rw [h1, h2, hsck, hrides.known, hrides.entryIndex, hrides.distance, hvehicle, hseats, hcfg, hcfs]
        subst hu
        exact ⟨rfl, rfl, rfl, rfl, rfl, rfl, rfl, rfl, rfl, rfl⟩
  case reclaims =>
    have hroom : s.ni.queue.length < 6 := by omega
    have he := hr.reclaims hdue hseen hstop hw hx hb hk hpin hsound hc hroom ho dt
    generalize hv : (s.netted dt).setPtb (foreignHeard f.src ((s.now + dt) / 1000) s.ptb) = v at he
    have hqueue : v.ni.queue.length < 6 := by
      subst hv
      exact (congrArg List.length (Ni.measure_queue ..)).trans_lt hroom
    obtain ⟨hst, hscene, hwindow, hblock, -, -, hclaim⟩ := State.enterClaiming_slots (k := k) (x := x) hqueue
    rw [exec_frameCommand, he]
    refine ⟨_, rfl, hst, hscene, ?_, hblock, hclaim, fun p hp => carries_namePin_none hp, ?_⟩
    · subst hv; exact hwindow
    · obtain ⟨-, hnow, -, hcfg, hcfs, -, hsau, hdsc, hrm, hrsq, hspe, hstc, -⟩ := v.enterClaiming_frame k x
      subst hv
      exact ⟨hdsc, hsau, hrsq, hrm, hspe, hstc, hcfg, hcfs, hnow⟩

namespace Sys2Proof.Machine

/-! ### The stations of the table (R45) -/

/-- The stations that have a record, in table order. -/
def State.stations (s : State) : List Nat := s.ptb.map Peer.station

theorem State.peersSound_iff (s : State) : s.PeersSound ↔ s.stations.length ≤ 24 ∧ s.stations.Nodup := by
  simp [State.PeersSound, State.stations]

theorem State.mem_stations {s : State} {n : Nat} : n ∈ s.stations ↔ ∃ p ∈ s.ptb, p.station = n := List.mem_map

theorem State.peer_eq_none_iff {s : State} {n : Nat} : s.peer n = none ↔ n ∉ s.stations := by
  simp [State.peer, State.mem_stations]

/-- Records may have left the table; none has joined it, and none has changed its place or its station. -/
def State.Thins (s t : State) : Prop := t.stations.Sublist s.stations

theorem State.Thins.refl (s : State) : s.Thins s := List.Sublist.refl _

theorem State.Thins.trans {s t u : State} (h : s.Thins t) (k : t.Thins u) : s.Thins u := List.Sublist.trans k h

theorem State.thins_of_stations {s t : State} (h : t.stations = s.stations) : s.Thins t := by rw [State.Thins, h]

theorem State.thins_of_ptb {s t : State} (h : t.ptb = s.ptb) : s.Thins t :=
  State.thins_of_stations (congrArg (List.map Peer.station) h)

theorem State.thins_of_empty {s t : State} (h : t.ptb = []) : s.Thins t := by
  rw [State.Thins, State.stations, h]
  exact List.nil_sublist _

theorem State.Thins.sound {s t : State} (h : s.Thins t) (hs : s.PeersSound) : t.PeersSound := by
  rw [State.peersSound_iff] at hs ⊢
  exact ⟨h.length_le.trans hs.1, h.nodup hs.2⟩

theorem State.Thins.not_mem {s t : State} (h : s.Thins t) {n : Nat} (hn : n ∉ s.stations) : n ∉ t.stations :=
  fun ht => hn (h.subset ht)

/-! ### Changes of a record in place -/

theorem Peer.setPin_station (f : Pin) (b : Bool) (p : Peer) : (p.setPin f b).station = p.station := by
  obtain _ | _ | _ := f <;> rfl

/-- A pin moves from record to record, and each keeps its station (R57). -/
theorem State.setPtb_namePin_thins (f : Pin) (station : Option Nat) (s : State) :
    s.Thins (s.setPtb (namePin f station s.ptb)) :=
  State.thins_of_stations (by simp [State.stations, namePin, Peer.setPin_station])

theorem State.mapPeer_thins (station : Nat) (f : Peer → Peer) (s : State)
    (hf : ∀ p, (f p).station = p.station := by intro p; rfl) : s.Thins (s.mapPeer station f) := by
  refine State.thins_of_stations ?_
  simp only [State.stations, State.mapPeer, State.setPtb_ptb, List.map_map]
  refine List.map_congr_left fun p _ => ?_
  simp only [Function.comp]
  split
  · exact hf p
  · rfl

/-! ### Removals, pins and slots -/

theorem State.raise_thins (c : Cause) (s : State) : s.Thins (s.raise c) := State.thins_of_ptb (by simp)

theorem State.foreignAfter_thins (before : Bool) (s : State) : s.Thins (s.foreignAfter before) :=
  State.thins_of_ptb (by simp)

section
variable {tell : Nat → State → State} (htell : ∀ n t, State.Thins t (tell n t))
include htell

theorem State.removeWith_thins (station : Nat) (s : State) : s.Thins (s.removeWith tell station) := by
  have gone : s.Thins (s.setPtb (s.ptb.filter fun r => r.station ≠ station)) := List.filter_sublist.map _
  have h := gone.trans (State.foreignAfter_thins s.foreignSeen _)
  simp only [State.removeWith]
  split
  · exact .refl s
  · split
    · exact h.trans (htell ..)
    · exact h

theorem State.pinWith_thins (f : Pin) (station : Option Nat) (s : State) : s.Thins (s.pinWith tell f station) := by
  have h := s.setPtb_namePin_thins f station
  simp only [State.pinWith]
  split
  · exact h
  · split
    · exact h
    · split
      · exact h.trans (State.removeWith_thins htell ..)
      · exact h

theorem State.liftWith_thins (k : SlotId) (s : State) : s.Thins (s.liftWith tell k) := by
  simp only [State.liftWith]
  split
  · exact .refl s
  · split
    · exact (State.thins_of_ptb rfl).trans (State.pinWith_thins htell ..)
    · exact (State.thins_of_ptb (by simp)).trans (State.pinWith_thins htell ..)

end

theorem State.tellGone_thins (n station : Nat) (s : State) : s.Thins (s.tellGone n station) := by
  induction n generalizing station s with
  | zero => exact .refl s
  | succ n ih =>
    have lift (k : SlotId) (t : State) : t.Thins (if (t.scu.slot k).waitsOn station then
        t.liftWith (State.tellGone n) k else t) := by
      split
      · exact State.liftWith_thins ih k t
      · exact .refl t
    exact (lift .one s).trans (lift .two _)

theorem State.tellScu_thins (station : Nat) (s : State) : s.Thins (s.tellScu station) := s.tellGone_thins ..

theorem State.removePeer_thins (station : Nat) (s : State) : s.Thins (s.removePeer station) :=
  State.removeWith_thins State.tellScu_thins station s

theorem State.pin_thins (f : Pin) (station : Option Nat) (s : State) : s.Thins (s.pin f station) :=
  State.pinWith_thins State.tellScu_thins f station s

theorem State.liftBlock_thins (k : SlotId) (s : State) : s.Thins (s.liftBlock k) :=
  State.liftWith_thins State.tellScu_thins k s

theorem State.enterWaiting_thins (k : SlotId) (x station : Nat) (s : State) : s.Thins (s.enterWaiting k x station) := by
  simp only [State.enterWaiting]
  split
  · exact (State.thins_of_ptb (by simp)).trans (State.pin_thins ..)
  · exact (State.thins_of_ptb (by simp)).trans (State.liftBlock_thins ..)

theorem State.freeSlot_thins (frame : Bool) (k : SlotId) (s : State) : s.Thins (s.freeSlot frame k) := by
  have notice (u : State) (h : u.ptb = s.ptb) : s.Thins (if (s.scu.slot k).state = .waiting then
      u.slotNotice.pin (.slot k) none else u.slotNotice) := by
    have hn : s.Thins u.slotNotice := State.thins_of_ptb (by simp [h])
    split
    · exact hn.trans (State.pin_thins ..)
    · exact hn
  refine notice _ ?_
  split <;> simp

theorem State.claimAction_thins (x : Nat) (s : State) : s.Thins (s.claimAction x) := by
  simp only [State.claimAction]
  split
  · exact .refl s
  · split
    · exact State.thins_of_ptb (by simp)
    · split
      · exact s.enterWaiting_thins ..
      · exact State.thins_of_ptb (by simp)

theorem State.freeAction_thins (x : Nat) (s : State) : s.Thins (s.freeAction x) := by
  simp only [State.freeAction]
  split
  · exact s.freeSlot_thins ..
  · split
    · exact s.freeSlot_thins ..
    · exact .refl s

theorem State.claimHeard_thins (src x : Nat) (k : SlotId) (s : State) : s.Thins (s.claimHeard src x k) := by
  simp only [State.claimHeard]
  split
  · exact s.enterWaiting_thins ..
  · exact .refl s

theorem State.freeHeard_thins (src x : Nat) (k : SlotId) (s : State) : s.Thins (s.freeHeard src x k) := by
  simp only [State.freeHeard]
  split
  · exact s.liftBlock_thins _
  · exact .refl s

theorem State.posHeard_thins (src : Nat) (held : List Nat) (claiming : Option Nat) (k : SlotId) (s : State) :
    s.Thins (s.posHeard src held claiming k) := by
  simp only [State.posHeard]
  split
  · exact .refl s
  · split
    · exact .refl s
    · split
      · exact s.enterWaiting_thins ..
      · exact .refl s
    · split
      · exact s.liftBlock_thins _
      · exact .refl s
    · split
      · exact (s.freeSlot_thins ..).trans (State.raise_thins ..)
      · exact .refl s

theorem State.windowExpired_thins (k : SlotId) (s : State) : s.Thins (s.windowExpired k) := by
  simp only [State.windowExpired]
  split
  · exact .refl s
  · split
    · exact s.enterWaiting_thins ..
    · exact State.thins_of_ptb (by simp)

theorem State.makeRoom_thins (s : State) : s.Thins s.makeRoom := by
  simp only [State.makeRoom]
  split
  · exact .refl s
  · split
    · exact s.removePeer_thins _
    · exact .refl s

theorem State.staleNow_thins (station : Nat) (s : State) : s.Thins (s.staleNow station) := by
  simp only [State.staleNow]
  split
  · exact .refl s
  · split
    · exact s.removePeer_thins _
    · exact s.mapPeer_thins ..

theorem State.dropNow_thins (station : Nat) (s : State) : s.Thins (s.dropNow station) := by
  simp only [State.dropNow]
  split
  · exact .refl s
  · split
    · exact .refl s
    · exact s.removePeer_thins _

/-! ### The route -/

theorem State.sceneAction_thins (s : State) : s.Thins s.sceneAction := by
  simp only [State.sceneAction]
  split
  · exact s.claimAction_thins _
  · exact s.freeAction_thins _
  · exact .refl s

theorem State.enterEntry_thins (i d : Nat) (s : State) : s.Thins (s.enterEntry i d) := by
  have before : s.Thins (s.entering i d).soundAction := State.thins_of_ptb (by simp [State.entering_frame])
  rw [State.enterEntry_eq]
  exact (before.trans (State.sceneAction_thins _)).trans (State.thins_of_ptb (by simp [State.entryRest_frame]))

theorem State.advance_thins (passed inTime : Bool) (carry : Nat) (s : State) :
    s.Thins (s.advance passed inTime carry) := by
  have h : s.Thins (if passed then s.raise .overrun else s) := by
    split
    · exact State.thins_of_ptb (by simp)
    · exact .refl s
  have left (t : State) (r : Rsq) : t.Thins (t.setRsq r) := State.thins_of_ptb rfl
  exact (h.trans (left _ _)).trans (State.enterEntry_thins ..)

theorem State.runEnds_thins (n : Nat) (s : State) : s.Thins (s.runEnds n) := by
  induction n generalizing s with
  | zero => exact .refl s
  | succ n ih =>
    simp only [State.runEnds]
    split
    · exact .refl s
    · exact State.thins_of_ptb rfl
    · exact State.thins_of_ptb (by simp)
    · exact (s.advance_thins ..).trans (ih _)

theorem State.settleEnds_thins (s : State) : s.Thins s.settleEnds := by
  simp only [State.settleEnds]
  split
  · exact s.runEnds_thins _
  · exact .refl s

theorem State.actOnRelease_thins (s : State) : s.Thins s.actOnRelease := by
  simp only [State.actOnRelease]
  split
  · exact s.settleEnds_thins
  · exact .refl s

theorem State.afterSlots_thins (before : Scu) (s : State) : s.Thins (s.afterSlots before) := by
  simp only [State.afterSlots]
  split
  · exact (State.thins_of_ptb (by simp)).trans (State.actOnRelease_thins _)
  · exact .refl s

theorem State.routePulse_thins (s : State) : s.Thins s.routePulse := by
  simp only [State.routePulse]
  split
  · exact (State.thins_of_ptb rfl).trans (State.settleEnds_thins _)
  · exact .refl s

theorem State.chainAndRoute_thins (s : State) : s.Thins s.chainAndRoute := by
  simp only [State.chainAndRoute]
  split
  · exact (State.thins_of_ptb (by simp)).trans (State.routePulse_thins _)
  · exact s.routePulse_thins

theorem State.pulseWithLoss_thins (s : State) : s.Thins s.pulseWithLoss := by
  have h : s.Thins s.settled := State.thins_of_ptb rfl
  have chain (t : State) : t.Thins t.chainPulse := State.thins_of_ptb (by simp)
  simp only [State.pulseWithLoss]
  split
  · exact (h.trans (State.raise_thins ..)).trans (State.chainAndRoute_thins _)
  · split
    · exact ((h.trans (chain _)).trans (State.raise_thins ..)).trans (State.routePulse_thins _)
    · exact (h.trans (State.raise_thins ..)).trans (State.routePulse_thins _)
  · exact (h.trans (State.chainAndRoute_thins _)).trans (State.raise_thins ..)

theorem State.pulse_thins (s : State) : s.Thins s.pulse := by
  have h : s.Thins (s.setDsc (s.dsc.pulse s.cfg.opt)) := State.thins_of_ptb rfl
  simp only [State.pulse]
  split
  · exact (h.trans (State.pulseWithLoss_thins _)).trans (State.afterSlots_thins ..)
  · exact (h.trans (State.chainAndRoute_thins _)).trans (State.afterSlots_thins ..)

theorem State.disagreement_thins (s : State) : s.Thins s.disagreement := by
  simp only [State.disagreement]
  split
  · exact (s.advance_thins ..).trans (State.settleEnds_thins _)
  · exact State.thins_of_ptb (by simp)

theorem State.inTimeRead_thins (s : State) : s.Thins s.inTimeRead := by
  have h (r : Rsq) : s.Thins (s.setRsq r) := State.thins_of_ptb rfl
  simp only [State.inTimeRead]
  split
  · exact (h _).trans (State.thins_of_ptb rfl)
  · exact ((h _).trans (State.advance_thins ..)).trans (State.settleEnds_thins _)

theorem State.readMarker_thins (id : Nat) (s : State) : s.Thins (s.readMarker id) := by
  simp only [State.readMarker]
  split
  · split
    · exact .refl s
    · split
      · exact s.inTimeRead_thins
      · exact s.disagreement_thins
  · split
    · exact .refl s
    · split
      · split
        · exact .refl s
        · exact State.thins_of_ptb (by simp)
      · exact s.disagreement_thins

theorem State.markerHeard_thins (id : Nat) (s : State) : s.Thins (s.markerHeard id) := by
  simp only [State.markerHeard]
  split
  · exact (s.readMarker_thins id).trans (State.afterSlots_thins ..)
  · exact .refl s

theorem State.relocate_thins (e d : Nat) (s : State) : s.Thins (s.relocate e d) := by
  simp only [State.relocate]
  split
  · exact ((State.thins_of_ptb (by simp)).trans (State.enterEntry_thins ..)).trans (State.settleEnds_thins _)
  · exact .refl s

theorem State.dwellOver_thins (s : State) : s.Thins s.dwellOver := by
  have h (r : Rsq) : s.Thins (s.setRsq r) := State.thins_of_ptb rfl
  exact ((h _).trans (State.actOnRelease_thins _)).trans (State.afterSlots_thins ..)

theorem State.controlPeriod_thins (coils : Coils) (s : State) : s.Thins (s.controlPeriod coils) := by
  have close : s.Thins s.restartPeriod.closeCount := State.thins_of_ptb (by simp)
  have authority (u : State) : u.Thins u.computeAuthority := (State.thins_of_ptb rfl).trans (State.pin_thins ..)
  have drive (u : State) : u.Thins (u.periodTransition.setCommand.guideStep coils) := State.thins_of_ptb (by simp)
  exact (((close.trans (authority _)).trans (drive _)).trans (State.actOnRelease_thins _)).trans
    (State.afterSlots_thins ..)

/-! ### Grants and RESUME -/

theorem State.grant_thins (src : Nat) (kind : GrantKind) (s : State) : s.Thins (s.grant src kind) := by
  cases kind with
  | unlock => exact State.thins_of_ptb (by simp [State.grant])
  | lock => exact State.thins_of_ptb (by simp [State.grant])
  | wake => exact .refl s
  | dispatch =>
    simp only [State.grant, State.grantDispatch]
    split
    · exact (State.thins_of_ptb rfl).trans (State.actOnRelease_thins _)
    · exact .refl s
  | park =>
    simp only [State.grant, State.grantPark]
    split
    · exact State.thins_of_empty rfl
    · exact .refl s

theorem State.notifyFall_thins (level : Nat) (s : State) : s.Thins (s.notifyFall level) := by
  have drive (t : State) : t.Thins (t.driveAfterFall level) :=
    (State.thins_of_ptb (by simp)).trans (State.actOnRelease_thins _)
  have chain (t : State) : t.Thins (t.chainAfterFall level) := State.thins_of_ptb (by simp)
  have alarm (t : State) : t.Thins (t.alarmTest level) := State.thins_of_ptb (by simp)
  have order {a b c : State → State} (ha : ∀ t : State, t.Thins (a t)) (hb : ∀ t : State, t.Thins (b t))
      (hc : ∀ t : State, t.Thins (c t)) : s.Thins (c (b (a s.settled))) :=
    (((State.thins_of_ptb rfl).trans (ha s.settled)).trans (hb _)).trans (hc _)
  exact State.inAnyOrder_of (P := s.Thins) _ _ _ s (order drive chain alarm) (order drive alarm chain)
    (order chain drive alarm) (order chain alarm drive) (order alarm drive chain) (order alarm chain drive)

theorem State.resume_thins (s : State) : s.Thins s.resume := by
  have h : s.Thins s.withdrawLatched.setLatch := State.thins_of_ptb (by simp)
  simp only [State.resume]
  split
  · exact h.trans (State.notifyFall_thins ..)
  · exact h

/-! ### Wakes and the service link -/

theorem State.wake_thins (r : WakeReason) (s : State) : s.Thins (s.wake r) :=
  State.thins_of_empty (by rw [State.wake_eq]; simp [State.woken])

theorem State.seatSample_thins (raw : List SeatInput) (s : State) : s.Thins (s.seatSample raw) := by
  have h : s.Thins (s.sampled raw) := State.thins_of_ptb rfl
  simp only [State.seatSample]
  split
  · split
    · exact h
    · exact h.trans (State.wake_thins ..)
  · exact h.trans (State.thins_of_ptb (by simp))

theorem State.loadEnds_thins (memory : List Byte) (s : State) : s.Thins (s.loadEnds memory) := by
  simp only [State.loadEnds, State.endLoad]
  split
  · split
    · exact State.thins_of_ptb (by rw [State.ready_eq]; simp [State.configured])
    · exact State.thins_of_ptb (by simp)
  · exact .refl s

theorem State.serve_thins {act : State → State × Reply} (h : ∀ s : State, s.Thins (act s).1) (s : State) :
    s.Thins (s.serve act) := by
  simp only [State.serve]
  split
  · exact (h s).trans (State.thins_of_ptb rfl)
  · exact .refl s

theorem State.awake_thins (s : State) : s.Thins s.awake := by
  simp only [State.awake]
  split
  · exact s.wake_thins _
  · exact .refl s

theorem serviceStop_thins (on : Bool) (s : State) : s.Thins (serviceStop on s).1 := by
  simp only [serviceStop]
  split
  · exact .refl s
  · split
    · exact s.awake_thins.trans (State.thins_of_ptb (by simp))
    · exact s.awake_thins.trans (State.thins_of_ptb (by simp))

theorem parkCommand_thins (s : State) : s.Thins (parkCommand s).1 := by
  simp only [parkCommand]
  split
  · exact State.thins_of_empty rfl
  · exact .refl s

theorem restartCommand_thins (s : State) : s.Thins (restartCommand s).1 := by
  simp only [restartCommand]
  split
  · exact .refl s
  · exact State.thins_of_ptb rfl

theorem testClipCommand_thins (clip : Nat) (s : State) : s.Thins (testClipCommand clip s).1 := by
  simp only [testClipCommand]
  split
  · exact .refl s
  · split
    · exact .refl s
    · exact s.awake_thins.trans (State.thins_of_ptb (by simp))

theorem ServiceCommand.act_thins (c : ServiceCommand) (s : State) : s.Thins (c.act s).1 := by
  cases c with
  | clearIncidents => exact State.thins_of_ptb rfl
  | stopOn => exact serviceStop_thins true s
  | stopOff => exact serviceStop_thins false s
  | park => exact parkCommand_thins s
  | restart => exact restartCommand_thins s
  | testClip clip => exact testClipCommand_thins clip s
  | _ => exact .refl s

theorem actLine_thins (line : String) (s : State) : s.Thins (actLine line s).1 := by
  simp only [actLine]
  split
  · exact ServiceCommand.act_thins _ s
  · exact .refl s

theorem State.replySent_thins (s : State) : s.Thins s.replySent := by
  simp only [State.replySent]
  split
  · split
    · exact State.thins_of_empty rfl
    · exact State.thins_of_ptb rfl
  · exact .refl s

end Sys2Proof.Machine

namespace Sys2Proof.Machine

/-! ### Hearings, the only joins to the table (R48) -/

/-- A first hearing joins a table that has room, from a station that has no record (R45, R48, R49). -/
theorem State.addPeer_sound {s : State} (h : s.PeersSound) {station : Nat} (hn : station ∉ s.stations)
    (foreign : Bool) : (s.addPeer station foreign).PeersSound := by
  have room : s.makeRoom.PeersSound := s.makeRoom_thins.sound h
  have absent : station ∉ s.makeRoom.stations := s.makeRoom_thins.not_mem hn
  simp only [State.addPeer]
  split
  case isTrue hlen =>
    refine (State.foreignAfter_thins ..).sound ?_
    rw [State.peersSound_iff] at room ⊢
    have hst : (s.makeRoom.setPtb (s.makeRoom.ptb ++ [Peer.first station s.makeRoom.ms foreign])).stations
        = s.makeRoom.stations ++ [station] := by simp [State.stations, Peer.first]
    rw [hst]
    refine ⟨?_, room.2.append (List.nodup_singleton _) (by simpa using absent)⟩
    simpa [State.stations] using hlen
  case isFalse => exact room

theorem State.hearOwn_sound {s : State} (h : s.PeersSound) (src : Nat) : (s.hearOwn src).PeersSound := by
  simp only [State.hearOwn]
  split
  · exact ((s.mapPeer_thins ..).trans (State.foreignAfter_thins ..)).sound h
  · next hn => exact State.addPeer_sound h (State.peer_eq_none_iff.mp (by simpa using hn)) false

theorem State.hearForeign_sound {s : State} (h : s.PeersSound) (src : Nat) : (s.hearForeign src).PeersSound := by
  simp only [State.hearForeign]
  split
  · next hn => exact State.addPeer_sound h (State.peer_eq_none_iff.mp hn) true
  · split
    · exact (((s.mapPeer_thins ..).trans (State.foreignAfter_thins ..)).trans (State.tellScu_thins ..)).sound h
    · exact ((s.mapPeer_thins ..).trans (State.foreignAfter_thins ..)).sound h

theorem State.hear_sound {s : State} (h : s.PeersSound) (src : Nat) : (s.hear src).PeersSound := by
  simp only [State.hear]
  split
  · exact State.hearOwn_sound h src
  · exact h

theorem State.hearPos_sound {s : State} (h : s.PeersSound) (src : Nat) (b : PosBody) : (s.hearPos src b).PeersSound :=
  (((State.posHeard_thins ..).trans (State.posHeard_thins ..)).trans (State.mapPeer_thins ..)).sound
    (State.hearOwn_sound h src)

theorem State.hearSync_sound {s : State} (h : s.PeersSound) (src : Nat) : (s.hearSync src).PeersSound :=
  (State.mapPeer_thins ..).sound (State.hearOwn_sound h src)

/-! ### Receptions -/

/-- A hearing and an action that thins the table, in either order (R33). -/
theorem State.inEitherOrder_sound {hear g : State → State} {s : State} (h : s.PeersSound)
    (hh : ∀ t : State, t.PeersSound → (hear t).PeersSound) (hg : ∀ t : State, t.Thins (g t)) :
    (s.inEitherOrder hear g).PeersSound :=
  State.inEitherOrder_keeps ((State.thins_of_ptb (t := s.settled) rfl).sound h) hh fun t ht => (hg t).sound ht

theorem State.frameLevel_thins (level : Nat) (c : StopCause) (o : Nat) (s : State) : s.Thins (s.frameLevel level c o) :=
  State.thins_of_ptb (by simp)

theorem State.deliver_sound {s : State} (h : s.PeersSound) (src : Nat) (b : Body) : (s.deliver src b).PeersSound := by
  have hear (t : State) (ht : t.PeersSound) : (t.hear src).PeersSound := State.hear_sound ht src
  cases b with
  | pos p =>
    have hpos (t : State) (ht : t.PeersSound) : (t.hearPos src p).PeersSound := State.hearPos_sound ht src p
    simp only [State.deliver, State.deliverPos]
    split
    · exact State.inEitherOrder_sound h hpos (State.frameLevel_thins _ _ _)
    · exact hpos s h
  | stop level code =>
    simp only [State.deliver, State.deliverStop]
    split
    · exact State.inEitherOrder_sound h hear (State.frameLevel_thins _ _ _)
    · exact hear s h
  | resume => exact State.inEitherOrder_sound h hear State.resume_thins
  | claim x =>
    exact State.inEitherOrder_sound h hear fun t => (t.claimHeard_thins ..).trans (State.claimHeard_thins ..)
  | free x => exact State.inEitherOrder_sound h hear fun t => (t.freeHeard_thins ..).trans (State.freeHeard_thins ..)
  | cue _ => exact hear s h
  | cuest c => exact State.inEitherOrder_sound h hear fun t => State.thins_of_ptb (by simp)
  | sync time scene =>
    exact State.inEitherOrder_sound h (fun t ht => State.hearSync_sound ht src) fun t => State.thins_of_ptb (by simp)
  | grant target kind =>
    simp only [State.deliver, State.deliverGrant]
    split
    · exact State.inEitherOrder_sound h hear (State.grant_thins src kind)
    · exact hear s h
  | fix target entry distance =>
    simp only [State.deliver, State.deliverFix]
    split
    · exact State.inEitherOrder_sound h hear (State.relocate_thins entry distance)
    · exact hear s h
  | clear target => exact (State.removePeer_thins ..).sound (hear s h)

theorem State.deliverForeign_sound {s : State} (h : s.PeersSound) (src : Nat) (b : Body) :
    (s.deliverForeign src b).PeersSound := by
  have hear (t : State) (ht : t.PeersSound) : (t.hearForeign src).PeersSound := State.hearForeign_sound ht src
  cases b with
  | stop level code =>
    simp only [State.deliverForeign]
    split
    · exact State.inEitherOrder_sound h hear (State.frameLevel_thins _ _ _)
    · exact hear s h
  | _ => exact hear s h

theorem State.receive_sound {s : State} (h : s.PeersSound) (f : Frame) : (s.receive f).PeersSound := by
  have carrier : s.carrierFalls.PeersSound := (State.thins_of_ptb (by simp)).sound h
  simp only [State.receive, State.examine]
  split
  · split
    · exact (State.wake_thins ..).sound carrier
    · exact carrier
  · split
    · have net : s.carrierFalls.netHeard.PeersSound := (State.thins_of_ptb (by simp)).sound carrier
      simp only [State.handleFrame]
      refine (State.afterSlots_thins ..).sound ?_
      split
      · exact State.deliver_sound net _ _
      · exact State.deliverForeign_sound net _ _
    · exact carrier

theorem State.receiveBytes_sound {s : State} (h : s.PeersSound) (bytes : List Byte) :
    (s.receiveBytes bytes).PeersSound := by
  simp only [State.receiveBytes]
  split
  · exact State.receive_sound h _
  · exact (State.thins_of_ptb (by simp)).sound h

/-! ### Every command -/

theorem State.ifPowered_thins {act : State → State} (h : ∀ s : State, s.Thins (act s)) (s : State) :
    s.Thins (s.ifPowered act) := by
  simp only [State.ifPowered]
  split
  · exact h s
  · exact .refl s

theorem State.onExpiry_thins (dt : Nat) (x : Timer) {act : State → State} (h : ∀ s : State, s.Thins (act s))
    (s : State) : s.Thins (s.onExpiry dt x act) := by
  simp only [State.onExpiry]
  split
  · exact (State.thins_of_ptb rfl).trans (h _)
  · exact State.thins_of_ptb rfl

/-- Every command keeps the table: a received frame may bring one record, and any other command thins it. -/
theorem exec_peersSound {s t : State} (c : Instr) (hs : s.PeersSound) (h : exec c s = .next t) : t.PeersSound := by
  have e (dt : Nat) {f : State → State} (hf : ∀ u : State, u.Thins (f u)) : (f (s.elapse dt)).PeersSound :=
    ((State.thins_of_ptb (s := s) rfl).trans (hf (s.elapse dt))).sound hs
  have expiry (dt : Nat) (x : Timer) {act : State → State} (hact : ∀ u : State, u.Thins (act u)) :
      (s.onExpiry dt x act).PeersSound := (s.onExpiry_thins dt x hact).sound hs
  have slots {f : State → State} (hf : ∀ u : State, u.Thins (f u)) (u : State) :
      u.Thins ((f u).afterSlots u.scu) := (hf u).trans (State.afterSlots_thins ..)
  cases c <;> cases h
  case powerOn | powerLoss => exact (State.thins_of_empty rfl).sound hs
  case resetInput dt => exact e dt (State.ifPowered_thins fun u => State.thins_of_empty rfl)
  case loadEnd dt memory => exact e dt (State.loadEnds_thins memory)
  case candidateDiscarded dt bytes => exact State.receiveBytes_sound (s := s.elapse dt) hs bytes
  case carrierBusy dt => exact e dt (State.ifPowered_thins fun u => State.thins_of_ptb rfl)
  case frameTransmit dt => exact (State.thins_of_ptb (by simp)).sound hs
  case posPeriodTimerExpiry dt => exact expiry dt _ fun u => State.thins_of_ptb (by simp)
  case netSilenceTimerExpiry dt => exact expiry dt _ fun u => State.thins_of_ptb (by simp)
  case staleTime dt station => exact expiry dt _ (slots (State.staleNow_thins station))
  case dropTime dt station => exact expiry dt _ (slots (State.dropNow_thins station))
  case claimWindowExpiry dt k => exact expiry dt _ (slots (State.windowExpired_thins k))
  case odometerPulse dt =>
    refine e dt (f := fun u => if u.active then u.pulse else u) fun u => ?_
    split
    · exact u.pulse_thins
    · exact .refl u
  case markerRead dt id => exact e dt (State.markerHeard_thins id)
  case dwellTimerExpiry dt => exact expiry dt _ State.dwellOver_thins
  case controlPeriodExpiry dt coils => exact expiry dt _ (State.controlPeriod_thins coils)
  case sampleTimerExpiry dt raw => exact expiry dt _ (State.seatSample_thins raw)
  case confirmTimerExpiry dt seat => exact expiry dt _ fun u => State.thins_of_ptb (by simp)
  case contradictionTimerExpiry dt seat => exact expiry dt _ fun u => State.thins_of_ptb (by simp)
  case pendingTimerExpiry dt => exact expiry dt _ fun u => State.thins_of_ptb (by simp)
  case cueTimeout dt ref => exact expiry dt _ fun u => State.thins_of_ptb (by simp)
  case lateWindowExpiry dt ref => exact expiry dt _ fun u => State.thins_of_ptb (by simp)
  case referenceSilent dt => exact expiry dt _ fun u => State.thins_of_ptb (by simp)
  case samplePeriod dt => exact e dt (f := State.soundPeriod) fun u => State.thins_of_ptb (by simp)
  case transferCompletion dt samples => exact e dt (State.ifPowered_thins fun u => State.thins_of_ptb rfl)
  case clearIncidents dt => exact e dt (State.serve_thins fun u => State.thins_of_ptb rfl)
  case serviceStopOn dt => exact e dt (State.serve_thins (serviceStop_thins true))
  case serviceStopOff dt => exact e dt (State.serve_thins (serviceStop_thins false))
  case park dt => exact e dt (State.serve_thins parkCommand_thins)
  case restart dt => exact e dt (State.serve_thins restartCommand_thins)
  case testClip dt clip => exact e dt (State.serve_thins (testClipCommand_thins clip))
  case unknownCommand dt line => exact e dt (State.serve_thins (actLine_thins line))
  case serviceReplySent dt => exact e dt State.replySent_thins
  case status dt | readRoute dt | readPeers dt | readSeats dt | readScenes dt | readVoices dt | readClock dt
    | readIncidents dt => exact e dt (State.serve_thins .refl)
  case posFrame dt _ _ | stopFrame dt _ _ _ | resumeFrame dt _ | claimFrame dt _ _ | freeFrame dt _ _
    | cueFrame dt _ _ | cuestFrame dt _ _ | syncFrame dt _ _ _ | grantUnlock dt _ _ | grantLock dt _ _
    | grantDispatch dt _ _ | grantPark dt _ _ | grantWake dt _ _ | fixFrame dt _ _ _ _ | clearFrame dt _ _ =>
    exact State.receive_sound (s := s.elapse dt) hs _

end Sys2Proof.Machine

open Sys2Proof.Machine in
/-- Settles O57: a hearing joins one record of a new station to a table with room, and nothing else joins any. -/
theorem peersStaySound : Obligations.PeersStaySound := fun _ _ h hst =>
  step_keeps (P := State.PeersSound) (fun _ _ h => h) (fun c _ _ h he => exec_peersSound c h he) h hst

namespace Sys2Proof.Machine

/-! ### Removals (R56, R59, R60) -/

theorem State.removePeer_of_none {s : State} {n : Nat} (h : s.peer n = none) : s.removePeer n = s := by
  rw [State.removePeer, State.removeWith, h]

/-- A record that is removed does not come back with what follows its removal (R60). -/
theorem State.removePeer_removes (n : Nat) (s : State) : n ∉ (s.removePeer n).stations := by
  cases hp : s.peer n with
  | none => rw [State.removePeer_of_none hp]; exact State.peer_eq_none_iff.mp hp
  | some p =>
    have gone : n ∉ ((s.setPtb (s.ptb.filter fun r => r.station ≠ n)).foreignAfter s.foreignSeen).stations :=
      (State.foreignAfter_thins ..).not_mem (by simp [State.mem_stations])
    simp only [State.removePeer, State.removeWith, hp]
    split
    · exact (State.tellScu_thins ..).not_mem gone
    · exact gone

/-- The removal of a record that no other block depends on, however often the station stands in the table (R60). -/
theorem State.removePeer_untold {s : State} {n : Nat} {p : Peer} (hp : s.peer n = some p) (h1 : p.pin1 = false)
    (h2 : p.pin2 = false) (hscene : p.showsScene = false)
    (hf : ∀ q ∈ s.ptb, q.station = n → q.foreignVehicle = false) :
    s.removePeer n = s.setPtb (s.ptb.filter fun q => q.station ≠ n) := by
  have hseen : (s.setPtb (s.ptb.filter fun q => q.station ≠ n)).foreignSeen = s.foreignSeen := by
    refine Bool.eq_iff_iff.mpr ⟨State.foreignSeen_filter _ s, fun h => ?_⟩
    obtain ⟨q, hq, hqf⟩ := List.any_eq_true.mp h
    have hne : q.station ≠ n := fun he => by simp [hf q hq he] at hqf
    exact List.any_eq_true.mpr ⟨q, List.mem_filter.mpr ⟨hq, by simpa using hne⟩, hqf⟩
  simp only [State.removePeer, State.removeWith, hp, h1, h2, hscene, Bool.or_self, Bool.false_eq_true, if_false]
  exact State.foreignAfter_of_same hseen

/-- The removal of a station none of whose records concerns another block: it need not even have one. -/
theorem State.removePeer_of_unconcerned {s : State} {n : Nat} (h : ∀ p ∈ s.ptb, p.station = n → p.pin1 = false
      ∧ p.pin2 = false ∧ p.showsScene = false ∧ p.foreignVehicle = false) :
    s.removePeer n = s.setPtb (s.ptb.filter fun q => q.station ≠ n) := by
  cases hp : s.peer n with
  | none =>
    have absent : ∀ q ∈ s.ptb, q.station ≠ n := by simpa [State.peer] using hp
    have hall : s.ptb.filter (fun q => q.station ≠ n) = s.ptb := List.filter_eq_self.mpr (by simpa using absent)
    rw [State.removePeer_of_none hp, hall]
    rfl
  | some p =>
    have hst : p.station = n := by simpa using List.find?_some hp
    obtain ⟨h1, h2, hscene, -⟩ := h p (List.mem_of_find?_eq_some hp) hst
    exact State.removePeer_untold hp h1 h2 hscene fun q hq he => (h q hq he).2.2.2

/-- A hearing of the own signature leaves a record's pins and data, and makes no FOREIGN vehicle of it (R50). -/
theorem mem_refreshed {src ms : Nat} {t : List Peer} {p : Peer} (h : p ∈ refreshed src ms t) :
    ∃ q ∈ t, p.station = q.station ∧ p.pin1 = q.pin1 ∧ p.pin2 = q.pin2 ∧ p.showsScene = q.showsScene
      ∧ (q.foreignVehicle = false → p.foreignVehicle = false) := by
  obtain ⟨q, hq, rfl⟩ := List.mem_map.mp h
  refine ⟨q, hq, ?_⟩
  split
  · exact ⟨rfl, rfl, rfl, rfl, fun _ => by simp [Peer.foreignVehicle]⟩
  · exact ⟨rfl, rfl, rfl, rfl, id⟩

/-- A CLEAR: the hearing, the removal of the named record, and the RSQ at the slots (R59). -/
theorem State.Receives.clear {s : State} {h : Header} {x : Nat} (hr : s.Receives ⟨h.src, h.sig, .clear x⟩) (dt : Nat) :
    exec (.clearFrame dt h x) s = .next (((s.heard dt h.src).removePeer x).afterSlots s.scu) := by
  have he : State.deliver h.src (.clear x) (s.netted dt) = (s.heard dt h.src).removePeer x :=
    congrArg (State.removePeer x) (State.hear_netted dt s _ hr)
  exact congrArg Host.Outcome.next
    ((State.receive_of_receives dt s _ hr).trans (congrArg (State.afterSlots s.scu) he))

end Sys2Proof.Machine

open Sys2Proof.Machine in
/-- Settles O27: the record is gone after the removal, nothing that follows brings it back, and where no block is told
of it nothing follows. -/
theorem clearRemovesTheRecord : Obligations.ClearRemovesTheRecord := by
  unfold Obligations.ClearRemovesTheRecord
  refine ⟨fun dt h x s hr => ⟨_, hr.clear dt, fun p hp he => ?_⟩, fun dt h x s hr hx => ?_⟩
  · have gone : x ∉ (((s.heard dt h.src).removePeer x).afterSlots s.scu).stations :=
      (State.afterSlots_thins ..).not_mem (State.removePeer_removes x _)
    exact gone (State.mem_stations.mpr ⟨p, hp, he⟩)
  · have hplain := State.removePeer_of_unconcerned (s := s.heard dt h.src) (n := x) fun p hp hst => by
      obtain ⟨q, hq, hqst, h1, h2, hscene, hforeign⟩ := mem_refreshed hp
      obtain ⟨q1, q2, qscene, qforeign⟩ := hx q hq (hqst ▸ hst)
      exact ⟨h1.trans q1, h2.trans q2, hscene.trans qscene, hforeign qforeign⟩
    rw [hr.clear dt, hplain, State.afterSlots_of_same ((s.heard dt h.src).setPtb _) s.scu rfl rfl]
    rfl

namespace Sys2Proof.Machine

/-! ### Ageing (R55, R56) -/

/-- The age of a record is reached at its moment, and the RSQ acts on a change of the slots. -/
theorem exec_staleTime {s : State} {st : Nat} {p : Peer} (hp : s.peer st = some p) (dt : Nat) :
    exec (.staleTime dt st) s = .next (((s.elapseTo dt ((p.lastHeard + s.cfg.opt.staleTime) * 1000)).staleNow
      st).afterSlots s.scu) := by
  simp only [exec, execStaleTime, State.ageTimer, hp]
  rfl

theorem exec_dropTime {s : State} {st : Nat} {p : Peer} (hp : s.peer st = some p) (dt : Nat) :
    exec (.dropTime dt st) s = .next (((s.elapseTo dt ((p.lastHeard + s.cfg.opt.dropTime) * 1000)).dropNow
      st).afterSlots s.scu) := by
  simp only [exec, execDropTime, State.ageTimer, hp]
  rfl

/-- A record goes STALE, but for an unpinned one that is to be dropped at that moment (R55, R56). -/
theorem State.staleNow_of_kept {s : State} {st : Nat} {p : Peer} (hp : s.peer st = some p)
    (h : p.pinned = true ∨ s.cfg.opt.staleTime ≠ s.cfg.opt.dropTime) :
    s.staleNow st = s.mapPeer st fun r => { r with stale := true } := by
  have hk : (!p.pinned && decide (s.cfg.opt.staleTime = s.cfg.opt.dropTime)) = false := by
    rcases h with h | h <;> simp [h]
  simp only [State.staleNow, hp, hk, Bool.false_eq_true, if_false]

theorem State.dropNow_of_unpinned {s : State} {st : Nat} {p : Peer} (hp : s.peer st = some p) (h : p.pinned = false) :
    s.dropNow st = s.removePeer st := by
  simp [State.dropNow, hp, h]

theorem State.dropNow_of_pinned {s : State} {st : Nat} {p : Peer} (hp : s.peer st = some p) (h : p.pinned = true) :
    s.dropNow st = s := by
  simp [State.dropNow, hp, h]

end Sys2Proof.Machine

open Sys2Proof.Machine in
/-- Settles O30: an aged record goes STALE, is removed, or is kept for its pin, at the moment of its age. -/
theorem ageingRecordsGoStaleAndDrop : Obligations.AgeingRecordsGoStaleAndDrop := by
  unfold Obligations.AgeingRecordsGoStaleAndDrop
  refine ⟨fun dt st p s hp hk => ?stale, fun dt st p s hp hu => ?drops, fun dt st p s hp hu hscene hf => ?untold,
    fun dt st p s hp hpin => ?pinned⟩
  case stale =>
    rw [exec_staleTime hp, State.staleNow_of_kept (s := s.elapseTo dt _) hp hk,
      State.afterSlots_of_same (State.mapPeer st _ (s.elapseTo dt _)) s.scu rfl rfl]
    rfl
  case drops =>
    refine ⟨_, exec_dropTime hp dt, fun q hq he => ?_⟩
    rw [State.dropNow_of_unpinned (s := s.elapseTo dt _) hp hu] at hq
    exact (State.afterSlots_thins ..).not_mem (State.removePeer_removes st _) (State.mem_stations.mpr ⟨q, hq, he⟩)
  case untold =>
    obtain ⟨h1, h2⟩ := Peer.pins_of_unpinned hu
    rw [exec_dropTime hp, State.dropNow_of_unpinned (s := s.elapseTo dt _) hp hu,
      State.removePeer_untold (s := s.elapseTo dt _) hp h1 h2 hscene hf,
      State.afterSlots_of_same ((s.elapseTo dt _).setPtb _) s.scu rfl rfl]
    rfl
  case pinned =>
    rw [exec_dropTime hp, State.dropNow_of_pinned (s := s.elapseTo dt _) hp hpin,
      State.afterSlots_of_same (s.elapseTo dt _) s.scu rfl rfl]
    rfl

namespace Sys2Proof.Machine

/-! ### A CLAIM that a slot yields to (R127, R57) -/

/-- What the change of a slot from CLAIMING to WAITING leaves beside the table. -/
theorem State.slotWaits_yields (k : SlotId) (x y : Nat) (u : State) :
    (u.slotWaits k x y).scu.slot k = ⟨some x, .waiting, none, some y, none⟩
      ∧ ((u.slotWaits k x y).scu.slot (otherSlot k)).state = (u.scu.slot (otherSlot k)).state
      ∧ ((u.slotWaits k x y).scu.slot (otherSlot k)).scene = (u.scu.slot (otherSlot k)).scene
      ∧ (u.slotWaits k x y).scu.chain = u.scu.chain ∧ (u.slotWaits k x y).scu.tracker = u.scu.tracker
      ∧ (u.slotWaits k x y).scu.counters = u.scu.counters ∧ (u.slotWaits k x y).sau = u.sau
      ∧ (u.slotWaits k x y).rm = u.rm ∧ (u.slotWaits k x y).spe = u.spe ∧ (u.slotWaits k x y).cfs = u.cfs
      ∧ (u.slotWaits k x y).now = u.now ∧ (u.slotWaits k x y).powered = u.powered := by
  obtain ⟨-, -, -, -, hscu⟩ := u.slotWaits_frame k x y
  obtain ⟨hchain, htracker, hcounters, -⟩ := u.scu.moveSlot_rest k ⟨some x, .waiting, none, some y, none⟩
  obtain ⟨hstate, hscene⟩ := u.scu.other_moveSlot k ⟨some x, .waiting, none, some y, none⟩
  refine ⟨u.slotWaits_slot k x y, ?_, ?_, ?_, ?_, ?_, by simp [State.slotWaits]⟩
  · rw [hscu]; exact hstate
  · rw [hscu]; exact hscene
  · rw [hscu]; exact hchain
  · rw [hscu]; exact htracker
  · rw [hscu]; exact hcounters

/-- Of the two slots the one that is claiming the scene yields to the lower station, and the other one, which has
another scene or none, leaves the CLAIM (R127). -/
theorem State.claimAtSlots_yields {u : State} {k : SlotId} {p : Peer} {x : Nat} (hs : u.SlotsSound)
    (hk : (u.scu.slot k).state = .claiming) (hx : (u.scu.slot k).scene = some x) (hp : p ∈ u.ptb)
    (hlt : p.station < u.cfg.opt.station) (hpin : ∀ q ∈ u.ptb, q.carries (.slot k) = false) :
    u.claimAtSlots p.station x = u.slotWaits k x p.station := by
  obtain ⟨-, -, hdiff⟩ := hs
  have yields : u.claimHeard p.station x k = u.slotWaits k x p.station :=
    (if_pos ⟨hk, hx, hlt⟩).trans (State.enterWaiting_of_peer x hp hpin)
  have leaves {t : State} {j : SlotId} (h : (t.scu.slot j).scene ≠ some x) : t.claimHeard p.station x j = t :=
    if_neg fun hc => h hc.2.1
  cases k with
  | one =>
    have h2 : ((u.slotWaits .one x p.station).scu.slot .two).scene ≠ some x := by
      have ho : ((u.slotWaits .one x p.station).scu.slot .two).scene = (u.scu.slot .two).scene :=
        (u.slotWaits_yields .one x p.station).2.2.1
      rw [ho]
      intro h
      have hx1 : u.scu.slot1.scene = some x := hx
      exact absurd (hdiff (hx1.trans h.symm)) (by simp [hx1])
    rw [State.claimAtSlots, yields, leaves h2]
  | two =>
    have h1 : (u.scu.slot .one).scene ≠ some x := fun h => by
      have h1 : u.scu.slot1.scene = some x := h
      exact absurd (hdiff (h1.trans hx.symm)) (by simp [h1])
    rw [State.claimAtSlots, leaves h1, yields]

/-- What a CLAIM that the slot yields to leaves (R127, R57). -/
def State.YieldsTo (dt src x : Nat) (k : SlotId) (s t : State) : Prop :=
  t.scu.slot k = ⟨some x, .waiting, none, some src, none⟩
    ∧ (t.scu.slot (otherSlot k)).state = (s.scu.slot (otherSlot k)).state
    ∧ (t.scu.slot (otherSlot k)).scene = (s.scu.slot (otherSlot k)).scene
    ∧ t.ptb = (refreshed src ((s.now + dt) / 1000) s.ptb).map (fun p => p.setPin (.slot k) (decide (p.station = src)))
    ∧ t.scu.chain = s.scu.chain ∧ t.scu.tracker = s.scu.tracker ∧ t.scu.counters = s.scu.counters
    ∧ t.dsc = s.dsc ∧ t.sau = s.sau ∧ t.rsq = s.rsq ∧ t.rm = s.rm ∧ t.spe = s.spe ∧ t.stc = s.stc
    ∧ t.cfg = s.cfg ∧ t.cfs = s.cfs ∧ t.now = s.now + dt

/-- The slot that waits in a state which the reception has changed in table, channel, time and order alone. -/
theorem State.slotWaits_yieldsTo {dt src x : Nat} {k : SlotId} {s u : State} (hu : s.Meets dt u) (hsau : u.sau = s.sau)
    (hrm : u.rm = s.rm) {t : List Peer} (ht : t = (refreshed src ((s.now + dt) / 1000) s.ptb).map
      fun p => p.setPin (.slot k) (decide (p.station = src))) :
    s.YieldsTo dt src x k ((u.slotWaits k x src).setPtb t) := by
  obtain ⟨hrsq, hdsc, hstc, hcfg, -⟩ := u.slotWaits_frame k x src
  obtain ⟨hslot, hstate, hscene, hchain, htracker, hcounters, hwsau, hwrm, hspe, hcfs, hnow, -⟩ :=
    u.slotWaits_yields k x src
  rw [hu.scu] at hstate hscene hchain htracker hcounters
  exact ⟨hslot, hstate, hscene, ht, hchain, htracker, hcounters, hdsc.trans hu.dsc, hwsau.trans hsau,
    hrsq.trans hu.rsq, hwrm.trans hrm, hspe.trans hu.spe, hstc.trans hu.stc, hcfg.trans hu.cfg, hcfs.trans hu.cfs,
    hnow.trans hu.now⟩

/-- A CLAIM from a lower station of the scene that a slot is claiming, before or after its hearing (R33, R127). -/
theorem State.Receives.yields {s : State} {h : Header} {x : Nat} {k : SlotId}
    (hr : s.Receives ⟨h.src, h.sig, .claim x⟩) (hdue : s.NothingDue) (hs : s.SlotsSound)
    (hk : (s.scu.slot k).state = .claiming) (hx : (s.scu.slot k).scene = some x) (hlt : h.src < s.cfg.opt.station)
    (hpin : ∀ p ∈ s.ptb, p.carries (.slot k) = false) (dt : Nat) :
    s.YieldsTo dt h.src x k ((s.elapse dt).receive ⟨h.src, h.sig, .claim x⟩) := by
  have claims (u : State) (hu : s.Meets dt u) : u.claimAtSlots h.src x = u.slotWaits k x h.src := by
    obtain ⟨f, hf, hpeers⟩ := hu.peers
    have ⟨_, _, _, ⟨p, hp, hst⟩, _⟩ := hr
    have hmem : f p ∈ u.ptb := hpeers ▸ List.mem_map_of_mem hp
    have hsrc : (f p).station = h.src := (hf p).1.trans hst
    rw [← hsrc]
    refine State.claimAtSlots_yields ?_ ?_ ?_ hmem ?_ fun r hr => ?_
    · simpa only [State.SlotsSound, hu.scu] using hs
    · rwa [hu.scu]
    · rwa [hu.scu]
    · rwa [hu.cfg, hsrc]
    · obtain ⟨q, hq, rfl⟩ := List.mem_map.mp (hpeers ▸ hr)
      exact ((hf q).2.2 _).trans (hpin q hq)
  refine State.receive_beside (State.claimAtSlots h.src x) hr rfl ?_ ?_
  · have hdue' : ((s.heardFirst dt h.src).slotWaits k x h.src).NothingDue :=
      State.slotWaits_nothingDue (s := s.heardFirst dt h.src) hdue k x h.src
    rw [claims _ (s.meets_heardFirst dt h.src), State.afterSlots_of_nothingDue hdue']
    exact State.slotWaits_yieldsTo (s.meets_heardFirst dt h.src) rfl rfl rfl
  · obtain ⟨-, hdsc, -⟩ := (s.heardLast dt).slotWaits_frame k x h.src
    obtain ⟨-, -, -, -, -, -, -, -, -, hcfs, hnow, hpow⟩ := (s.heardLast dt).slotWaits_yields k x h.src
    have hact : ((s.heardLast dt).slotWaits k x h.src).active = true := by
      simp only [State.active, hdsc, hcfs, hpow]
      exact hr.1
    have hms : ((s.heardLast dt).slotWaits k x h.src).ms = (s.now + dt) / 1000 := congrArg (· / 1000) hnow
    have hhear : ((s.heardLast dt).slotWaits k x h.src).hear h.src = _ :=
      hr.hear_pinned (k := .slot k) (y := h.src) hact rfl
    have hdue' : ((s.heardLast dt).slotWaits k x h.src).NothingDue :=
      State.slotWaits_nothingDue (s := s.heardLast dt) hdue k x h.src
    rw [claims _ (s.meets_heardLast dt), hhear, State.afterSlots_of_nothingDue (by exact hdue'), hms]
    exact State.slotWaits_yieldsTo (s.meets_heardLast dt) rfl rfl rfl

end Sys2Proof.Machine

open Sys2Proof.Machine in
/-- Settles O18: the slot yields in the state before or after the hearing, and nothing falls due with it. -/
theorem lowerClaimMakesTheSlotWait : Obligations.LowerClaimMakesTheSlotWait :=
  fun dt _ _ _ _ hr hdue hs hk hx hlt hpin => ⟨_, rfl, hr.yields hdue hs hk hx hlt hpin dt⟩

namespace Sys2Proof.Machine

/-! ### The clock at a SYNC (R146, R154 to R158) -/

/-- At a base event the reading is the base (R146). -/
theorem Sck.readingAt_of_base {k : Sck} {now : Nat} (h : k.baseAt = now) (hb : k.base < 4294967296) :
    k.readingAt now = k.base := by
  have hmod : ((k.base : Int) + 0 + 0 * k.trim / 20000000) % 4294967296 = k.base := by omega
  simp only [Sck.readingAt, h, Nat.sub_self, Nat.cast_zero, hmod]
  split <;> simp

/-- After a move the clock reads the reading of before and the amount, modulo 2^32 (R155, R156). -/
theorem Sck.move_base (now : Nat) (e : Int) (k : Sck) :
    ((k.move now e).base : Int) = ((k.readingAt now : Int) + e) % 4294967296 ∧ (k.move now e).base < 4294967296 := by
  simp only [Sck.move]
  omega

theorem Sck.move_reading (now : Nat) (e : Int) (k : Sck) :
    ((k.move now e).readingAt now : Int) = ((k.readingAt now : Int) + e) % 4294967296 := by
  obtain ⟨hb, hlt⟩ := k.move_base now e
  rw [Sck.readingAt_of_base (k := k.move now e) (now := now) rfl hlt, hb]

/-- A slew moves the reading by half the error; the trim's change is a base event that keeps it (R146, R156). -/
theorem Sck.slew_reading (now : Nat) (e : Int) (k : Sck) :
    ((k.slew now e).readingAt now : Int) = ((k.readingAt now : Int) + e.tdiv 2) % 4294967296 := by
  have hm := k.move_reading now (e.tdiv 2)
  have hb : (k.slew now e).base = (k.move now (e.tdiv 2)).readingAt now := rfl
  rw [Sck.readingAt_of_base (k := k.slew now e) (now := now) rfl (by rw [hb]; omega), hb, hm]

/-- The counting changes the state and the two counts alone (R157, R158). -/
theorem Sck.count_kept (window : Nat) (e : Int) (k : Sck) : (k.count window e).running = k.running
    ∧ (k.count window e).base = k.base ∧ (k.count window e).baseAt = k.baseAt ∧ (k.count window e).trim = k.trim
    ∧ (k.count window e).reference = k.reference ∧ (k.count window e).lastSync = k.lastSync
    ∧ (k.count window e).lastError = k.lastError ∧ (k.count window e).lastScene = k.lastScene := by
  simp only [Sck.count]
  (repeat' split) <;> exact ⟨rfl, rfl, rfl, rfl, rfl, rfl, rfl, rfl⟩

theorem Sck.count_reading (window now : Nat) (e : Int) (k : Sck) :
    (k.count window e).readingAt now = k.readingAt now := by
  obtain ⟨hr, hb, ha, ht, -⟩ := k.count_kept window e
  simp only [Sck.readingAt, hr, hb, ha, ht]

theorem Sck.count_in {window : Nat} {e : Int} {k : Sck} (h : k.state ≠ .locked) (he : e.natAbs ≤ window)
    (hn : k.inCount + 1 < 8) : k.count window e = { k with inCount := k.inCount + 1 } := by
  simp only [Sck.count, h, if_false, Nat.not_lt.mpr he, Nat.not_le.mpr hn]

theorem Sck.count_locks {window : Nat} {e : Int} {k : Sck} (h : k.state ≠ .locked) (he : e.natAbs ≤ window)
    (hn : 8 ≤ k.inCount + 1) : k.count window e = { k with state := .locked, inCount := 8, outCount := 0 } := by
  simp only [Sck.count, h, if_false, Nat.not_lt.mpr he, if_pos hn]

theorem Sck.count_out {window : Nat} {e : Int} {k : Sck} (h : k.state = .locked) (he : window < e.natAbs)
    (hn : 3 ≤ k.outCount + 1) : k.count window e = { k with state := .acquire, inCount := 0, outCount := 0 } := by
  simp only [Sck.count, h, if_true, Nat.not_le.mpr he, if_false, hn]

/-- The error of a SYNC is what the reading lacks of the frame's time and the latency (R154). -/
theorem syncError_reading (time latency reading : Nat) :
    ((reading : Int) + syncError time latency reading) % 4294967296 = ((time + latency) % 4294967296 : Nat) := by
  simp only [syncError, timeDiff]
  split <;> push_cast <;> omega

/-- The clock with a SYNC noted as the reference's last one (R154). -/
def Sck.noted (opt : Options) (now time scene : Nat) (k : Sck) : Sck :=
  { k with
    lastSync := some (now / 1000), lastScene := some scene
    lastError := some (syncError time opt.syncLatency (k.readingAt now)) }

/-- The clock with a SYNC applied (R154 to R158). -/
def Sck.applied (opt : Options) (now time scene : Nat) (k : Sck) : Sck :=
  let e := syncError time opt.syncLatency (k.readingAt now)
  if k.awaited = true ∨ opt.stepThreshold < e.natAbs then (k.noted opt now time scene).step now e
  else ((k.noted opt now time scene).slew now e).count opt.lockWindow e

theorem State.applySync_eq (time scene : Nat) (s : State) :
    s.applySync time scene = s.setSck (s.sck.applied s.cfg.opt s.now time scene) := rfl

section
variable (opt : Options) (now time scene : Nat) (k : Sck)

/-- What every applied SYNC leaves of its own in the clock. -/
theorem Sck.applied_notes : (k.applied opt now time scene).lastSync = some (now / 1000)
    ∧ (k.applied opt now time scene).lastScene = some scene
    ∧ (k.applied opt now time scene).lastError = some (syncError time opt.syncLatency (k.readingAt now))
    ∧ (k.applied opt now time scene).reference = k.reference := by
  simp only [Sck.applied]
  split
  · exact ⟨rfl, rfl, rfl, rfl⟩
  · obtain ⟨-, -, -, -, href, hsync, herror, hscene⟩ := Sck.count_kept opt.lockWindow
      (syncError time opt.syncLatency (k.readingAt now))
      ((k.noted opt now time scene).slew now (syncError time opt.syncLatency (k.readingAt now)))
    exact ⟨hsync, hscene, herror, href⟩

variable {opt now time k}

/-- A step: the clock reads the frame's time and the latency (R155). -/
theorem Sck.applied_step (h : k.awaited = true
      ∨ opt.stepThreshold < (syncError time opt.syncLatency (k.readingAt now)).natAbs) :
    (k.applied opt now time scene).readingAt now = (time + opt.syncLatency) % 4294967296
      ∧ (k.applied opt now time scene).state = .acquire ∧ (k.applied opt now time scene).awaited = false
      ∧ (k.applied opt now time scene).inCount = 0 ∧ (k.applied opt now time scene).outCount = 0
      ∧ (k.applied opt now time scene).trim = k.trim ∧ (k.applied opt now time scene).running = k.running
      ∧ (k.applied opt now time scene).priority = k.priority := by
  have hread := (k.noted opt now time scene).move_reading now (syncError time opt.syncLatency (k.readingAt now))
  have herr := syncError_reading time opt.syncLatency (k.readingAt now)
  simp only [Sck.applied, if_pos h]
  exact ⟨Int.ofNat_inj.mp (hread.trans herr), rfl, rfl, rfl, rfl, rfl, rfl, rfl⟩

/-- Without a step the SYNC slews the clock and is counted (R155 to R158). -/
theorem Sck.applied_of_small (ha : k.awaited = false)
    (he : (syncError time opt.syncLatency (k.readingAt now)).natAbs ≤ opt.stepThreshold) :
    k.applied opt now time scene
      = ((k.noted opt now time scene).slew now (syncError time opt.syncLatency (k.readingAt now))).count opt.lockWindow
        (syncError time opt.syncLatency (k.readingAt now)) :=
  if_neg (by simp [ha, he])

/-- A slew: the clock moves by half the error and its trim by the error times 200 over the divisor (R156). -/
theorem Sck.applied_slew (ha : k.awaited = false)
    (he : (syncError time opt.syncLatency (k.readingAt now)).natAbs ≤ opt.stepThreshold) :
    let e := syncError time opt.syncLatency (k.readingAt now)
    ((k.applied opt now time scene).readingAt now : Int) = ((k.readingAt now : Int) + e.tdiv 2) % 4294967296
      ∧ (k.applied opt now time scene).trim
        = max (-2048) (min 2047 (k.trim + (e * 200).tdiv (if k.state = .locked then 32 else 8))) := by
  intro e
  obtain ⟨-, -, -, htrim, -⟩ := Sck.count_kept opt.lockWindow e ((k.noted opt now time scene).slew now e)
  rw [Sck.applied_of_small scene ha he]
  refine ⟨?_, htrim⟩
  rw [Sck.count_reading, Sck.slew_reading]
  rfl

/-- The counting after a slew, by the state in which the SYNC found the clock (R157, R158). -/
theorem Sck.applied_counts (ha : k.awaited = false)
    (he : (syncError time opt.syncLatency (k.readingAt now)).natAbs ≤ opt.stepThreshold) :
    let e := syncError time opt.syncLatency (k.readingAt now)
    let t := k.applied opt now time scene
    (k.state ≠ .locked → e.natAbs ≤ opt.lockWindow → k.inCount + 1 < 8 →
        t.inCount = k.inCount + 1 ∧ t.state = k.state)
      ∧ (k.state ≠ .locked → e.natAbs ≤ opt.lockWindow → 8 ≤ k.inCount + 1 → t.state = .locked ∧ t.outCount = 0)
      ∧ (k.state = .locked → opt.lockWindow < e.natAbs → 3 ≤ k.outCount + 1 →
        t.state = .acquire ∧ t.inCount = 0 ∧ t.outCount = 0) := by
  intro e t
  have ht : t = ((k.noted opt now time scene).slew now e).count opt.lockWindow e := Sck.applied_of_small scene ha he
  rw [ht]
  refine ⟨fun hl hw hn => ?_, fun hl hw hn => ?_, fun hl hw hn => ?_⟩
  · rw [Sck.count_in (k := (k.noted opt now time scene).slew now e) hl hw hn]
    exact ⟨rfl, rfl⟩
  · rw [Sck.count_locks (k := (k.noted opt now time scene).slew now e) hl hw hn]
    exact ⟨rfl, rfl⟩
  · rw [Sck.count_out (k := (k.noted opt now time scene).slew now e) hl hw hn]
    exact ⟨rfl, rfl, rfl⟩

end

/-- The first SYNC of a station to which the reference switches steps the clock (R151, R155). -/
theorem Sck.applied_switch (opt : Options) (now time scene src priority : Nat) (m : Option Nat) (k : Sck) :
    let t := (k.switch src priority m).applied opt now time scene
    t.readingAt now = (time + opt.syncLatency) % 4294967296 ∧ t.trim = k.trim ∧ t.state = .acquire
      ∧ t.reference = some src ∧ t.priority = some priority ∧ t.lastSync = some (now / 1000) ∧ t.awaited = false
      ∧ t.inCount = 0 ∧ t.outCount = 0 ∧ t.lastError = some (syncError time opt.syncLatency (k.readingAt now))
      ∧ t.lastScene = some scene ∧ t.running = k.running := by
  obtain ⟨hread, hstate, hawaited, hin, hout, htrim, hrun, hpriority⟩ :=
    Sck.applied_step (opt := opt) (now := now) (time := time) scene (k := k.switch src priority m) (.inl rfl)
  obtain ⟨hsync, hscene, herror, href⟩ := Sck.applied_notes opt now time scene (k.switch src priority m)
  exact ⟨hread, htrim, hstate, href, hpriority, hsync, hawaited, hin, hout, herror, hscene, hrun⟩

end Sys2Proof.Machine

namespace Sys2Proof.Machine

/-! ### Reference candidates at a SYNC (R148, R149) -/

/-- With one record a station its last SYNC time is the record's (R45, R54). -/
theorem State.lastSyncOf_iff {s : State} (hs : s.PeersSound) {c m : Nat} :
    s.lastSyncOf c = some m ↔ ∃ p ∈ s.ptb, p.station = c ∧ p.lastSync = some m := by
  obtain ⟨-, hnodup⟩ := hs
  constructor
  · intro h
    simp only [State.lastSyncOf] at h
    split at h
    · next p hp => exact ⟨p, List.mem_of_find?_eq_some hp, by simpa using List.find?_some hp, h⟩
    · cases h
  · rintro ⟨p, hp, rfl, hm⟩
    obtain ⟨before, after, ht⟩ := List.append_of_mem hp
    obtain ⟨hfind, -⟩ := peers_split (ht ▸ hnodup)
    rw [State.lastSyncOf, ht, hfind]
    exact hm

/-- The state in which the SCK meets a SYNC of station `src`: the clock, the slots and the configuration are the received
ones, and so is every other station's last SYNC time. -/
structure State.MeetsSync (dt src : Nat) (s u : State) : Prop where
  now : u.now = s.now + dt
  cfg : u.cfg = s.cfg
  scu : u.scu = s.scu
  sck : u.sck = s.sck
  others : ∀ c, c ≠ src → u.lastSyncOf c = s.lastSyncOf c

section
variable {dt src : Nat} {s u : State} (hu : s.MeetsSync dt src u) (hs : s.PeersSound) (hsrc : isFixed src = true)
include hu hs hsrc

/-- The live stations are the sender and those whose last SYNC is less than 400 ms old (R148). -/
theorem State.MeetsSync.live_iff {c : Nat} :
    u.live (some src) c = true ↔ c = src ∨ ∃ m, s.LastSync (s.now + dt) c m := by
  by_cases hc : c = src
  · simp [State.live, hc, hsrc]
  · have hne : ¬ src = c := fun h => hc h.symm
    have hlast (m : Nat) := State.lastSyncOf_iff hs (c := c) (m := m)
    simp only [State.live, hu.others c hc, State.ms, hu.now, Option.some.injEq, hne, decide_false, Bool.false_or, hc,
      false_or, State.LastSync, ← hlast]
    cases s.lastSyncOf c <;> simp

theorem State.MeetsSync.qualifies_iff {x c : Nat} : u.qualifies (some src) x = some c
    ↔ s.cfg.station x = c ∧ (c = src ∨ ∃ m, s.LastSync (s.now + dt) c m) := by
  have hpos {n : Nat} (h : u.live (some src) n = true) : n ≠ 0 := by
    rintro rfl
    simp [State.live, isFixed] at h
  simp only [State.qualifies, hu.cfg]
  split
  · next h =>
    simp only [Option.some.injEq]
    exact ⟨fun he => ⟨he, (hu.live_iff hs hsrc).mp (he ▸ h.2)⟩, fun he => he.1⟩
  · next h =>
    simp only [reduceCtorEq, false_iff]
    rintro ⟨rfl, hc⟩
    have hl := (hu.live_iff hs hsrc).mpr hc
    exact h ⟨hpos hl, hl⟩

theorem State.MeetsSync.not_qualifies_iff {x : Nat} : u.qualifies (some src) x = none
    ↔ s.cfg.station x ≠ src ∧ ∀ m, ¬ s.LastSync (s.now + dt) (s.cfg.station x) m := by
  rw [Option.eq_none_iff_forall_ne_some]
  simp only [ne_eq, hu.qualifies_iff hs hsrc, not_and, not_or, not_exists, forall_eq']

/-- The priority-1 candidate is the station of the first held scene that names a live one (R149). -/
theorem State.MeetsSync.candidate1_iff {c : Nat} :
    u.candidate1 (some src) = some c ↔ s.FirstHeld (s.now + dt) src c := by
  simp only [State.candidate1, List.head?_filterMap, List.findSome?_eq_some_iff, hu.qualifies_iff hs hsrc,
    hu.not_qualifies_iff hs hsrc, State.FirstHeld, hu.scu, and_assoc]

theorem State.MeetsSync.candidate1_eq_none (h : ∀ c, ¬ s.FirstHeld (s.now + dt) src c) :
    u.candidate1 (some src) = none :=
  Option.eq_none_iff_forall_ne_some.mpr fun c hc => h c ((hu.candidate1_iff hs hsrc).mp hc)

/-- The priority-2 candidate is the lowest live station (R149). -/
theorem State.MeetsSync.candidate2_eq {c : Nat} (hc : c = src ∨ ∃ m, s.LastSync (s.now + dt) c m)
    (hmin : ∀ n, (n = src ∨ ∃ m, s.LastSync (s.now + dt) n m) → c ≤ n) : u.candidate2 (some src) = some c := by
  have hfixed : isFixed c = true := by
    rcases hc with rfl | ⟨m, hf, -⟩
    · exact hsrc
    · exact hf
  have hrange := isFixed_iff.mp hfixed
  have hfind : (List.range 16).find? (u.live (some src) ∘ (· + 48)) = some (c - 48) := by
    have hback : c - 48 + 48 = c := by omega
    simp only [List.find?_range_eq_some, Function.comp_apply, hback, List.mem_range, Bool.not_eq_eq_eq_not, Bool.not_true]
    refine ⟨(hu.live_iff hs hsrc).mpr hc, by omega, fun j hj => eq_false_of_ne_true fun hl => ?_⟩
    have := hmin _ ((hu.live_iff hs hsrc).mp hl)
    omega
  rw [State.candidate2, fixedStations, List.find?_map, hfind, Option.map_some]
  congr 1
  omega

end

/-! ### The selection that a SYNC calls for (R150, R151) -/

theorem State.heardAt_self (src : Nat) (s : State) : s.heardAt (some src) src = some s.ms := if_pos rfl

/-- A SYNC of the priority-1 candidate that is not the reference switches to it and is applied (R150, R151). -/
theorem State.handleSync_of_first {s : State} {src : Nat} (hr : s.sck.reference ≠ some src)
    (hc : s.candidate1 (some src) = some src) (time scene : Nat) : s.handleSync src time scene
      = s.setSck ((s.sck.switch src 1 (some s.ms)).applied s.cfg.opt s.now time scene) := by
  have hsel : s.select (some src) = s.setSck (s.sck.switch src 1 (some s.ms)) := by
    cases href : s.sck.reference with
    | none => simp only [State.select, href, State.chosen, hc, State.heardAt_self]
    | some r =>
      have hne : src ≠ r := fun h => hr (href.trans (congrArg some h.symm))
      simp only [State.select, href, hc, ne_eq, hne, not_false_iff, if_true, State.heardAt_self]
  have happly : s.handleSync src time scene = (s.select (some src)).applySync time scene := by
    cases href : s.sck.reference with
    | none =>
      simp only [State.handleSync, href, hsel]
      exact if_pos rfl
    | some r =>
      have hne : src ≠ r := fun h => hr (href.trans (congrArg some h.symm))
      simp only [State.handleSync, href, hc, hsel, ne_eq, hne, not_false_iff, and_self, if_true]
      exact if_pos rfl
  rw [happly, hsel, State.applySync_eq]
  rfl

/-- Without a reference the chosen candidate becomes it, and the SYNC is applied where it is the sender (R150, R151). -/
theorem State.handleSync_of_chosen {s : State} {src c priority : Nat} (hr : s.sck.reference = none)
    (hc : s.chosen (some src) = some (c, priority)) (time scene : Nat) : s.handleSync src time scene
      = s.setSck (if c = src then (s.sck.switch src priority (some s.ms)).applied s.cfg.opt s.now time scene
        else s.sck.switch c priority (s.heardAt (some src) c)) := by
  have hsel : s.select (some src) = s.setSck (s.sck.switch c priority (s.heardAt (some src) c)) := by
    simp only [State.select, hr, hc]
  simp only [State.handleSync, hr, hsel]
  split
  · next h =>
    obtain rfl : c = src := Option.some.inj h
    rw [if_pos rfl, State.heardAt_self]
    rfl
  · next h => rw [if_neg fun he => h (congrArg some he)]

/-- With another reference a SYNC of a station that is not the priority-1 candidate is not heeded (R150, R154). -/
theorem State.handleSync_unheeded {s : State} {src : Nat} (hr : s.sck.reference ≠ none)
    (hne : s.sck.reference ≠ some src) (hc : s.candidate1 (some src) ≠ some src) (time scene : Nat) :
    s.handleSync src time scene = s := by
  obtain ⟨r, hr⟩ := Option.ne_none_iff_exists'.mp hr
  rw [hr] at hne
  simp only [State.handleSync, hr, hc, and_false, if_false, hne]

/-- A SYNC of the reference is applied (R154). -/
theorem State.handleSync_of_reference {s : State} {src : Nat} (hr : s.sck.reference = some src) (time scene : Nat) :
    s.handleSync src time scene = s.setSck (s.sck.applied s.cfg.opt s.now time scene) := by
  simp only [State.handleSync, hr, ne_eq, not_true_eq_false, false_and, if_false, if_true]
  rfl

end Sys2Proof.Machine

namespace Sys2Proof.Machine

/-! ### The reception of a SYNC (R33, R54) -/

/-- The hearing of a SYNC, the order settled: the sender's record is refreshed and keeps the moment (R54). -/
def State.syncHeard (dt src : Nat) (s : State) : State := { s.heard dt src with
  choices := s.choices + 1
  ptb := (refreshed src ((s.now + dt) / 1000) s.ptb).map
    (fun p => if p.station = src then { p with lastSync := some ((s.now + dt) / 1000) } else p) }

/-- A change of one station's record leaves what is found of another station. -/
theorem find?_map_other {src c : Nat} (hc : c ≠ src) (f : Peer → Peer) (hf : ∀ p, (f p).station = p.station)
    (t : List Peer) : (t.map fun p => if p.station = src then f p else p).find? (fun p => p.station = c)
      = t.find? fun p => p.station = c := by
  induction t with
  | nil => rfl
  | cons p t ih =>
    rw [List.map_cons, List.find?_cons, List.find?_cons, ih]
    by_cases hp : p.station = src
    · have hne : ¬ src = c := fun h => hc h.symm
      simp [hp, hf, hne]
    · simp [hp]

theorem State.meetsSync_syncHeard (dt src : Nat) (s : State) : s.MeetsSync dt src (s.syncHeard dt src) where
  now := rfl
  cfg := rfl
  scu := rfl
  sck := rfl
  others c hc := by
    have hfind : (s.syncHeard dt src).ptb.find? (fun p => p.station = c) = s.ptb.find? fun p => p.station = c :=
      (find?_map_other hc (fun p => { p with lastSync := some ((s.now + dt) / 1000) }) (fun _ => rfl) _).trans
        (find?_map_other hc (fun p => { p with lastHeard := (s.now + dt) / 1000, stale := false, foreign := false })
          (fun _ => rfl) s.ptb)
    rw [State.lastSyncOf, State.lastSyncOf, hfind]

theorem State.meetsSync_heardLast (dt src : Nat) (s : State) : s.MeetsSync dt src (s.heardLast dt) :=
  ⟨rfl, rfl, rfl, rfl, fun _ _ => rfl⟩

/-- The PTB at a SYNC of a known station that is not FOREIGN (R50, R54). -/
theorem State.hearSync_of_known {s : State} {src : Nat} (ha : s.active = true) (hk : ∃ p ∈ s.ptb, p.station = src)
    (hf : ∀ p ∈ s.ptb, p.station = src → p.foreign = false) : s.hearSync src = s.setPtb
      ((refreshed src s.ms s.ptb).map fun p => if p.station = src then { p with lastSync := some s.ms } else p) := by
  have hhear : s.hearOwn src = { s with ptb := refreshed src s.ms s.ptb } :=
    (if_pos ha).symm.trans (State.hear_of_known s src ha hk hf)
  rw [State.hearSync, hhear]
  rfl

/-- A SYNC moves the clock alone beside its hearing, before or after it with the same outcome (R33). -/
theorem State.Receives.sync {s : State} {h : Header} {time scene : Nat}
    (hr : s.Receives ⟨h.src, h.sig, .sync time scene⟩) {dt : Nat} {k : Sck}
    (hk : ∀ u, s.MeetsSync dt h.src u → u.handleSync h.src time scene = u.setSck k) :
    (s.elapse dt).receive ⟨h.src, h.sig, .sync time scene⟩ = { s.syncHeard dt h.src with sck := k } := by
  have ⟨ha, _, _, hknown, hforeign, _⟩ := hr
  have first : (s.netted dt).settled.hearSync h.src = s.syncHeard dt h.src :=
    State.hearSync_of_known (s := (s.netted dt).settled) ha hknown hforeign
  have last : ((s.heardLast dt).setSck k).hearSync h.src = { s.syncHeard dt h.src with sck := k } :=
    State.hearSync_of_known (s := (s.heardLast dt).setSck k) ha hknown hforeign
  have either : (s.netted dt).inEitherOrder (State.hearSync h.src) (State.handleSync h.src time scene)
      = { s.syncHeard dt h.src with sck := k } := by
    refine State.inEitherOrder_of (P := (· = { s.syncHeard dt h.src with sck := k })) _ _ _ ?_ ?_
    · rw [first]
      exact hk _ (s.meetsSync_syncHeard dt h.src)
    · exact (congrArg (State.hearSync h.src) (hk _ (s.meetsSync_heardLast dt h.src))).trans last
  have hd : State.deliver h.src (.sync time scene) (s.netted dt) = { s.syncHeard dt h.src with sck := k } := either
  rw [State.receive_of_receives dt s _ hr, hd]
  exact State.afterSlots_of_same _ _ rfl rfl

theorem State.Receives.fixed_of_sync {s : State} {h : Header} {time scene : Nat}
    (hr : s.Receives ⟨h.src, h.sig, .sync time scene⟩) : isFixed h.src = true := by
  obtain ⟨-, hv, -⟩ := hr
  simp only [State.frameValid, senderMay, Bool.and_eq_true] at hv
  exact hv.1.1.2

end Sys2Proof.Machine

open Sys2Proof.Machine in
/-- Settles O21: the selection that the SYNC calls for, and the clock after a step or a slew, read off in the state that
the hearing leaves. -/
theorem syncSteersTheClock : Obligations.SyncSteersTheClock := by
  unfold Obligations.SyncSteersTheClock
  refine ⟨fun dt h time scene s hr href => ?reference, fun dt h time scene s hr hs href => ?other⟩
  case reference =>
    have he := hr.sync (dt := dt) (k := s.sck.applied s.cfg.opt (s.now + dt) time scene) fun u hu => by
      rw [State.handleSync_of_reference (by rw [hu.sck]; exact href), hu.sck, hu.cfg, hu.now]
    obtain ⟨hsync, hscene, herror, hkept⟩ := Sck.applied_notes s.cfg.opt (s.now + dt) time scene s.sck
    refine ⟨_, congrArg Host.Outcome.next he, ⟨herror, hscene, hsync, hkept.trans href, fun hstep _ => ?_,
      fun ha hsmall _ => ?_⟩, rfl, rfl, rfl, rfl, rfl, rfl, rfl, rfl, rfl, rfl, rfl⟩
    · obtain ⟨hread, hstate, hawaited, hin, hout, htrim, -⟩ := Sck.applied_step (k := s.sck) scene hstep
      exact ⟨hread, hstate, hawaited, hin, hout, htrim⟩
    · obtain ⟨hread, htrim⟩ := Sck.applied_slew (k := s.sck) scene ha hsmall
      exact ⟨hread, htrim, Sck.applied_counts (k := s.sck) scene ha hsmall⟩
  case other =>
    intro now unheeded switched stepped
    have hsrc := hr.fixed_of_sync
    have steps (priority : Nat) (hk : ∀ u, s.MeetsSync dt h.src u → u.handleSync h.src time scene
        = u.setSck ((s.sck.switch h.src priority (some (now / 1000))).applied s.cfg.opt now time scene)) :
        stepped priority ((s.elapse dt).receive ⟨h.src, h.sig, .sync time scene⟩) := by
      obtain ⟨hread, htrim, hstate, href, hpriority, hsync, hawaited, hin, hout, herror, hscene, hrun⟩ :=
        Sck.applied_switch s.cfg.opt now time scene h.src priority (some (now / 1000)) s.sck
      rw [hr.sync hk]
      exact ⟨hread, htrim, hstate, href, hpriority, hsync, hawaited, hin, hout, herror, hscene, hrun, rfl⟩
    have switches (c priority m : Nat) (hk : ∀ u, s.MeetsSync dt h.src u → u.handleSync h.src time scene
        = u.setSck (s.sck.switch c priority (some m))) :
        (s.elapse dt).receive ⟨h.src, h.sig, .sync time scene⟩ = switched c priority m := hr.sync hk
    have heardAt {c m : Nat} {u : State} (hu : s.MeetsSync dt h.src u) (hc : c ≠ h.src) (hm : s.LastSync now c m) :
        u.heardAt (some h.src) c = some m := by
      obtain ⟨-, hrec, -⟩ := hm
      rw [State.heardAt, if_neg (by simpa using hc.symm), hu.others c hc]
      exact (State.lastSyncOf_iff hs).mpr hrec
    refine ⟨_, rfl, fun hfirst => ?first, fun hsome hnot => ?unheeded, fun hnone => ⟨fun c m hc hheld hm => ?held,
      fun hno => ⟨fun hlow => ?sender, fun c m hc hm hmin => ?lowest⟩⟩⟩
    case first =>
      refine steps 1 fun u hu => ?_
      rw [State.handleSync_of_first (by rw [hu.sck]; exact href) ((hu.candidate1_iff hs hsrc).mpr hfirst), hu.sck, hu.cfg,
        State.ms, hu.now]
    case unheeded =>
      refine hr.sync (k := s.sck) fun u hu => ?_
      rw [State.handleSync_unheeded (by rwa [hu.sck]) (by rwa [hu.sck])
        fun hc => hnot ((hu.candidate1_iff hs hsrc).mp hc), ← hu.sck]
      rfl
    case held =>
      refine switches c 1 m fun u hu => ?_
      have hchosen : u.chosen (some h.src) = some (c, 1) := by
        rw [State.chosen, (hu.candidate1_iff hs hsrc).mpr hheld]
      rw [State.handleSync_of_chosen (by rwa [hu.sck]) hchosen, if_neg hc, heardAt hu hc hm, hu.sck]
    case sender =>
      refine steps 2 fun u hu => ?_
      have hlowest : u.candidate2 (some h.src) = some h.src :=
        hu.candidate2_eq hs hsrc (.inl rfl) fun n hn => by
          rcases hn with rfl | ⟨m, hm⟩
          · exact Nat.le_refl _
          · exact hlow n m hm
      have hchosen : u.chosen (some h.src) = some (h.src, 2) := by
        rw [State.chosen, hu.candidate1_eq_none hs hsrc hno, hlowest]
        rfl
      rw [State.handleSync_of_chosen (by rwa [hu.sck]) hchosen, if_pos rfl, hu.sck, hu.cfg, State.ms, hu.now]
    case lowest =>
      refine switches c 2 m fun u hu => ?_
      have hlowest : u.candidate2 (some h.src) = some c :=
        hu.candidate2_eq hs hsrc (.inr ⟨m, hm⟩) fun n hn => by
          rcases hn with rfl | ⟨j, hj⟩
          · exact Nat.le_of_lt hc
          · exact hmin n j hj
      have hchosen : u.chosen (some h.src) = some (c, 2) := by
        rw [State.chosen, hu.candidate1_eq_none hs hsrc hno, hlowest]
        rfl
      have hne : c ≠ h.src := Nat.ne_of_lt hc
      rw [State.handleSync_of_chosen (by rwa [hu.sck]) hchosen, if_neg hne, heardAt hu hne hm, hu.sck]

namespace Sys2Proof.Machine

/-! ### The storing of a POS (R52, R53) -/

theorem storedData_eq (u : Scu) (b : PosBody) (old : Option VehicleData) : storedData u b old =
    ⟨b.ordinate.or (old.bind VehicleData.ordinate), b.lane, b.entry, b.speed, b.motion, b.restraint, b.level,
      b.held.filter (fun x => !u.holdsScene x), b.claiming⟩ := by
  cases h : b.ordinate <;> simp [storedData, h]

/-- The table after the hearing of a POS whose content is stored over slots `u` (R50, R52, R53). -/
def posStored (u : Scu) (src ms : Nat) (b : PosBody) (t : List Peer) : List Peer :=
  (refreshed src ms t).map fun p => if p.station = src then { p with data := some (storedData u b p.data) } else p

theorem posStored_eq {u : Scu} {b : PosBody} {held : List Nat} (h : b.held.filter (fun x => !u.holdsScene x) = held)
    (src ms : Nat) (t : List Peer) : posStored u src ms b t = (refreshed src ms t).map fun p =>
      if p.station = src then
        { p with data := some ⟨b.ordinate.or (p.data.bind VehicleData.ordinate), b.lane, b.entry, b.speed, b.motion,
          b.restraint, b.level, held, b.claiming⟩ }
      else p := by
  simp only [posStored, storedData_eq, h]

/-- A slot of FREE or HELD that a POS leaves as it is: a conflict is yielded to by the higher station alone (R129). -/
def State.LeavesPos (src : Nat) (held : List Nat) (s : State) (k : SlotId) : Prop :=
  ((s.scu.slot k).state = .free ∨ (s.scu.slot k).state = .held)
    ∧ ∀ x, (s.scu.slot k).state = .held → (s.scu.slot k).scene = some x → x ∈ held → s.cfg.opt.station ≤ src

theorem State.LeavesPos.of_same {src : Nat} {held : List Nat} {s t : State} {k : SlotId} (h : s.LeavesPos src held k)
    (hst : (t.scu.slot k).state = (s.scu.slot k).state) (hsc : (t.scu.slot k).scene = (s.scu.slot k).scene)
    (hc : t.cfg = s.cfg) : t.LeavesPos src held k := by
  simpa only [State.LeavesPos, hst, hsc, hc] using h

theorem State.LeavesPos.posHeard {src : Nat} {held : List Nat} {s : State} {k : SlotId} (h : s.LeavesPos src held k)
    (claiming : Option Nat) : s.posHeard src held claiming k = s := by
  obtain ⟨hstate, hkeep⟩ := h
  simp only [State.posHeard]
  split
  · rfl
  · next x hx =>
    rcases hstate with hf | hh
    · simp only [hf]
    · have hno : (held.contains x && decide (src < s.cfg.opt.station)) = false := by
        refine eq_false_of_ne_true fun hc => ?_
        obtain ⟨hmem, hlt⟩ := Bool.and_eq_true_iff.mp hc
        exact Nat.not_le.mpr (of_decide_eq_true hlt) (hkeep x hh hx (List.contains_iff_mem.mp hmem))
      simp only [hh, hno, Bool.false_eq_true, if_false]

section
variable {s : State} {src : Nat} (b : PosBody) (ha : s.active = true) (hk : ∃ p ∈ s.ptb, p.station = src)
  (hf : ∀ p ∈ s.ptb, p.station = src → p.foreign = false)
include ha hk hf

/-- The PTB at a POS of a known station that is not FOREIGN, with the state that the slots leave (R50, R52). -/
theorem State.hearPos_of_known {v : State}
    (hv : ((s.setPtb (refreshed src s.ms s.ptb)).posHeard src b.held b.claiming .one).posHeard src b.held b.claiming .two
      = v) (hp : v.ptb = refreshed src s.ms s.ptb) :
    s.hearPos src b = v.setPtb (posStored v.scu src s.ms b s.ptb) := by
  have hhear : s.hearOwn src = s.setPtb (refreshed src s.ms s.ptb) :=
    (if_pos ha).symm.trans (State.hear_of_known s src ha hk hf)
  simp only [State.hearPos, hhear, hv, State.mapPeer, hp]
  rfl

/-- A POS with nothing in it for the slots is stored (R52). -/
theorem State.hearPos_of_left (hl : ∀ k, s.LeavesPos src b.held k) :
    s.hearPos src b = s.setPtb (posStored s.scu src s.ms b s.ptb) := by
  have left (k : SlotId) : (s.setPtb (refreshed src s.ms s.ptb)).posHeard src b.held b.claiming k
      = s.setPtb (refreshed src s.ms s.ptb) :=
    State.LeavesPos.posHeard (s := s.setPtb (refreshed src s.ms s.ptb)) (hl k) b.claiming
  exact State.hearPos_of_known (v := s.setPtb (refreshed src s.ms s.ptb)) b ha hk hf (by rw [left, left]) rfl

end

/-! ### A POS above the latch (R183) -/

/-- What is stored of a POS is read off the slots' states and scenes alone (R53). -/
theorem posStored_congr {u v : Scu} (h1 : v.slot1 = u.slot1) (h2 : v.slot2 = u.slot2) (src ms : Nat) (b : PosBody)
    (t : List Peer) : posStored v src ms b t = posStored u src ms b t := by
  have h : v.holdsScene = u.holdsScene := funext fun x => by simp only [Scu.holdsScene, h1, h2]
  simp only [posStored, storedData_eq, h]

theorem State.frameLevel_nextSeq {s : State} {level : Nat} (h : s.stc.latch < level) (cause : StopCause)
    (origin : Nat) : (s.frameLevel level cause origin).stc.nextSeq = (s.stc.nextSeq + 1) % 65536 := by
  rw [State.frameLevel, if_pos h, (State.raiseLatch_records ..).2]
  rfl

/-- What a POS above the latch leaves: the raised latch and the stored content (R52, R183). -/
structure State.RaisedByPos (dt src : Nat) (b : PosBody) (s t : State) : Prop where
  raised : (s.elapse dt).RaisedTo b.level .peerLevel src t
  nextSeq : t.stc.nextSeq = (s.stc.nextSeq + 1) % 65536
  ptb : t.ptb = posStored s.scu src ((s.now + dt) / 1000) b s.ptb
  rest : t.sck = s.sck ∧ t.cfg = s.cfg ∧ t.cfs = s.cfs ∧ t.now = s.now + dt

/-- The latch rises at a POS before or after its storing, with the same outcome (R33). -/
theorem State.Receives.raisedByPos {s : State} {h : Header} {b : PosBody} (hr : s.Receives ⟨h.src, h.sig, .pos b⟩)
    (hlevel : s.stc.latch < b.level) (hl : ∀ k, s.LeavesPos h.src b.held k) (dt : Nat) :
    s.RaisedByPos dt h.src b ((s.elapse dt).receive ⟨h.src, h.sig, .pos b⟩) := by
  have ⟨ha, _, _, hknown, hforeign, _⟩ := hr
  have hd : State.deliver h.src (.pos b) (s.netted dt) = (s.netted dt).inEitherOrder (State.hearPos h.src b)
      (State.frameLevel b.level .peerLevel h.src) := if_pos hlevel
  have slots {t : State} (ht : s.RaisedByPos dt h.src b t) : s.RaisedByPos dt h.src b (t.afterSlots s.scu) := by
    obtain ⟨h1, h2⟩ := ht.raised.slots
    have hsame : t.afterSlots s.scu = t :=
      State.afterSlots_of_same _ _ (congrArg Slot.state h1).symm (congrArg Slot.state h2).symm
    rwa [hsame]
  rw [State.receive_of_receives dt s _ hr, hd]
  refine slots (State.inEitherOrder_of (P := s.RaisedByPos dt h.src b) _ _ _ ?_ ?_)
  · have hstored : (s.netted dt).settled.hearPos h.src b
        = (s.netted dt).settled.setPtb (posStored s.scu h.src ((s.now + dt) / 1000) b s.ptb) :=
      State.hearPos_of_left (s := (s.netted dt).settled) b ha hknown hforeign hl
    rw [hstored]
    generalize hu : (s.netted dt).settled.setPtb (posStored s.scu h.src ((s.now + dt) / 1000) b s.ptb) = u
    have hlu : u.stc.latch < b.level := by subst hu; exact hlevel
    obtain ⟨h1, h2, h3, h4, h5, h6, h7⟩ := State.frameLevel_raisedTo hlu .peerLevel h.src
    have hseq := State.frameLevel_nextSeq hlu .peerLevel h.src
    obtain ⟨-, hnow, -, hcfg, hcfs, hptb, hsck, -⟩ := u.frameLevel_frame b.level .peerLevel h.src
    subst hu
    exact ⟨⟨h1, h2, h3, h4, h5, h6, h7⟩, hseq, hptb, hsck, hcfg, hcfs, hnow⟩
  · generalize hu : (s.netted dt).settled = u
    have hlu : u.stc.latch < b.level := by subst hu; exact hlevel
    have hau : u.active = true := by subst hu; exact ha
    obtain ⟨h1, h2, h3, h4, h5, h6, h7⟩ := State.frameLevel_raisedTo hlu .peerLevel h.src
    have hseq := State.frameLevel_nextSeq hlu .peerLevel h.src
    have hact := (u.frameLevel_rides b.level .peerLevel h.src).active hau
    obtain ⟨-, hnow, -, hcfg, hcfs, hptb, hsck, -⟩ := u.frameLevel_frame b.level .peerLevel h.src
    generalize u.frameLevel b.level .peerLevel h.src = v at *
    have hleft (k : SlotId) : v.LeavesPos h.src b.held k := by
      have hlu : u.LeavesPos h.src b.held k := by subst hu; exact hl k
      exact hlu.of_same (congrArg Slot.state (h7.slot k)) (congrArg Slot.scene (h7.slot k)) hcfg
    have hpu : v.ptb = s.ptb := by subst hu; exact hptb
    have hms : v.ms = (s.now + dt) / 1000 := by subst hu; exact congrArg (· / 1000) hnow
    rw [State.hearPos_of_left b hact (hpu ▸ hknown) (hpu ▸ hforeign) hleft, hpu, hms,
      posStored_congr (u := u.scu) h7.1 h7.2]
    subst hu
    exact ⟨⟨h1, h2, h3, h4, h5, h6, h7⟩, hseq, rfl, hsck, hcfg, hcfs, hnow⟩

end Sys2Proof.Machine

namespace Sys2Proof.Machine

/-! ### A POS in conflict with a HELD slot (R129) -/

/-- The state in which a HELD slot has been freed without a FREE frame, and SCENE-CONFLICT raised (R129). -/
def State.yielded (k : SlotId) (s : State) : State :=
  ((s.setScu (s.scu.moveSlot k Slot.free)).slotNotice).raise .sceneConflict

theorem State.posHeard_conflict {s : State} {k : SlotId} {src x : Nat} {held : List Nat}
    (hk : (s.scu.slot k).state = .held) (hx : (s.scu.slot k).scene = some x) (hm : x ∈ held)
    (hlt : src < s.cfg.opt.station) (claiming : Option Nat) : s.posHeard src held claiming k = s.yielded k := by
  have hyes : (held.contains x && decide (src < s.cfg.opt.station)) = true := by simp [hm, hlt]
  have hfree : s.freeSlot false k = (s.setScu (s.scu.moveSlot k Slot.free)).slotNotice := by
    simp [State.freeSlot, hk]
  simp only [State.posHeard, hx, hk, hyes, if_true, hfree]
  rfl

/-- A first cause of level 1 sends its STOP before the class C POS that waits (R182, R36). -/
theorem State.raise_queue_of_pos {s : State} {c : Cause} (ha : s.active = true) (hc : c ∉ s.stc.causes)
    (h0 : s.stc.asserted = 0) (hl : c.level = 1) (hq : s.ni.queue = [.pos true]) :
    (s.raise c).ni.queue = [.stop 1 c.code, .pos true] := by
  rw [State.raise_eq, if_pos ⟨ha, hc⟩, if_pos (h0 ▸ c.level_pos)]
  refine State.levelRises_keeps (Q := fun n _ => n.queue = [.stop 1 c.code, .pos true])
    (fun m u hu => u.setMotion_stopQueue m hu) c ?_
  have hj : (s.joined c).ni.queue = [.pos true] := hq
  rw [State.requestPos_queue, State.putFrame_queue, hl, hj]
  rfl

/-- What a slot that yields to a lower station leaves (R129, R182). -/
structure State.YieldsScene (k : SlotId) (s t : State) : Prop where
  slot : t.scu.slot k = ⟨none, .free, none, none, none⟩
  otherState : (t.scu.slot (otherSlot k)).state = (s.scu.slot (otherSlot k)).state
  otherScene : (t.scu.slot (otherSlot k)).scene = (s.scu.slot (otherSlot k)).scene
  causes : t.stc.causes = s.stc.causes ++ [.sceneConflict]
  latch : t.stc.latch = max s.stc.latch 1
  record : ∃ i, t.stc.incidents.getLast? = some i ∧ i.cause = .local_ .sceneConflict ∧ i.level = 1
    ∧ i.origin = s.cfg.opt.station
  queue : s.stc.asserted = 0 → s.ni.queue = [] → t.ni.queue = [.stop 1 5, .pos true]
  place : t.rsq.known = s.rsq.known ∧ t.rsq.entry = s.rsq.entry ∧ t.rsq.distance = s.rsq.distance
    ∧ t.rsq.atEnd = s.rsq.atEnd
  rest : t.ptb = s.ptb ∧ t.rm.vehicle = s.rm.vehicle ∧ t.cfg = s.cfg ∧ t.cfs = s.cfs ∧ t.now = s.now

theorem State.yielded_yieldsScene {s : State} (k : SlotId) (ha : s.active = true) (hst : s.StopsSound)
    (hc : Cause.sceneConflict ∉ s.stc.causes) : s.YieldsScene k (s.yielded k) := by
  generalize hu : (s.setScu (s.scu.moveSlot k Slot.free)).slotNotice = u
  have hy : s.yielded k = u.raise .sceneConflict := congrArg (State.raise .sceneConflict) hu
  have hframe := (s.setScu (s.scu.moveSlot k Slot.free)).slotNotice_frame
  rw [hu] at hframe
  obtain ⟨hpow, hnow, -, hcfg, hcfs, hptb, -, hdsc, hrm, hrsq, hscu, -, hstc, -⟩ := hframe
  have hact : u.active = true := by
    simp only [State.active, hpow, hcfs, hdsc]
    exact ha
  have hcause : Cause.sceneConflict ∉ u.stc.causes := by rw [hstc]; exact hc
  have hlatched : u.Latched := State.StopsSound.latched (by rw [State.StopsSound, hstc]; exact hst)
  obtain ⟨hcauses, -, hinc⟩ := State.raise_stc_new hact hcause
  obtain ⟨-, rnow, -, rcfg, rcfs, rptb, -⟩ := u.raise_frame .sceneConflict
  obtain ⟨rvehicle, -⟩ := u.raise_rm_silence .sceneConflict
  have rides := u.raise_rides .sceneConflict
  have slots := u.raise_sameSlots .sceneConflict
  obtain ⟨hstate, hscene⟩ := s.scu.other_moveSlot k Slot.free
  rw [hy]
  refine ⟨?_, ?_, ?_, ?_, ?_, ⟨_, by rw [hinc]; exact List.getLast?_concat, rfl, rfl, ?_⟩, fun h0 hq => ?_, ?_, ?_⟩
  · rw [slots.slot, hscu, State.setScu_scu, Scu.slot_moveSlot]
    rfl
  · rw [slots.slot, hscu]; exact hstate
  · rw [slots.slot, hscu]; exact hscene
  · rw [hcauses, hstc]; rfl
  · rw [hlatched.raise_latch hact, hstc]; rfl
  · exact congrArg (fun c : Configuration => c.opt.station) hcfg
  · refine State.raise_queue_of_pos hact hcause (by rw [hstc]; exact h0) rfl ?_
    rw [← hu, State.slotNotice_queue]
    exact congrArg (joinPos true) hq
  · rw [rides.known, rides.entryIndex, rides.distance, rides.atEnd, hrsq]
    exact ⟨rfl, rfl, rfl, rfl⟩
  · exact ⟨rptb.trans hptb, rvehicle.trans (congrArg Rm.vehicle hrm), rcfg.trans hcfg, rcfs.trans hcfs,
      rnow.trans hnow⟩

/-- After the slot has yielded its scene is held by neither slot, and any other as before (R123). -/
theorem State.YieldsScene.holdsScene {s t : State} {k : SlotId} {x : Nat} (h : s.YieldsScene k t) (hs : s.SlotsSound)
    (hx : (s.scu.slot k).scene = some x) (y : Nat) :
    t.scu.holdsScene y = (s.scu.holdsScene y && decide (y ≠ x)) := by
  obtain ⟨-, -, hdiff⟩ := hs
  have hother : (s.scu.slot (otherSlot k)).scene ≠ some x := by
    cases k with
    | one =>
      have h1 : s.scu.slot1.scene = some x := hx
      exact fun h2 => absurd (hdiff (h1.trans h2.symm)) (by simp [h1])
    | two => exact fun h1 => absurd ((hdiff (h1.trans hx.symm)).symm.trans h1) nofun
  rw [Scu.holdsScene_iff _ k, Scu.holdsScene_iff _ k]
  simp only [Slot.holds, h.slot, h.otherState, h.otherScene, hx]
  by_cases hy : y = x
  · subst hy
    simp [hother]
  · have hne : ¬ x = y := fun h => hy h.symm
    simp [hy, hne]

/-- Of the two slots the one that holds the listed scene yields, and the other one leaves the POS (R129). -/
theorem State.posHeard_yields {u : State} {k : SlotId} {src x : Nat} {b : PosBody} (hk : (u.scu.slot k).state = .held)
    (hx : (u.scu.slot k).scene = some x) (hm : x ∈ b.held) (hlt : src < u.cfg.opt.station)
    (hy : u.YieldsScene k (u.yielded k)) (ho : u.LeavesPos src b.held (otherSlot k)) :
    (u.posHeard src b.held b.claiming .one).posHeard src b.held b.claiming .two = u.yielded k := by
  have yields := State.posHeard_conflict hk hx hm hlt b.claiming
  obtain ⟨-, -, hcfg, -⟩ := hy.rest
  have after := (ho.of_same hy.otherState hy.otherScene hcfg).posHeard b.claiming
  cases k with
  | one => rw [yields]; exact after
  | two =>
    have before : u.posHeard src b.held b.claiming .one = u := ho.posHeard b.claiming
    rw [before, yields]

/-- A POS from a lower station that lists the scene of a HELD slot: the hearing, the slot that yields, the storing, and
the RSQ at the slots (R52, R129). -/
theorem State.Receives.posConflict {s : State} {h : Header} {b : PosBody} {x : Nat} {k : SlotId}
    (hr : s.Receives ⟨h.src, h.sig, .pos b⟩) (hlevel : b.level ≤ s.stc.latch) (hst : s.StopsSound)
    (hk : (s.scu.slot k).state = .held) (hx : (s.scu.slot k).scene = some x) (hm : x ∈ b.held)
    (hlt : h.src < s.cfg.opt.station) (hc : Cause.sceneConflict ∉ s.stc.causes)
    (ho : s.LeavesPos h.src b.held (otherSlot k)) (dt : Nat) :
    ∃ w, ((s.netted dt).setPtb (refreshed h.src ((s.now + dt) / 1000) s.ptb)).YieldsScene k w
      ∧ (s.elapse dt).receive ⟨h.src, h.sig, .pos b⟩
        = (w.setPtb (posStored w.scu h.src ((s.now + dt) / 1000) b s.ptb)).afterSlots s.scu := by
  have ⟨ha, _, _, hknown, hforeign, _⟩ := hr
  generalize hu : (s.netted dt).setPtb (refreshed h.src ((s.now + dt) / 1000) s.ptb) = u
  have hy : u.YieldsScene k (u.yielded k) := by
    subst hu
    exact State.yielded_yieldsScene k ha hst hc
  have hslots : (u.posHeard h.src b.held b.claiming .one).posHeard h.src b.held b.claiming .two = u.yielded k := by
    subst hu
    exact State.posHeard_yields hk hx hm hlt hy ho
  have hstored : (s.netted dt).hearPos h.src b
      = (u.yielded k).setPtb (posStored (u.yielded k).scu h.src ((s.now + dt) / 1000) b s.ptb) := by
    obtain ⟨hptb, -⟩ := hy.rest
    refine State.hearPos_of_known (s := s.netted dt) b ha hknown hforeign ?_ ?_
    · rw [← hslots, ← hu]; rfl
    · rw [hptb, ← hu]; rfl
  have hd : State.deliver h.src (.pos b) (s.netted dt) = (s.netted dt).hearPos h.src b :=
    if_neg (Nat.not_lt.mpr hlevel)
  exact ⟨_, hy, by rw [State.receive_of_receives dt s _ hr, hd, hstored]⟩

end Sys2Proof.Machine

open Sys2Proof.Machine in
/-- Settles O15: the hearing and the storing, with the latch raised beside them or a HELD slot yielding between. -/
theorem posIsStored : Obligations.PosIsStored := by
  unfold Obligations.PosIsStored
  refine ⟨fun dt h b s hr hlevel hslots hkeep => ?stored, fun dt h b s hr hlevel hslots hkeep => ?raises,
    fun dt h b x k s hr hlevel hs hst hend hk hx hm hlt hc ho => ?yields⟩
  case stored =>
    have ⟨ha, _, _, hknown, hforeign, _⟩ := hr
    have hd : State.deliver h.src (.pos b) (s.netted dt) = (s.netted dt).hearPos h.src b :=
      if_neg (Nat.not_lt.mpr hlevel)
    have hstored : (s.netted dt).hearPos h.src b
        = (s.netted dt).setPtb (posStored s.scu h.src ((s.now + dt) / 1000) b s.ptb) :=
      State.hearPos_of_left (s := s.netted dt) b ha hknown hforeign fun k => ⟨hslots k, hkeep k⟩
    have he := State.receive_of_receives dt s _ hr
    rw [hd, hstored, State.afterSlots_of_same ((s.netted dt).setPtb _) s.scu rfl rfl, posStored_eq rfl] at he
    exact congrArg Host.Outcome.next he
  case raises =>
    obtain ⟨⟨hlatch, hcauses, hfirst, hincidents, hhalted, hchain, h1, h2⟩, hseq, hptb, hsck, hcfg, hcfs, hnow⟩ :=
      hr.raisedByPos hlevel (fun k => ⟨hslots k, hkeep k⟩) dt
    rw [posStored_eq rfl] at hptb
    exact ⟨_, rfl, hlatch, hcauses, hfirst, hincidents, hseq, hhalted, hchain, h1, h2, hptb, hsck, hcfg, hcfs, hnow⟩
  case yields =>
    have hleft : s.LeavesPos h.src b.held (otherSlot k) := by
      rcases ho with hf | ⟨hh, hno⟩
      · exact ⟨.inl hf, fun _ he => absurd (hf.symm.trans he) nofun⟩
      · exact ⟨.inr hh, fun y _ hsc hmem => absurd hmem (hno y hsc)⟩
    obtain ⟨w, hy, he⟩ := hr.posConflict hlevel hst hk hx hm hlt hc hleft dt
    have hpeers := posStored_eq (List.filter_congr fun y (_ : y ∈ b.held) => congrArg (!·) (hy.holdsScene hs hx y)) h.src
      ((s.now + dt) / 1000) s.ptb
    generalize posStored w.scu h.src ((s.now + dt) / 1000) b s.ptb = peers at he hpeers
    obtain ⟨hslot, hos, hosc, hcauses, hlatch, hrecord, hqueue, ⟨hkn, hen, hdi, hae⟩, -, hveh, hcfg, hcfs, hnow⟩ := hy
    have hq (h0 : s.ni.queue = []) : (s.netted dt).ni.queue = [] := (Ni.measure_queue ..).trans h0
    refine ⟨_, congrArg Host.Outcome.next he, ?_⟩
    obtain ⟨kscu, kptb, -, -, krm, -, kstc, kni, kcfg, kcfs, know, kplace, -⟩ :=
      State.afterSlots_kept (s := w.setPtb peers) (hae.trans hend) s.scu
    have kkn : ((w.setPtb peers).afterSlots s.scu).rsq.known = w.rsq.known := (congrArg Rsq.known kplace :)
    have ken : ((w.setPtb peers).afterSlots s.scu).rsq.entry = w.rsq.entry := (congrArg Rsq.entry kplace :)
    have kdi : ((w.setPtb peers).afterSlots s.scu).rsq.distance = w.rsq.distance := (congrArg Rsq.distance kplace :)
    rw [kscu, kptb, krm, kstc, kni, kcfg, kcfs, know, kkn, ken, kdi]
    exact ⟨hslot, hos, hosc, hcauses, hlatch, hrecord, fun h0 hempty => hqueue h0 (hq hempty), hpeers, hkn, hen, hdi, hveh,
      hcfg, hcfs, hnow⟩

namespace Sys2Proof.Machine

/-! ### Sound stops and a governed authority (R74, R181, R183) -/

/-- The stops are sound, and only with a KNOWN position, SECURE restraints and a latch below 2 is the authority above 0,
whether the part acts or not. -/
def State.Governed (s : State) : Prop :=
  s.StopsSound ∧ (0 < s.sau.authority → s.rsq.known = true ∧ s.rm.vehicle = .secure ∧ s.stc.latch ≠ 2)

/-- A change that does not raise the authority and leaves a governed one governed. -/
structure State.Curbs (s t : State) : Prop where
  authority : t.sau.authority ≤ s.sau.authority
  governed : s.Governed → t.Governed

theorem State.Curbs.refl (s : State) : s.Curbs s := ⟨Nat.le_refl _, id⟩

theorem State.Curbs.trans {s t u : State} (h : s.Curbs t) (k : t.Curbs u) : s.Curbs u :=
  ⟨k.authority.trans h.authority, k.governed ∘ h.governed⟩

theorem State.governed_of_zero {s : State} (hs : s.StopsSound) (h0 : s.sau.authority = 0) : s.Governed :=
  ⟨hs, fun h => by omega⟩

theorem State.StopsSound.of_stc {s t : State} (h : s.StopsSound) (e : t.stc = s.stc) : t.StopsSound := by
  rw [State.StopsSound, e]
  exact h

/-- A change of the stops that keeps position and restraints, and under which the latch comes to 2 with authority 0
alone. -/
theorem State.curbs_of_stops {s t : State} (ha : t.sau.authority ≤ s.sau.authority)
    (hs : s.StopsSound → t.StopsSound) (hk : t.rsq.known = s.rsq.known) (hv : t.rm.vehicle = s.rm.vehicle)
    (hl : s.StopsSound → s.stc.latch ≠ 2 → t.stc.latch = 2 → t.sau.authority = 0) : s.Curbs t := by
  refine ⟨ha, fun ⟨g, offered⟩ => ⟨hs g, fun h => ?_⟩⟩
  obtain ⟨k, v, l⟩ := offered (Nat.lt_of_lt_of_le h ha)
  exact ⟨hk.trans k, hv.trans v, fun h2 => h.ne' (hl g l h2)⟩

/-- A change that reaches neither the stops nor the restraints nor the position. -/
theorem State.curbs_of_lowered {s t : State} (ha : t.sau.authority ≤ s.sau.authority) (he : t.stc = s.stc)
    (hk : t.rsq.known = s.rsq.known) (hv : t.rm.vehicle = s.rm.vehicle) : s.Curbs t :=
  State.curbs_of_stops ha (fun h => h.of_stc he) hk hv fun _ hl h2 => absurd (he ▸ h2) hl

theorem State.curbs_of_frame {s t : State}
    (h : t.sau = s.sau ∧ t.stc = s.stc ∧ t.rsq.known = s.rsq.known ∧ t.rm.vehicle = s.rm.vehicle) : s.Curbs t :=
  State.curbs_of_lowered (by rw [h.1]) h.2.1 h.2.2.1 h.2.2.2

theorem State.settled_curbs (s : State) : s.Curbs s.settled := State.curbs_of_frame ⟨rfl, rfl, rfl, rfl⟩

theorem State.inEitherOrder_curbs {f g : State → State} (hf : ∀ t : State, t.Curbs (f t))
    (hg : ∀ t : State, t.Curbs (g t)) (s : State) : s.Curbs (s.inEitherOrder f g) :=
  State.inEitherOrder_keeps (P := s.Curbs) s.settled_curbs (fun t h => h.trans (hf t)) fun t h => h.trans (hg t)

/-! ### The latch and the causes -/

/-- The ring of a record that joins still holds at most 16 (R188). -/
theorem ring_length_le {l : List Incident} (h : l.length ≤ 16) (i : Incident) :
    ((if l.length < 16 then l else l.drop 1) ++ [i]).length ≤ 16 := by
  split <;> simp <;> omega

theorem State.StopsSound.of_sublist {s t : State} (h : s.StopsSound) (hc : t.stc.causes.Sublist s.stc.causes)
    (hl : t.stc.latch = s.stc.latch) (hi : t.stc.incidents = s.stc.incidents) : t.StopsSound := by
  obtain ⟨hn, ha, h2, hr⟩ := h
  refine ⟨hn.sublist hc, ?_, hl ▸ h2, hi ▸ hr⟩
  rw [Stc.asserted_le_iff, hl] at *
  exact fun c hx => ha c (hc.subset hx)

theorem State.raiseLatch_vehicle (level : Nat) (cause : StopCause) (origin : Nat) (s : State) :
    (s.raiseLatch level cause origin).rm.vehicle = s.rm.vehicle :=
  State.raiseLatch_keeps (Q := fun _ m => m.vehicle = s.rm.vehicle)
    (fun m u hu => (u.setMotion_rm m).1.trans hu) level cause origin rfl

theorem State.StopsSound.raise {s : State} (h : s.StopsSound) (c : Cause) : (s.raise c).StopsSound := by
  obtain ⟨hc, h2⟩ := h.latched.raise c
  by_cases hx : s.active = true ∧ c ∉ s.stc.causes
  · obtain ⟨hcauses, -, hinc⟩ := State.raise_stc_new hx.1 hx.2
    obtain ⟨hn, -, -, hr⟩ := h
    refine ⟨?_, Stc.asserted_le_iff.mpr hc, h2, hinc ▸ ring_length_le hr _⟩
    rw [hcauses, ← List.concat_eq_append]
    exact hn.concat hx.2
  · rwa [State.raise_eq, if_neg hx]

theorem State.raise_curbs (c : Cause) (s : State) : s.Curbs (s.raise c) := by
  have hd := s.raise_damps c
  refine State.curbs_of_stops hd.authority (fun h => h.raise c) hd.rides.known (s.raise_rm_silence c).1 fun _ hl h2 => ?_
  have hh : s.Halted := fun h => absurd h hl
  exact ((hh.raise c) h2).1

theorem State.frameLevel_damps (level : Nat) (cause : StopCause) (origin : Nat) (s : State) :
    s.Damps (s.frameLevel level cause origin) := by
  simp only [State.frameLevel]
  split
  · have hw : s.Damps (s.writeIncident cause level origin) :=
      State.damps_of_same (by simp [State.SameRide]) (by simp) (by simp)
    exact hw.trans (State.raiseLatch_damps ..)
  · exact .refl s

/-- A received level of at most 2 is brought to the latch with its record (R183, R189). -/
theorem State.frameLevel_curbs {level : Nat} (h2 : level ≤ 2) (cause : StopCause) (origin : Nat) (s : State) :
    s.Curbs (s.frameLevel level cause origin) := by
  by_cases hlt : s.stc.latch < level
  · have hd := s.frameLevel_damps level cause origin
    have hr := State.frameLevel_raisedTo hlt cause origin
    have hv : (s.frameLevel level cause origin).rm.vehicle = s.rm.vehicle := by
      simp only [State.frameLevel, hlt, if_true]
      exact State.raiseLatch_vehicle level cause origin (s.writeIncident cause level origin)
    refine State.curbs_of_stops hd.authority (fun ⟨hn, ha, _, hi⟩ => ⟨?_, ?_, ?_, ?_⟩) hd.rides.known hv
      fun _ _ h => (hr.halted (hr.latch.symm.trans h)).1
    · rw [hr.causes]; exact hn
    · rw [Stc.asserted_le_iff, hr.causes, hr.latch]
      exact fun c hc => ((Stc.asserted_le_iff.mp ha c hc).trans_lt hlt).le
    · rw [hr.latch]; exact h2
    · rw [hr.incidents]; exact ring_length_le hi _
  · simp only [State.frameLevel, hlt, if_false]
    exact .refl s

theorem State.withdraw_curbs (c : Cause) (s : State) : s.Curbs (s.withdraw c) := by
  have hl : (s.withdraw c).stc.latch = s.stc.latch := by rw [State.withdraw_stc]; split <;> rfl
  have hi : (s.withdraw c).stc.incidents = s.stc.incidents := by rw [State.withdraw_stc]; split <;> rfl
  have hc : (s.withdraw c).stc.causes.Sublist s.stc.causes := by
    rw [State.withdraw_stc]
    split
    · exact List.filter_sublist
    · exact .refl _
  exact State.curbs_of_stops (by simp) (fun h => h.of_sublist hc hl hi) (by simp) (by simp)
    fun _ h h2 => absurd (hl.symm.trans h2) h

/-- At a RESUME the latch falls to the asserted level left, and so never comes to 2 from below (R185). -/
theorem State.setLatch_curbs (s : State) : s.Curbs s.setLatch := by
  refine State.curbs_of_stops (by simp) (fun ⟨hn, ha, h2, hi⟩ => ?_) (by simp) (by simp) fun ⟨_, ha, h2, _⟩ hl h => ?_
  · exact ⟨hn, Nat.le_refl _, ha.trans h2, hi⟩
  · have : s.stc.asserted = 2 := h
    omega

theorem State.withdrawLatched_curbs (s : State) : s.Curbs s.withdrawLatched := by
  have he : s.withdrawLatched.stc = { s.stc with causes := s.stc.causes.filter fun c => !c.latched } := by
    simp only [State.withdrawLatched]
    split <;> simp
  refine State.curbs_of_stops (by simp) (fun h => h.of_sublist ?_ (by rw [he]) (by rw [he])) (by simp) (by simp)
    fun _ h h2 => absurd ((congrArg Stc.latch he).symm.trans h2) h
  rw [he]
  exact List.filter_sublist

/-! ### The motion state -/

theorem State.setMotion_curbs (m : Motion) (s : State) : s.Curbs (s.setMotion m) :=
  State.curbs_of_frame (by simp [State.setMotion_rm])

theorem State.startDwell_curbs (s : State) : s.Curbs s.startDwell :=
  State.curbs_of_frame ⟨by simp, by simp, s.startDwell_rides.known, by simp⟩

theorem State.enterHeld_curbs (s : State) : s.Curbs s.enterHeld := by
  simp only [State.enterHeld]
  split
  · exact (s.setMotion_curbs _).trans (State.setMotion_curbs ..)
  · exact (s.setMotion_curbs _).trans (State.startDwell_curbs _)

theorem State.driveFall_curbs (level : Nat) (s : State) : s.Curbs (s.driveFall level) := by
  simp only [State.driveFall]
  split
  case h_1 =>
    split
    · exact s.setMotion_curbs _
    · exact .refl s
  case h_2 =>
    split
    · exact s.enterHeld_curbs
    · exact .refl s
  all_goals exact .refl s

theorem State.periodTransition_curbs (s : State) : s.Curbs s.periodTransition := by
  simp only [State.periodTransition]
  split
  case h_1 =>
    split
    · exact s.setMotion_curbs _
    · exact .refl s
  case h_2 | h_3 | h_4 =>
    split
    · exact s.enterHeld_curbs
    · exact .refl s
  all_goals exact .refl s

theorem State.driveFix_curbs (s : State) : s.Curbs s.driveFix := by
  simp only [State.driveFix]
  split
  · exact s.enterHeld_curbs
  · exact .refl s

/-! ### The peer table and the slots -/

theorem State.foreignAfter_curbs (before : Bool) (s : State) : s.Curbs (s.foreignAfter before) := by
  simp only [State.foreignAfter]
  split
  · exact s.raise_curbs _
  · split
    · exact s.withdraw_curbs _
    · exact .refl s

theorem State.setPtb_curbs (t : List Peer) (s : State) : s.Curbs (s.setPtb t) :=
  State.curbs_of_frame ⟨rfl, rfl, rfl, rfl⟩

theorem State.setScu_curbs (u : Scu) (s : State) : s.Curbs (s.setScu u) := State.curbs_of_frame ⟨rfl, rfl, rfl, rfl⟩

section
variable {tell : Nat → State → State} (htell : ∀ n t, State.Curbs t (tell n t))
include htell

theorem State.removeWith_curbs (station : Nat) (s : State) : s.Curbs (s.removeWith tell station) := by
  have h (t : List Peer) := (s.setPtb_curbs t).trans (State.foreignAfter_curbs s.foreignSeen _)
  simp only [State.removeWith]
  split
  · exact .refl s
  · split
    · exact (h _).trans (htell ..)
    · exact h _

theorem State.pinWith_curbs (f : Pin) (station : Option Nat) (s : State) : s.Curbs (s.pinWith tell f station) := by
  have h := s.setPtb_curbs (namePin f station s.ptb)
  simp only [State.pinWith]
  split
  · exact h
  · split
    · exact h
    · split
      · exact h.trans (State.removeWith_curbs htell ..)
      · exact h

theorem State.liftWith_curbs (k : SlotId) (s : State) : s.Curbs (s.liftWith tell k) := by
  simp only [State.liftWith]
  split
  · exact .refl s
  · split
    · exact (s.setScu_curbs _).trans (State.pinWith_curbs htell ..)
    · exact (State.curbs_of_frame (by simp)).trans (State.pinWith_curbs htell ..)

end

theorem State.tellGone_curbs (n station : Nat) (s : State) : s.Curbs (s.tellGone n station) := by
  induction n generalizing station s with
  | zero => exact .refl s
  | succ n ih =>
    have lift (k : SlotId) (t : State) : t.Curbs (if (t.scu.slot k).waitsOn station then
        t.liftWith (State.tellGone n) k else t) := by
      split
      · exact State.liftWith_curbs ih k t
      · exact .refl t
    exact (lift .one s).trans (lift .two _)

theorem State.tellScu_curbs (station : Nat) (s : State) : s.Curbs (s.tellScu station) := s.tellGone_curbs ..

theorem State.removePeer_curbs (station : Nat) (s : State) : s.Curbs (s.removePeer station) :=
  State.removeWith_curbs State.tellScu_curbs station s

theorem State.pin_curbs (f : Pin) (station : Option Nat) (s : State) : s.Curbs (s.pin f station) :=
  State.pinWith_curbs State.tellScu_curbs f station s

theorem State.liftBlock_curbs (k : SlotId) (s : State) : s.Curbs (s.liftBlock k) :=
  State.liftWith_curbs State.tellScu_curbs k s

theorem State.enterWaiting_curbs (k : SlotId) (x station : Nat) (s : State) : s.Curbs (s.enterWaiting k x station) := by
  simp only [State.enterWaiting]
  split
  · exact (State.curbs_of_frame (by simp)).trans (State.pin_curbs ..)
  · exact (State.curbs_of_frame (by simp)).trans (State.liftBlock_curbs ..)

theorem State.freeSlot_curbs (frame : Bool) (k : SlotId) (s : State) : s.Curbs (s.freeSlot frame k) := by
  have notice (u : State) (h : s.Curbs u) : s.Curbs (if (s.scu.slot k).state = .waiting then
      u.slotNotice.pin (.slot k) none else u.slotNotice) := by
    have hn : s.Curbs u.slotNotice := h.trans (State.curbs_of_frame (by simp))
    split
    · exact hn.trans (State.pin_curbs ..)
    · exact hn
  refine notice _ ?_
  split <;> exact State.curbs_of_frame (by simp)

theorem State.claimAction_curbs (x : Nat) (s : State) : s.Curbs (s.claimAction x) := by
  simp only [State.claimAction]
  split
  · exact .refl s
  · split
    · exact s.raise_curbs _
    · split
      · exact s.enterWaiting_curbs ..
      · exact State.curbs_of_frame (by simp)

theorem State.freeAction_curbs (x : Nat) (s : State) : s.Curbs (s.freeAction x) := by
  simp only [State.freeAction]
  split
  · exact s.freeSlot_curbs ..
  · split
    · exact s.freeSlot_curbs ..
    · exact .refl s

theorem State.claimHeard_curbs (src x : Nat) (k : SlotId) (s : State) : s.Curbs (s.claimHeard src x k) := by
  simp only [State.claimHeard]
  split
  · exact s.enterWaiting_curbs ..
  · exact .refl s

theorem State.freeHeard_curbs (src x : Nat) (k : SlotId) (s : State) : s.Curbs (s.freeHeard src x k) := by
  simp only [State.freeHeard]
  split
  · exact s.liftBlock_curbs _
  · exact .refl s

theorem State.posHeard_curbs (src : Nat) (held : List Nat) (claiming : Option Nat) (k : SlotId) (s : State) :
    s.Curbs (s.posHeard src held claiming k) := by
  simp only [State.posHeard]
  split
  · exact .refl s
  · split
    · exact .refl s
    · split
      · exact s.enterWaiting_curbs ..
      · exact .refl s
    · split
      · exact s.liftBlock_curbs _
      · exact .refl s
    · split
      · exact (s.freeSlot_curbs ..).trans (State.raise_curbs ..)
      · exact .refl s

theorem State.windowExpired_curbs (k : SlotId) (s : State) : s.Curbs (s.windowExpired k) := by
  simp only [State.windowExpired]
  split
  · exact .refl s
  · split
    · exact s.enterWaiting_curbs ..
    · exact State.curbs_of_frame (by simp)

/-! ### Hearings -/

theorem State.makeRoom_curbs (s : State) : s.Curbs s.makeRoom := by
  simp only [State.makeRoom]
  split
  · exact .refl s
  · split
    · exact s.removePeer_curbs _
    · exact .refl s

theorem State.addPeer_curbs (station : Nat) (foreign : Bool) (s : State) : s.Curbs (s.addPeer station foreign) := by
  simp only [State.addPeer]
  split
  · exact (s.makeRoom_curbs.trans (State.setPtb_curbs ..)).trans (State.foreignAfter_curbs ..)
  · exact s.makeRoom_curbs

theorem State.mapPeer_curbs (station : Nat) (f : Peer → Peer) (s : State) : s.Curbs (s.mapPeer station f) :=
  s.setPtb_curbs _

theorem State.hearOwn_curbs (station : Nat) (s : State) : s.Curbs (s.hearOwn station) := by
  simp only [State.hearOwn]
  split
  · exact (s.mapPeer_curbs ..).trans (State.foreignAfter_curbs ..)
  · exact s.addPeer_curbs ..

theorem State.hearForeign_curbs (station : Nat) (s : State) : s.Curbs (s.hearForeign station) := by
  have marked (f : Peer → Peer) := (s.mapPeer_curbs station f).trans (State.foreignAfter_curbs s.foreignSeen _)
  simp only [State.hearForeign]
  split
  · exact s.addPeer_curbs ..
  · split
    · exact (marked _).trans (State.tellScu_curbs ..)
    · exact marked _

theorem State.hear_curbs (src : Nat) (s : State) : s.Curbs (s.hear src) := by
  simp only [State.hear]
  split
  · exact s.hearOwn_curbs src
  · exact .refl s

theorem State.hearPos_curbs (src : Nat) (b : PosBody) (s : State) : s.Curbs (s.hearPos src b) :=
  (((s.hearOwn_curbs src).trans (State.posHeard_curbs ..)).trans (State.posHeard_curbs ..)).trans
    (State.mapPeer_curbs ..)

theorem State.hearSync_curbs (src : Nat) (s : State) : s.Curbs (s.hearSync src) :=
  (s.hearOwn_curbs src).trans (State.mapPeer_curbs ..)

theorem State.staleNow_curbs (station : Nat) (s : State) : s.Curbs (s.staleNow station) := by
  simp only [State.staleNow]
  split
  · exact .refl s
  · split
    · exact s.removePeer_curbs _
    · exact s.mapPeer_curbs ..

theorem State.dropNow_curbs (station : Nat) (s : State) : s.Curbs (s.dropNow station) := by
  simp only [State.dropNow]
  split
  · exact .refl s
  · split
    · exact .refl s
    · exact s.removePeer_curbs _

end Sys2Proof.Machine

namespace Sys2Proof.Machine

/-! ### The restraints -/

/-- The authority is forced to 0 where SECURE is left, and stood at 0 already where another state is (R75). -/
theorem State.setVehicle_authority {s : State} {x : Restraint} (h : s.rm.vehicle ≠ x) :
    (s.setVehicle x).sau.authority = if s.rm.vehicle = .secure then 0 else s.sau.authority := by
  simp only [State.setVehicle, h, if_false, State.evalRelease_frame]
  split
  · next hl => simp [of_decide_eq_true hl]; rfl
  · next hl => simp [of_decide_eq_false (eq_false_of_ne_true hl)]

theorem State.setVehicle_curbs (x : Restraint) (s : State) : s.Curbs (s.setVehicle x) := by
  by_cases h : s.rm.vehicle = x
  · simp only [State.setVehicle, h, if_true]
    exact .refl s
  · have ha := State.setVehicle_authority h
    refine ⟨by rw [ha]; split <;> omega, fun ⟨hs, offered⟩ => ?_⟩
    refine State.governed_of_zero (hs.of_stc (by simp)) ?_
    rw [ha]
    split
    · rfl
    · next hv => exact Nat.eq_zero_of_not_pos fun h0 => hv (offered h0).2.1

theorem State.play_curbs (i : Nat) (r : PlayRequest) (s : State) : s.Curbs (s.play i r) :=
  State.curbs_of_frame ⟨rfl, rfl, rfl, rfl⟩

theorem State.announcementEnd_curbs (s : State) : s.Curbs s.announcementEnd :=
  State.curbs_of_frame ⟨rfl, rfl, rfl, rfl⟩

theorem State.enterAlarm_curbs (s : State) : s.Curbs s.enterAlarm :=
  (s.setVehicle_curbs _).trans (State.inEitherOrder_curbs (State.raise_curbs .restraint)
    (fun t => t.play_curbs 0 (announcement t.cfg.opt.restraintClip)) _)

theorem State.checkingTest_curbs (s : State) : s.Curbs s.checkingTest := by
  simp only [State.checkingTest]
  split
  · exact .refl s
  · split
    · exact s.setVehicle_curbs _
    · split
      · exact s.setVehicle_curbs _
      · exact .refl s

theorem State.alarmTest_curbs (level : Nat) (s : State) : s.Curbs (s.alarmTest level) := by
  simp only [State.alarmTest]
  split
  · exact (s.setVehicle_curbs _).trans (State.announcementEnd_curbs _)
  · exact .refl s

theorem State.seatTest_curbs (s : State) : s.Curbs s.seatTest := by
  simp only [State.seatTest]
  split
  · exact s.checkingTest_curbs
  · split
    · exact (s.withdraw_curbs _).trans (State.alarmTest_curbs ..)
    · exact .refl s
  all_goals exact .refl s

theorem State.seatLoss_curbs (s : State) : s.Curbs s.seatLoss := by
  simp only [State.seatLoss]
  split
  · exact s.enterAlarm_curbs
  · exact s.raise_curbs _
  all_goals exact .refl s

theorem State.setSeat_curbs (i : Nat) (k : Seat) (s : State) : s.Curbs (s.setSeat i k) :=
  State.curbs_of_frame ⟨rfl, rfl, rfl, rfl⟩

theorem State.seatChange_curbs (i : Nat) (s : State) : s.Curbs (s.seatChange i) := by
  have seat (k : Seat) := s.setSeat_curbs i k
  simp only [State.seatChange]
  split
  · exact .refl s
  · split
    · exact (seat _).trans (State.seatTest_curbs _)
    · exact seat _
  · split
    · exact .refl s
    · exact (seat _).trans (State.seatTest_curbs _)
  · split
    · exact .refl s
    · exact ((seat _).trans (State.seatLoss_curbs _)).trans (State.seatTest_curbs _)
  · split
    · exact seat _
    · exact .refl s

theorem State.seatChanges_curbs (l : List Nat) (s : State) : s.Curbs (s.seatChanges l) := by
  induction l generalizing s with
  | nil => exact .refl s
  | cons i l ih => exact (s.seatChange_curbs i).trans (ih _)

theorem State.confirmed_curbs (i : Nat) (s : State) : s.Curbs (s.confirmed i) := by
  simp only [State.confirmed]
  split
  · exact (s.setSeat_curbs ..).trans (State.seatTest_curbs _)
  · exact s.setSeat_curbs ..

theorem State.contradicted_curbs (i : Nat) (s : State) : s.Curbs (s.contradicted i) := by
  simp only [State.contradicted]
  split
  · exact (s.setSeat_curbs ..).trans (State.seatTest_curbs _)
  · exact s.setSeat_curbs ..

theorem State.releaseVehicle_curbs (s : State) : s.Curbs s.releaseVehicle := by
  have seats (t : State) : t.Curbs (t.setRm { t.rm with seats := t.rm.seats.map Seat.clearFault }) :=
    State.curbs_of_frame ⟨rfl, rfl, rfl, rfl⟩
  simp only [State.releaseVehicle]
  split
  · exact (((s.setVehicle_curbs _).trans (State.withdraw_curbs ..)).trans (State.announcementEnd_curbs _)).trans (seats _)
  · exact (s.setVehicle_curbs _).trans (seats _)

theorem State.grantUnlock_curbs (src : Nat) (s : State) : s.Curbs (s.grantUnlock src) := by
  simp only [State.grantUnlock]
  split
  · exact s.releaseVehicle_curbs
  · exact .refl s

theorem State.grantLock_curbs (s : State) : s.Curbs s.grantLock := by
  simp only [State.grantLock]
  split
  · exact (s.setVehicle_curbs _).trans (State.checkingTest_curbs _)
  · exact .refl s

/-! ### Entering an entry -/

theorem State.sceneTest_curbs (s : State) : s.Curbs s.sceneTest :=
  State.curbs_of_frame ⟨by simp, by simp, s.sceneTest_rides.known, by simp⟩

theorem State.sceneAction_curbs (s : State) : s.Curbs s.sceneAction := by
  simp only [State.sceneAction]
  split
  · exact s.claimAction_curbs _
  · exact s.freeAction_curbs _
  · exact .refl s

theorem State.entering_curbs (i d : Nat) (s : State) : s.Curbs (s.entering i d) := by
  obtain ⟨-, hstc, -, -, -, -, -, -, -, -, hrm⟩ := s.entering_frame i d
  refine State.curbs_of_lowered ?_ hstc (by rw [State.entering_rsq]) (by rw [hrm])
  simp only [State.entering, State.guideAction, State.setDsc_sau, State.capLowering]
  split
  · next h => exact h.le
  · exact Nat.le_refl _

theorem State.entryRest_curbs (s : State) : s.Curbs s.entryRest := by
  obtain ⟨-, hsau, hstc, -⟩ := s.entryRest_frame
  refine State.curbs_of_frame ⟨hsau, hstc, (congrArg Rsq.known s.entryRest_place :), ?_⟩
  simp [State.entryRest, State.evalRelease]

theorem State.enterEntry_curbs (i d : Nat) (s : State) : s.Curbs (s.enterEntry i d) := by
  rw [State.enterEntry_eq]
  exact (((s.entering_curbs i d).trans (State.curbs_of_frame (by simp))).trans (State.sceneAction_curbs _)).trans
    (State.entryRest_curbs _)

/-! ### A living part -/

/-- The part acts and its two period timers run (R83, R106). -/
structure State.Lives (s : State) : Prop where
  active : s.active = true
  period : s.dsc.timer.isSome = true
  sample : s.rm.timer.isSome = true

/-- The part lives, with sound stops and a governed authority. -/
structure State.Guarded (s : State) : Prop extends s.Lives where
  governed : s.Governed

theorem State.Rides.guarded {s t : State} (h : s.Rides t) (k : s.Curbs t) (a : s.Guarded) : t.Guarded where
  active := h.active a.active
  period := by rw [h.timer]; exact a.period
  sample := by rw [h.sample]; exact a.sample
  governed := k.governed a.governed

theorem State.Guarded.raise {s : State} (a : s.Guarded) (c : Cause) : (s.raise c).Guarded :=
  (s.raise_rides c).guarded (s.raise_curbs c) a

theorem State.Guarded.setRsq {s : State} (a : s.Guarded) (r : Rsq) (hk : r.known = s.rsq.known) : (s.setRsq r).Guarded :=
  ⟨⟨a.active, a.period, a.sample⟩, (State.curbs_of_frame ⟨rfl, rfl, hk, rfl⟩ : s.Curbs (s.setRsq r)).governed a.governed⟩

theorem State.Guarded.setDsc {s : State} (a : s.Guarded) (d : Dsc) (hm : d.motion = s.dsc.motion)
    (ht : d.timer.isSome = true) : (s.setDsc d).Guarded :=
  ⟨⟨by simpa [State.active_iff, hm] using a.active, ht, a.sample⟩,
    (State.curbs_of_frame ⟨rfl, rfl, rfl, rfl⟩ : s.Curbs (s.setDsc d)).governed a.governed⟩

theorem State.Guarded.enterEntry {s : State} (a : s.Guarded) (i d : Nat) : (s.enterEntry i d).Guarded where
  active := s.enterEntry_active i d a.active
  period := by
    have ht : (s.enterEntry i d).dsc.timer = s.dsc.timer := (congrArg Dsc.timer (s.enterEntry_gauges i d) :)
    rw [ht]; exact a.period
  sample := by
    obtain ⟨-, -, -, -, -, -, -, -, -, ht⟩ := State.entryRest_frame (s.entering i d).soundAction.sceneAction
    obtain ⟨-, -, -, -, -, -, -, -, -, -, hrm⟩ := s.entering_frame i d
    rw [State.enterEntry_eq, ht, (State.actions_damps _).rides.sample, hrm]
    exact a.sample
  governed := (s.enterEntry_curbs i d).governed a.governed

theorem State.Guarded.advance {s : State} (a : s.Guarded) (passed inTime : Bool) (carry : Nat) :
    (s.advance passed inTime carry).Guarded := by
  simp only [State.advance]
  apply State.Guarded.enterEntry
  refine State.Guarded.setRsq ?_ _ rfl
  split
  · exact a.raise _
  · exact a

/-- A position fault forces the authority to 0 (R21, R75). -/
theorem State.Guarded.positionFault {s : State} (a : s.Guarded) : s.positionFault.Guarded := by
  obtain ⟨hp, hl, -⟩ := s.active_iff.mp a.active
  have hg := (State.authorityLost_sameRide (s.setRsq s.rsq.lose)).rides
  apply State.Guarded.raise
  refine ⟨⟨?_, ?_, ?_⟩, State.governed_of_zero ?_ ?_⟩
  · simp [State.active_iff, hp, hl]
  · rw [Dsc.timer_of_gauges (State.setMotion_gauges ..), hg.timer]; exact a.period
  · rw [State.setMotion_sample, hg.sample]; exact a.sample
  · exact a.governed.1.of_stc (by simp)
  · simp [State.authorityLost, State.forceAuthority, State.handAuthority]

theorem State.Guarded.runEnds {s : State} (a : s.Guarded) (n : Nat) : (s.runEnds n).Guarded := by
  induction n generalizing s with
  | zero => exact a
  | succ n ih =>
    simp only [State.runEnds]
    split
    · exact a
    · exact a.setRsq _ rfl
    · exact a.positionFault
    · exact ih (a.advance ..)

theorem State.Guarded.settleEnds {s : State} (a : s.Guarded) : s.settleEnds.Guarded := by
  simp only [State.settleEnds]
  split
  · exact a.runEnds _
  · exact a

theorem State.Guarded.actOnRelease {s : State} (a : s.Guarded) : s.actOnRelease.Guarded := by
  simp only [State.actOnRelease]
  split
  · exact a.settleEnds
  · exact a

theorem State.Guarded.afterSlots {s : State} (a : s.Guarded) (u : Scu) : (s.afterSlots u).Guarded := by
  simp only [State.afterSlots]
  split
  · exact (s.sceneTest_rides.guarded s.sceneTest_curbs a).actOnRelease
  · exact a

/-! ### Pulses, markers and relocation -/

theorem State.Guarded.routePulse {s : State} (a : s.Guarded) : s.routePulse.Guarded := by
  simp only [State.routePulse]
  split
  · exact (a.setRsq _ (by rfl)).settleEnds
  · exact a

theorem State.Guarded.chainPulse {s : State} (a : s.Guarded) : (if s.rsq.known then s.chainPulse else s).Guarded := by
  split
  · exact s.chainPulse_sameRide.rides.guarded (State.curbs_of_frame (by simp)) a
  · exact a

theorem State.Guarded.pulse {s : State} (a : s.Guarded) : s.pulse.Guarded := by
  obtain ⟨ht, hm⟩ := s.dsc.pulse_timer s.cfg.opt
  have h1 := a.setDsc (s.dsc.pulse s.cfg.opt) hm (by rw [ht]; exact a.period)
  simp only [State.pulse]
  apply State.Guarded.afterSlots
  split
  · have h2 := (State.settled_sameRide _).rides.guarded (State.settled_curbs _) h1
    simp only [State.pulseWithLoss]
    split
    · exact (h2.raise _).chainPulse.routePulse
    · exact (h2.chainPulse.raise _).routePulse
    · exact h2.chainPulse.routePulse.raise _
  · exact h1.chainPulse.routePulse

theorem State.Guarded.disagreement {s : State} (a : s.Guarded) : s.disagreement.Guarded := by
  simp only [State.disagreement]
  split
  · exact (a.advance ..).settleEnds
  · exact a.positionFault

theorem State.Guarded.inTimeRead {s : State} (a : s.Guarded) : s.inTimeRead.Guarded := by
  have h := a.setRsq { s.rsq with distance := s.entry.length * 1000 } rfl
  simp only [State.inTimeRead]
  split
  · exact h.setRsq _ rfl
  · exact (h.advance ..).settleEnds

theorem State.Guarded.readMarker {s : State} (a : s.Guarded) (id : Nat) : (s.readMarker id).Guarded := by
  simp only [State.readMarker]
  split
  · split
    · exact a
    · split
      · exact a.inTimeRead
      · exact a.disagreement
  · split
    · exact a
    · split
      · split
        · exact a
        · exact a.positionFault
      · exact a.disagreement

theorem State.Guarded.dwellOver {s : State} (a : s.Guarded) : s.dwellOver.Guarded :=
  ((a.setRsq _ (by rfl)).actOnRelease).afterSlots _

theorem State.enterHeld_timers (s : State) :
    s.enterHeld.dsc.timer = s.dsc.timer ∧ s.enterHeld.rm.timer = s.rm.timer := by
  have hg (m : Motion) (u : State) : (u.setMotion m).dsc.timer = u.dsc.timer := Dsc.timer_of_gauges (u.setMotion_gauges m)
  simp only [State.enterHeld]
  split <;> simp [hg]

/-- A FIX that is accepted leads from LOST to HELD or BRAKED, and so leaves the part acting (R91). -/
theorem State.Guarded.driveFix {s : State} (a : s.Guarded) : s.driveFix.Guarded := by
  have hg := s.driveFix_curbs.governed a.governed
  simp only [State.driveFix] at hg ⊢
  split
  · next hm =>
    rw [if_pos hm] at hg
    obtain ⟨ht, hr⟩ := s.enterHeld_timers
    obtain ⟨hp, hl, -⟩ := s.active_iff.mp a.active
    refine ⟨⟨?_, ht ▸ a.period, hr ▸ a.sample⟩, hg⟩
    simp only [State.active_iff, State.enterHeld_motion, State.enterHeld_frame]
    exact ⟨hp, hl, by split <;> simp⟩
  · exact a

theorem State.Guarded.relocate {s : State} (a : s.Guarded) (e d : Nat) : (s.relocate e d).Guarded := by
  simp only [State.relocate]
  split
  · have h : (s.setRsq { s.rsq with known := true, lastMarker := none }).Guarded :=
      ⟨⟨a.active, a.period, a.sample⟩, a.governed.1, fun h => ⟨rfl, (a.governed.2 h).2⟩⟩
    exact (((State.withdraw_sameRide ..).rides.guarded (State.withdraw_curbs .position _) h).driveFix.enterEntry
      ..).settleEnds
  · exact a

/-! ### The platform's grants and RESUME -/

theorem State.Guarded.grantDispatch {s : State} (a : s.Guarded) (src : Nat) : (s.grantDispatch src).Guarded := by
  simp only [State.grantDispatch]
  split
  · exact (a.setRsq _ (by rfl)).actOnRelease
  · exact a

theorem State.Guarded.notifyFall {s : State} (a : s.Guarded) (level : Nat) : (s.notifyFall level).Guarded := by
  have h0 := (State.settled_sameRide s).rides.guarded s.settled_curbs a
  have d {t : State} (h : t.Guarded) : (t.driveAfterFall level).Guarded :=
    ((t.driveFall_rides level).guarded (t.driveFall_curbs level) h).actOnRelease
  have c {t : State} (h : t.Guarded) : (t.chainAfterFall level).Guarded :=
    (t.chainAfterFall_rides level).guarded (State.curbs_of_frame (by simp)) h
  have m {t : State} (h : t.Guarded) : (t.alarmTest level).Guarded :=
    (t.alarmTest_sameRide level).rides.guarded (t.alarmTest_curbs level) h
  exact State.inAnyOrder_of (P := State.Guarded) _ _ _ _ (m (c (d h0))) (c (m (d h0))) (m (d (c h0)))
    (d (m (c h0))) (c (d (m h0))) (d (c (m h0)))

theorem State.Guarded.resume {s : State} (a : s.Guarded) : s.resume.Guarded := by
  have h : s.withdrawLatched.setLatch.Guarded :=
    (State.SameRide.rides (s := s) (by simp [State.SameRide])).guarded
      (s.withdrawLatched_curbs.trans (State.setLatch_curbs _)) a
  simp only [State.resume]
  split
  · exact h.notifyFall _
  · exact h

/-! ### The control period -/

/-- The authority that a control period computes is governed by R74. -/
theorem State.Governed.computeAuthority {s : State} (g : s.Governed) : s.computeAuthority.Governed := by
  refine (State.pin_curbs ..).governed ⟨g.1, fun h => ?_⟩
  have h0 : 0 < s.computedSau.authority := h
  by_cases hk : s.rsq.known = true
  · simp only [State.computedSau, hk, if_true, State.finalAuthority] at h0
    split at h0
    · exact absurd h0 (Nat.lt_irrefl 0)
    · next hf =>
      simp only [State.forced, Bool.or_eq_true, decide_eq_true_eq, not_or, not_not] at hf
      exact ⟨hk, hf.1.1.1, hf.1.1.2⟩
  · simp [State.computedSau, hk] at h0

theorem State.Guarded.regain {s : State} (a : s.Guarded) (g : GuideState) : (s.regain g).Guarded := by
  simp only [State.regain]
  split
  · exact (State.withdraw_sameRide ..).rides.guarded (State.withdraw_curbs ..) (a.setDsc _ rfl a.period)
  · exact a

theorem State.Guarded.guideStep {s : State} (a : s.Guarded) (coils : Coils) : (s.guideStep coils).Guarded := by
  have h : s.readFeedforward.Guarded := by
    simp only [State.readFeedforward]
    split
    · exact a.setDsc _ rfl a.period
    · exact a
  obtain ⟨m1, t1⟩ := s.readFeedforward.dsc.sense_motion s.readFeedforward.cfg.opt coils
  obtain ⟨m2, t2⟩ := (s.readFeedforward.dsc.sense s.readFeedforward.cfg.opt coils).steer_motion s.readFeedforward.cfg.opt
  exact (h.setDsc _ (m2.trans m1) (by rw [t2, t1]; exact h.period)).regain _

theorem State.Guarded.controlPeriod {s : State} (a : s.Guarded) (coils : Coils) : (s.controlPeriod coils).Guarded := by
  have h1 : s.restartPeriod.Guarded := a.setDsc _ rfl rfl
  have h2 : s.restartPeriod.closeCount.Guarded :=
    (State.evalRelease_sameRide _).rides.guarded (State.curbs_of_frame ⟨rfl, rfl, rfl, rfl⟩) (h1.setDsc _ rfl h1.period)
  have h3 : s.restartPeriod.closeCount.computeAuthority.Guarded :=
    ⟨⟨by simpa [State.active] using h2.active, by simpa using h2.period, by simpa using h2.sample⟩,
      h2.governed.computeAuthority⟩
  have h4 := (State.periodTransition_rides _).guarded (State.periodTransition_curbs _) h3
  obtain ⟨m, t⟩ := Dsc.ramp_motion _ _ s.restartPeriod.closeCount.computeAuthority.periodTransition.dsc
  have h5 : s.restartPeriod.closeCount.computeAuthority.periodTransition.setCommand.Guarded :=
    h4.setDsc _ m (by rw [t]; exact h4.period)
  exact ((h5.guideStep coils).actOnRelease).afterSlots _

end Sys2Proof.Machine

namespace Sys2Proof.Machine

/-! ### The invariant of the authority -/

/-- The invariant: the authority and the stops are safe, and the timers go with the load state. -/
def State.Licensed (s : State) : Prop := s.AuthoritySafe ∧ s.StopsSound ∧ s.LifeSound

theorem State.Licensed.governed {s : State} (a : s.Licensed) : s.Governed :=
  ⟨a.2.1, fun h => (a.1 h).2⟩

/-- While the part acts the invariant says that it is guarded. -/
theorem State.licensed_iff_guarded {s : State} (ha : s.active = true) : s.Licensed ↔ s.Guarded := by
  obtain ⟨hp, hl, -, hc⟩ := s.active_iff.mp ha
  constructor
  · rintro ⟨hs, hst, -, hper, hsam, -⟩
    exact ⟨⟨ha, hper.mpr ha, hsam.mpr ⟨hp, hl, hc⟩⟩, hst, fun h => (hs h).2⟩
  · rintro ⟨⟨-, hper, hsam⟩, hst, hof⟩
    exact ⟨fun h => ⟨ha, hof h⟩, hst, by simp [hl], by simp [hper, ha], by simp [hsam, hp, hl, hc], fun _ => ha⟩

theorem State.Guarded.licensed {s : State} (h : s.Guarded) : s.Licensed := (State.licensed_iff_guarded h.active).mpr h

/-- A part that does not act has no authority; of its load and its timers `Agreed` says the same. -/
theorem State.licensed_iff_of_inactive {s : State} (ha : s.active = false) :
    s.Licensed ↔ s.sau.authority = 0 ∧ s.StopsSound ∧ s.Agreed := by
  simp only [State.Licensed, State.AuthoritySafe, State.Agreed, State.PositionAgrees, State.DwellSound, ha]
  simp

theorem State.Agreed.licensed {s : State} (h : s.Agreed) (h0 : s.sau.authority = 0) (hs : s.StopsSound) : s.Licensed :=
  ⟨fun hpos => by omega, hs, h.2.2⟩

theorem State.SameRide.lifeSound {s t : State} (h : s.SameRide t) (a : s.LifeSound) : t.LifeSound := by
  have ha := h.active
  have ht := h.rides.timer
  obtain ⟨hp, -, hl, hm, -, hrm, hrsq⟩ := h
  rw [State.LifeSound, hl, hm, hrsq, ht, ha, hrm, hp]
  exact a

/-- A change that leaves ride and timers, and curbs the authority, keeps the invariant. -/
theorem State.SameRide.licensed {s t : State} (h : s.SameRide t) (k : s.Curbs t) (a : s.Licensed) : t.Licensed := by
  obtain ⟨hst, hof⟩ := k.governed a.governed
  refine ⟨fun hpos => ⟨?_, hof hpos⟩, hst, h.lifeSound a.2.2⟩
  rw [h.active]
  exact (a.1 (Nat.lt_of_lt_of_le hpos k.authority)).1

/-- A change that acts only in an acting part, and keeps that one guarded, keeps the invariant. -/
theorem State.Licensed.of_guarded {s : State} {f : State → State} (a : s.Licensed) (hi : s.active = false → f s = s)
    (hs : s.Guarded → (f s).Licensed) : (f s).Licensed := by
  cases h : s.active
  · rwa [hi h]
  · exact hs ((State.licensed_iff_guarded h).mp a)

/-- A change that reaches neither drive, restraints and position nor the authority and the stops. -/
theorem State.Licensed.of_frame {s t : State} (a : s.Licensed) (h : t.powered = s.powered ∧ t.cfg = s.cfg
    ∧ t.cfs.load = s.cfs.load ∧ t.dsc = s.dsc ∧ t.rm = s.rm ∧ t.rsq = s.rsq ∧ t.sau = s.sau ∧ t.stc = s.stc) :
    t.Licensed := by
  obtain ⟨hp, hcfg, hl, hdsc, hrm, hrsq, hsau, hstc⟩ := h
  exact (State.sameRide_of_frame ⟨hp, hcfg, hl, hdsc, hrm, hrsq⟩).licensed
    (State.curbs_of_frame ⟨hsau, hstc, by rw [hrsq], by rw [hrm]⟩) a

theorem State.Licensed.afterSlots {s : State} (a : s.Licensed) (u : Scu) : (s.afterSlots u).Licensed :=
  a.of_guarded (f := State.afterSlots u) (fun h => State.afterSlots_of_inactive h u) fun h => (h.afterSlots u).licensed

theorem State.Licensed.raise {s : State} (a : s.Licensed) (c : Cause) : (s.raise c).Licensed :=
  a.of_guarded (f := State.raise c) (fun h => State.raise_of_inactive h c) fun h => (h.raise c).licensed

theorem State.Licensed.withdraw {s : State} (a : s.Licensed) (c : Cause) : (s.withdraw c).Licensed :=
  (s.withdraw_sameRide c).licensed (s.withdraw_curbs c) a

/-! ### Starts, parking and wakes -/

theorem State.stopsSound_of_cleared {s t : State} (h : s.StopsSound) (hc : t.stc.causes = []) (hl : t.stc.latch ≤ 2)
    (hi : t.stc.incidents = s.stc.incidents) : t.StopsSound := by
  obtain ⟨-, -, -, hr⟩ := h
  exact ⟨by simp [hc], by simp [Stc.asserted, hc], hl, hi ▸ hr⟩

theorem State.Guarded.parkAll {s : State} (a : s.Guarded) : s.parkAll.Licensed := by
  obtain ⟨hp, hl, -⟩ := s.active_iff.mp a.active
  have hm : s.parkAll.dsc.motion = .parked := by simp [State.parkAll, Dsc.park, Dsc.enter]
  have ht : s.parkAll.rm.timer.isSome = true := a.sample
  obtain ⟨-, -, h2, -⟩ := a.governed.1
  rw [State.licensed_iff_of_inactive s.parkAll_inactive, State.agreed_iff_of_inactive s.parkAll_inactive]
  refine ⟨rfl, State.stopsSound_of_cleared a.governed.1 rfl h2 rfl, by simp [hl], rfl, rfl, ?_⟩
  simp [hm, hp, hl, ht]

theorem State.inactive_of_parked {s : State} (h : s.parked = true) : s.active = false := by
  simp only [State.parked, Bool.and_eq_true, decide_eq_true_eq] at h
  simp [State.active, h.2]

theorem State.Licensed.wake {s : State} (a : s.Licensed) (hp : s.parked = true) (r : WakeReason) :
    (s.wake r).Licensed := by
  obtain ⟨-, hs, ha⟩ := (State.licensed_iff_of_inactive (State.inactive_of_parked hp)).mp a
  refine (ha.wake hp r).licensed ?_ ?_ <;> rw [State.wake_eq]
  · simp [State.woken, Sau.start]
  · exact State.stopsSound_of_cleared hs (by simp [State.woken, Stc.start]) (by simp [State.woken, Stc.start])
      (by simp [State.woken])

theorem State.Licensed.awake {s : State} (a : s.Licensed) : s.awake.Licensed := by
  simp only [State.awake]
  split
  · next h => exact a.wake h _
  · exact a

theorem State.Licensed.loadEnds {s : State} (a : s.Licensed) (memory : List Byte) : (s.loadEnds memory).Licensed := by
  by_cases h : s.powered ∧ s.cfs.load = .loading
  · obtain ⟨h0, hs, ha⟩ := (State.licensed_iff_of_inactive (by simp [State.active, h.2])).mp a
    exact (ha.loadEnds memory).licensed (by simpa using h0) (hs.of_stc (by simp))
  · simpa [State.loadEnds, h] using a

theorem State.Licensed.pinStart {s : State} (a : s.Licensed) : s.pinStart.Licensed :=
  s.agreed_pinStart.licensed rfl (State.stopsSound_of_cleared a.2.1 rfl (Nat.zero_le _) rfl)

/-- The state of a start with an empty incident list (R194). -/
theorem State.licensed_of_start {s : State} (hl : s.cfs.load = .loading) (hd : s.dsc = Dsc.start) (hr : s.rsq = Rsq.start)
    (hm : s.rm = Rm.start) (hu : s.sau = Sau.start) (hc : s.stc = Stc.start) : s.Licensed :=
  (State.agreed_of_start hl hd hr hm).licensed (by simp [hu, Sau.start])
    (by simp [State.StopsSound, Stc.asserted, hc, Stc.start])

/-! ### Reception -/

theorem State.Guarded.grant {s : State} (a : s.Guarded) (src : Nat) (kind : GrantKind) :
    (s.grant src kind).Licensed := by
  cases kind with
  | unlock => exact ((s.grantUnlock_sameRide src).rides.guarded (s.grantUnlock_curbs src) a).licensed
  | lock => exact (s.grantLock_sameRide.rides.guarded s.grantLock_curbs a).licensed
  | dispatch => exact (a.grantDispatch src).licensed
  | wake => exact a.licensed
  | park =>
    simp only [State.grant, State.grantPark]
    split
    · exact a.parkAll
    · exact a.licensed

/-- A delivered frame whose level is in range leaves an acting part guarded, or parked. -/
theorem State.Guarded.deliver {s : State} (a : s.Guarded) (src : Nat) {b : Body} (hb : bodyInRange b = true) :
    (s.deliver src b).Licensed := by
  have h0 : s.settled.Guarded := s.settled_sameRide.rides.guarded s.settled_curbs a
  have hear (t : State) (h : t.Guarded) : (t.hear src).Guarded := (t.hear_rides src).guarded (t.hear_curbs src) h
  have curbed {g : State → State} (hg : ∀ t : State, t.SameRide (g t)) (hc : ∀ t : State, t.Curbs (g t)) :
      (s.inEitherOrder (State.hear src) g).Licensed :=
    (State.inEitherOrder_keeps h0 hear fun t h => (hg t).rides.guarded (hc t) h).licensed
  have level {n : Nat} (h2 : n ≤ 2) (cause : StopCause) (t : State) (h : t.Guarded) :
      (t.frameLevel n cause src).Guarded :=
    (t.frameLevel_rides ..).guarded (t.frameLevel_curbs h2 ..) h
  cases b with
  | pos p =>
    have h2 : p.level ≤ 2 := by
      simp only [bodyInRange, posInRange, Bool.and_eq_true, decide_eq_true_eq] at hb
      exact hb.1.1.1.1.2
    have hp (t : State) (h : t.Guarded) : (t.hearPos src p).Guarded :=
      (t.hearPos_rides src p).guarded (t.hearPos_curbs src p) h
    simp only [State.deliver, State.deliverPos]
    split
    · exact (State.inEitherOrder_keeps h0 hp (level h2 _)).licensed
    · exact (hp s a).licensed
  | stop n code =>
    have h2 : n ≤ 2 := by
      simp only [bodyInRange, Bool.and_eq_true, decide_eq_true_eq] at hb
      exact hb.1.2
    simp only [State.deliver, State.deliverStop]
    split
    · exact (State.inEitherOrder_keeps h0 hear (level h2 _)).licensed
    · exact (hear s a).licensed
  | resume => exact (State.inEitherOrder_keeps h0 hear fun t h => h.resume).licensed
  | claim x =>
    exact curbed (fun t => State.sameRide_of_frame (by simp))
      fun t => (t.claimHeard_curbs src x .one).trans (State.claimHeard_curbs src x .two _)
  | free x =>
    exact curbed (fun t => State.sameRide_of_frame (by simp))
      fun t => (t.freeHeard_curbs src x .one).trans (State.freeHeard_curbs src x .two _)
  | cue _ => exact (hear s a).licensed
  | cuest c => exact curbed (fun t => State.sameRide_of_frame (by simp)) fun t => State.curbs_of_frame (by simp)
  | sync time scene =>
    exact (State.inEitherOrder_keeps h0
      (fun t h => (State.sameRide_of_frame (t := t.hearSync src) (by simp)).rides.guarded (t.hearSync_curbs src) h)
      fun t h => (State.sameRide_of_frame (t := t.handleSync src time scene) (by simp)).rides.guarded
        (State.curbs_of_frame (by simp)) h).licensed
  | grant target kind =>
    simp only [State.deliver, State.deliverGrant]
    split
    · exact State.inEitherOrder_of (P := State.Licensed) _ _ _ ((hear _ h0).grant src kind)
        ((State.hear_sameRide src _).licensed (State.hear_curbs src _) (h0.grant src kind))
    · exact (hear s a).licensed
  | fix target entry distance =>
    simp only [State.deliver, State.deliverFix]
    split
    · exact (State.inEitherOrder_keeps h0 hear fun t h => h.relocate entry distance).licensed
    · exact (hear s a).licensed
  | clear target =>
    exact ((State.sameRide_of_frame (t := (s.hear src).removePeer target) (by simp)).rides.guarded
      ((s.hear_curbs src).trans (State.removePeer_curbs target _)) a).licensed

theorem State.Guarded.deliverForeign {s : State} (a : s.Guarded) (src : Nat) {b : Body} (hb : bodyInRange b = true) :
    (s.deliverForeign src b).Guarded := by
  have hear (t : State) (h : t.Guarded) : (t.hearForeign src).Guarded :=
    (t.hearForeign_rides src).guarded (t.hearForeign_curbs src) h
  cases b with
  | stop n code =>
    have h2 : n ≤ 2 := by
      simp only [bodyInRange, Bool.and_eq_true, decide_eq_true_eq] at hb
      exact hb.1.2
    simp only [State.deliverForeign]
    split
    · exact State.inEitherOrder_keeps (s.settled_sameRide.rides.guarded s.settled_curbs a) hear
        fun t h => (t.frameLevel_rides ..).guarded (t.frameLevel_curbs h2 ..) h
    · exact hear s a
  | _ => exact hear s a

theorem State.Licensed.receive {s : State} (a : s.Licensed) (f : Frame) : (s.receive f).Licensed := by
  have h : s.carrierFalls.Licensed := a.of_frame (by simp)
  simp only [State.receive, State.examine]
  split
  · next hp =>
    split
    · exact h.wake hp _
    · exact h
  · split
    · next hv =>
      simp only [Bool.and_eq_true] at hv
      obtain ⟨hact, hvalid⟩ := hv
      have hb : bodyInRange f.body = true := by
        simp only [State.frameValid, frameInRange, Bool.and_eq_true] at hvalid
        exact hvalid.1.2.2
      have hn : s.carrierFalls.netHeard.Guarded := by
        refine (State.licensed_iff_guarded ?_).mp (State.Licensed.withdraw (h.of_frame (t := State.setNi _ _) (by simp)) _)
        rw [State.netHeard, (State.withdraw_sameRide ..).active]
        exact hact
      simp only [State.handleFrame]
      apply State.Licensed.afterSlots
      split
      · exact hn.deliver _ hb
      · exact (hn.deliverForeign _ hb).licensed
    · exact h

theorem State.Licensed.receiveBytes {s : State} (a : s.Licensed) (bytes : List Byte) : (s.receiveBytes bytes).Licensed := by
  simp only [State.receiveBytes]
  split
  · exact a.receive _
  · exact a.of_frame (by simp)

/-! ### The service link -/

theorem State.Licensed.serve {s : State} (a : s.Licensed) (act : State → State × Reply) (h : (act s).1.Licensed) :
    (s.serve act).Licensed := by
  simp only [State.serve]
  split
  · exact h.of_frame (by simp)
  · exact a

theorem State.Licensed.serviceStop {s : State} (a : s.Licensed) (on : Bool) : (serviceStop on s).1.Licensed := by
  simp only [Machine.serviceStop]
  split
  · exact a
  · split
    · exact a.awake.raise _
    · exact a.awake.withdraw _

theorem State.Licensed.parkCommand {s : State} (a : s.Licensed) : (parkCommand s).1.Licensed := by
  simp only [Machine.parkCommand]
  split
  · next h =>
    have ha : s.active = true := by
      simp only [State.parkAccepted, Bool.and_eq_true, Bool.or_eq_true, decide_eq_true_eq] at h
      rw [State.active_iff]
      rcases h.2 with m | m <;> simp [h.1, m]
    exact ((State.licensed_iff_guarded ha).mp a).parkAll
  · exact a

theorem State.Licensed.restartCommand {s : State} (a : s.Licensed) : (restartCommand s).1.Licensed := by
  simp only [Machine.restartCommand]
  split
  · exact a
  · exact a.of_frame (by simp)

theorem State.Licensed.testClipCommand {s : State} (a : s.Licensed) (clip : Nat) :
    (testClipCommand clip s).1.Licensed := by
  simp only [Machine.testClipCommand]
  split
  · exact a
  · split
    · exact a
    · exact a.awake.of_frame (by simp)

theorem State.Licensed.clearIncidentList {s : State} (a : s.Licensed) : (clearIncidentList s).1.Licensed := by
  refine (State.sameRide_of_frame (s := s) (by simp [Machine.clearIncidentList])).licensed ?_ a
  exact State.curbs_of_stops (Nat.le_refl _) (fun ⟨hn, ha, h2, _⟩ => ⟨hn, ha, h2, Nat.zero_le _⟩) rfl rfl
    fun _ h h2 => absurd h2 h

theorem State.Licensed.act {s : State} (a : s.Licensed) (c : ServiceCommand) : (c.act s).1.Licensed := by
  cases c with
  | clearIncidents => exact a.clearIncidentList
  | stopOn => exact a.serviceStop true
  | stopOff => exact a.serviceStop false
  | park => exact a.parkCommand
  | restart => exact a.restartCommand
  | testClip clip => exact a.testClipCommand clip
  | _ => exact a

theorem State.Licensed.actLine {s : State} (a : s.Licensed) (line : String) : (actLine line s).1.Licensed := by
  simp only [Machine.actLine]
  split
  · exact a.act _
  · exact a

theorem State.Licensed.replySent {s : State} (a : s.Licensed) : s.replySent.Licensed := by
  simp only [State.replySent]
  split
  · split
    · exact a.pinStart
    · exact a.of_frame (by simp)
  · exact a

/-! ### Every command -/

/-- An expiry whose action keeps the invariant keeps it. -/
theorem State.Licensed.onExpiry {s : State} (a : s.Licensed) (dt : Nat) (t : Timer) (act : State → State)
    (h : ∀ u : State, t.isSome = true → s.SameRide u → u.Licensed → (act u).Licensed) :
    (s.onExpiry dt t act).Licensed := by
  have hs (n : Nat) : s.SameRide (s.setNow n) := State.sameRide_of_frame (by simp)
  have hn (n : Nat) : (s.setNow n).Licensed := a.of_frame (by simp)
  simp only [State.onExpiry]
  split
  · exact h _ rfl (hs _) (hn _)
  · exact hn _

theorem State.Licensed.ifPowered {s : State} (a : s.Licensed) {act : State → State} (h : (act s).Licensed) :
    (s.ifPowered act).Licensed := by
  simp only [State.ifPowered]
  split
  · exact h
  · exact a

/-- A sample acts on the seats of an acting part, and wakes a parked one at a change (R106, R122). -/
theorem State.Licensed.seatSample {s : State} (a : s.Licensed) (ht : s.rm.timer.isSome = true) (raw : List SeatInput) :
    (s.seatSample raw).Licensed := by
  have ha : (s.sampled raw).active = s.active := by simp [State.active]
  have hp : (s.sampled raw).parked = s.parked := by simp [State.parked]
  have hk : s.Curbs (s.sampled raw) := State.curbs_of_frame ⟨rfl, rfl, rfl, rfl⟩
  have h : (s.sampled raw).Licensed := by
    obtain ⟨hstops, hoffered⟩ := hk.governed a.governed
    obtain ⟨hl, hperiod, hsample, hdwell⟩ := a.2.2
    exact ⟨fun h => ⟨ha.trans (a.1 h).1, hoffered h⟩, hstops, hl, by rw [ha]; exact hperiod,
      ⟨fun _ => hsample.mp ht, fun _ => rfl⟩, by rw [ha]; exact hdwell⟩
  simp only [State.seatSample]
  split
  · next hparked =>
    split
    · exact h
    · exact h.wake (hp.trans hparked) _
  · next hparked =>
    have hs : s.active = true := by
      obtain ⟨-, -, -, -, hsample, -⟩ := a
      obtain ⟨hpow, hload, hfault⟩ := hsample.mp ht
      exact s.active_iff.mpr ⟨hpow, hload, by simpa [State.parked, hpow, hload] using hparked, hfault⟩
    exact ((State.seatChanges_rides _ _).guarded (State.seatChanges_curbs _ _)
      ((State.licensed_iff_guarded (ha.trans hs)).mp h)).licensed

theorem State.Licensed.pulse {s : State} (a : s.Licensed) : (if s.active then s.pulse else s).Licensed := by
  split
  · next h => exact ((State.licensed_iff_guarded h).mp a).pulse.licensed
  · exact a

theorem State.Licensed.markerHeard {s : State} (a : s.Licensed) (id : Nat) : (s.markerHeard id).Licensed := by
  simp only [State.markerHeard]
  split
  · next h =>
    simp only [Bool.and_eq_true] at h
    exact ((((State.licensed_iff_guarded h.1).mp a).readMarker id).afterSlots _).licensed
  · exact a

theorem State.Licensed.soundPeriod {s : State} (a : s.Licensed) : s.soundPeriod.Licensed := by
  simp only [State.soundPeriod]
  split <;> exact a.of_frame (by simp)

theorem State.Licensed.exec {s t : State} (a : s.Licensed) (c : Instr) (h : exec c s = .next t) : t.Licensed := by
  have e (dt : Nat) : (s.elapse dt).Licensed := a.of_frame (by simp)
  have keep (dt : Nat) (x : Timer) {act : State → State} (hr : ∀ u : State, u.SameRide (act u))
      (hc : ∀ u : State, u.Curbs (act u)) : (s.onExpiry dt x act).Licensed :=
    a.onExpiry dt x act fun u _ _ hu => (hr u).licensed (hc u) hu
  have slots (dt : Nat) (x : Timer) {act : State → State} (hr : ∀ u : State, u.SameRide (act u))
      (hc : ∀ u : State, u.Curbs (act u)) : (s.onExpiry dt x fun u => (act u).afterSlots u.scu).Licensed :=
    a.onExpiry dt x _ fun u _ _ hu => ((hr u).licensed (hc u) hu).afterSlots _
  obtain ⟨-, -, -, hperiod, -, hdwell⟩ := id a
  have frame (dt : Nat) (x : Timer) {act : State → State} (hf : ∀ u : State, u.Licensed → (act u).Licensed) :
      (s.onExpiry dt x act).Licensed := a.onExpiry dt x act fun u _ _ hu => hf u hu
  cases c <;> cases h
  case powerOn => exact State.licensed_of_start rfl rfl rfl rfl rfl rfl
  case resetInput dt => exact (e dt).ifPowered (e dt).pinStart
  case loadEnd dt memory => exact (e dt).loadEnds memory
  case powerLoss => exact State.licensed_of_start rfl rfl rfl rfl rfl rfl
  case candidateDiscarded dt bytes => exact (e dt).receiveBytes bytes
  case carrierBusy dt => exact (e dt).ifPowered ((e dt).of_frame (by simp))
  case frameTransmit dt => exact a.of_frame (by simp)
  case posPeriodTimerExpiry dt => exact frame dt _ fun u hu => hu.of_frame (by simp)
  case netSilenceTimerExpiry dt =>
    exact frame dt _ fun u hu => (hu.of_frame (t := u.setNi { u.ni with silence := none }) (by simp)).raise _
  case staleTime dt station => exact slots dt _ (fun u => State.sameRide_of_frame (by simp)) fun u => u.staleNow_curbs _
  case dropTime dt station => exact slots dt _ (fun u => State.sameRide_of_frame (by simp)) fun u => u.dropNow_curbs _
  case claimWindowExpiry dt k =>
    exact slots dt _ (fun u => State.sameRide_of_frame (by simp)) fun u => u.windowExpired_curbs _
  case odometerPulse dt => exact (e dt).pulse
  case markerRead dt id => exact (e dt).markerHeard id
  case dwellTimerExpiry dt =>
    refine a.onExpiry dt _ _ fun u ht hu ua => ?_
    have hs : s.active = true := hdwell ht
    exact ((State.licensed_iff_guarded (hu.active.trans hs)).mp ua).dwellOver.licensed
  case controlPeriodExpiry dt coils =>
    refine a.onExpiry dt _ _ fun u ht hu ua => ?_
    have hs : s.active = true := hperiod.mp ht
    exact (((State.licensed_iff_guarded (hu.active.trans hs)).mp ua).controlPeriod coils).licensed
  case sampleTimerExpiry dt raw =>
    exact a.onExpiry dt _ _ fun u ht hu ua => ua.seatSample (by rw [hu.rides.sample]; exact ht) raw
  case confirmTimerExpiry dt seat => exact keep dt _ (fun u => u.confirmed_sameRide _) fun u => u.confirmed_curbs _
  case contradictionTimerExpiry dt seat =>
    exact keep dt _ (fun u => u.contradicted_sameRide _) fun u => u.contradicted_curbs _
  case pendingTimerExpiry dt => exact frame dt _ fun u hu => hu.of_frame (by simp)
  case cueTimeout dt ref => exact frame dt _ fun u hu => hu.of_frame (by simp)
  case lateWindowExpiry dt ref => exact frame dt _ fun u hu => hu.of_frame (by simp)
  case referenceSilent dt => exact frame dt _ fun u hu => hu.of_frame (by simp)
  case samplePeriod dt => exact (e dt).soundPeriod
  case transferCompletion dt samples => exact (e dt).ifPowered ((e dt).of_frame (by simp))
  case clearIncidents dt => exact (e dt).serve _ (e dt).clearIncidentList
  case serviceStopOn dt => exact (e dt).serve _ ((e dt).serviceStop true)
  case serviceStopOff dt => exact (e dt).serve _ ((e dt).serviceStop false)
  case park dt => exact (e dt).serve _ (e dt).parkCommand
  case restart dt => exact (e dt).serve _ (e dt).restartCommand
  case testClip dt clip => exact (e dt).serve _ ((e dt).testClipCommand clip)
  case unknownCommand dt line => exact (e dt).serve _ ((e dt).actLine line)
  case serviceReplySent dt => exact (e dt).replySent
  case status dt | readRoute dt | readPeers dt | readSeats dt | readScenes dt | readVoices dt | readClock dt
    | readIncidents dt => exact (e dt).serve _ (e dt)
  case posFrame dt _ _ | stopFrame dt _ _ _ | resumeFrame dt _ | claimFrame dt _ _ | freeFrame dt _ _
    | cueFrame dt _ _ | cuestFrame dt _ _ | syncFrame dt _ _ _ | grantUnlock dt _ _ | grantLock dt _ _
    | grantDispatch dt _ _ | grantPark dt _ _ | grantWake dt _ _ | fixFrame dt _ _ _ _ | clearFrame dt _ _ =>
    exact (e dt).receive _

end Sys2Proof.Machine

open Sys2Proof.Machine in
/-- Settles O53: every operation of an acting part curbs the authority or computes it within R74, and every command
that ends the acting leaves it 0. -/
theorem authorityStaysSafe : Obligations.AuthorityStaysSafe := fun _ _ h hst =>
  step_keeps (P := State.Licensed) (fun s _ a => a.of_frame (by simp)) (fun c _ _ a h => a.exec c h) h hst

namespace Sys2Proof.Machine

/-! ### The integer root (R71) -/

/-- A root known to within `2 ^ b` is found exactly in `b` more bits. -/
theorem isqrtBits_spec (b r n : Nat) (hr : r * r ≤ n) (hn : n < (r + 2 ^ b) * (r + 2 ^ b)) :
    isqrtBits b r n * isqrtBits b r n ≤ n ∧ n < (isqrtBits b r n + 1) * (isqrtBits b r n + 1) := by
  induction b generalizing r with
  | zero => exact ⟨hr, hn⟩
  | succ b ih =>
    have h2 : r + 2 ^ (b + 1) = r + 2 ^ b + 2 ^ b := by omega
    simp only [isqrtBits]
    split
    · next ht => exact ih _ ht (h2 ▸ hn)
    · next ht => exact ih _ hr (Nat.lt_of_not_le ht)

theorem isqrt_spec (n : Nat) : isqrt n * isqrt n ≤ n ∧ n < (isqrt n + 1) * (isqrt n + 1) := by
  refine isqrtBits_spec _ 0 n (Nat.zero_le _) ?_
  calc n < 2 ^ (Nat.log2 n + 1) := Nat.lt_log2_self
    _ ≤ 2 ^ ((Nat.log2 n / 2 + 1) + (Nat.log2 n / 2 + 1)) := Nat.pow_le_pow_right (by omega) (by omega)
    _ = _ := by rw [Nat.pow_add, Nat.zero_add]

theorem le_isqrt {m n : Nat} (h : m * m ≤ n) : m ≤ isqrt n :=
  Nat.lt_succ_iff.mp (Nat.mul_self_lt_mul_self_iff.mp (h.trans_lt (isqrt_spec n).2))

theorem isqrt_le {m n : Nat} (h : n ≤ m * m) : isqrt n ≤ m :=
  Nat.mul_self_le_mul_self_iff.mp ((isqrt_spec n).1.trans h)

/-! ### The vehicle ahead (R64 to R67) -/

theorem lanesMeet_iff {a b : Nat} : lanesMeet a b = true ↔ a = b ∨ a = 0 ∨ b = 0 := by simp [lanesMeet, or_assoc]

theorem Peer.candidate_eq_some {lane q : Nat} {p : Peer} : p.candidate lane = some q ↔
    p.isVehicle = true ∧ p.foreign = false ∧ ∃ v, p.data = some v ∧ v.ordinate = some q
      ∧ (v.lane = lane ∨ v.lane = 0 ∨ lane = 0) := by
  cases hd : p.data with
  | none => simp [Peer.candidate, hd]
  | some v => by_cases hl : lanesMeet v.lane lane = true <;> simp [Peer.candidate, hd, hl, ← lanesMeet_iff, and_assoc]

theorem Peer.aheadOf_eq_some {opt : Options} {lane o : Nat} {p : Peer} {a : Ahead} :
    p.aheadOf opt lane o = some a ↔ ∃ q, p.candidate lane = some q
      ∧ distanceAhead opt.routeLength o q ≤ opt.horizon
      ∧ a = ⟨p.station, distanceAhead opt.routeLength o q, peerGap opt (distanceAhead opt.routeLength o q),
        curveSpeed opt (peerGap opt (distanceAhead opt.routeLength o q)) 0, p.stale⟩ := by
  simp only [Peer.aheadOf]
  cases p.candidate lane with
  | none => simp
  | some q =>
    by_cases hd : opt.horizon < distanceAhead opt.routeLength o q
    · simp [hd]
    · simp [hd, Nat.le_of_not_lt hd, eq_comm]

/-- The order in which R65 prefers candidates: the smaller distance, then the lower station number. -/
def Ahead.Before (a b : Ahead) : Prop := a.distance < b.distance ∨ (a.distance = b.distance ∧ a.station ≤ b.station)

theorem nearer_before (a b : Ahead) : (nearer a b).Before a ∧ (nearer a b).Before b := by
  simp only [nearer, Ahead.Before]
  split <;> omega

theorem Ahead.Before.trans {a b c : Ahead} (h : a.Before b) (k : b.Before c) : a.Before c := by
  simp only [Ahead.Before] at *
  omega

theorem foldl_nearer (l : List Ahead) (a : Ahead) :
    l.foldl nearer a ∈ a :: l ∧ ∀ b ∈ a :: l, (l.foldl nearer a).Before b := by
  induction l generalizing a with
  | nil => simp [Ahead.Before]
  | cons x xs ih =>
    obtain ⟨hm, hb⟩ := ih (nearer a x)
    obtain ⟨ha, hx⟩ := nearer_before a x
    have hfirst := hb _ List.mem_cons_self
    simp only [List.foldl_cons]
    refine ⟨?_, fun b h => ?_⟩
    · rcases List.mem_cons.mp hm with h | h
      · rw [h, nearer]
        split <;> simp
      · exact .tail _ (.tail _ h)
    · rcases List.mem_cons.mp h with rfl | h
      · exact hfirst.trans ha
      · rcases List.mem_cons.mp h with rfl | h
        · exact hfirst.trans hx
        · exact hb b (.tail _ h)

theorem nearest_eq_some {l : List Ahead} {a : Ahead} (h : nearest l = some a) : a ∈ l ∧ ∀ b ∈ l, a.Before b := by
  cases l with
  | nil => cases h
  | cons x xs =>
    cases h
    exact foldl_nearer xs x

theorem nearest_eq_none {l : List Ahead} (h : nearest l = none) : l = [] := by
  cases l with
  | nil => rfl
  | cons x xs => cases h

theorem State.vehicleAhead_eq {s : State} {o : Nat} (h : s.ordinate = some o) :
    s.vehicleAhead = nearest (s.ptb.filterMap (Peer.aheadOf s.cfg.opt s.entry.lane o)) := by
  rw [State.vehicleAhead, h]

theorem State.vehicleAhead_speed {s : State} {a : Ahead} (h : s.vehicleAhead = some a) :
    a.speed = curveSpeed s.cfg.opt a.gap 0 := by
  cases ho : s.ordinate with
  | none => simp [State.vehicleAhead, ho] at h
  | some o =>
    rw [State.vehicleAhead_eq ho] at h
    obtain ⟨p, -, hp⟩ := List.mem_filterMap.mp (nearest_eq_some h).1
    obtain ⟨q, -, -, rfl⟩ := Peer.aheadOf_eq_some.mp hp
    rfl

end Sys2Proof.Machine

open Sys2Proof.Machine in
/-- Settles O35: the root is found bit by bit, and the reaction term lies below it. -/
theorem curveSpeedIsTheLargestThatStops : Obligations.CurveSpeedIsTheLargestThatStops := by
  unfold Obligations.CurveSpeedIsTheLargestThatStops
  refine ⟨fun a tr => ?_, isqrt_spec, fun opt d vt => ?_, fun s => ⟨fun x hx => ?_, fun a => State.vehicleAhead_speed⟩⟩
  · simp only [reactionTerm]
    omega
  · dsimp only
    generalize hk : reactionTerm opt.serviceDecel opt.reaction = k
    have hv (d' : Nat) : curveSpeed opt d' vt = isqrt (k * k + vt * vt + 2 * opt.serviceDecel * d') - k := by
      rw [← hk]
      rfl
    have hroot (d' : Nat) : k ≤ isqrt (k * k + vt * vt + 2 * opt.serviceDecel * d') := le_isqrt (by omega)
    have hsum : curveSpeed opt d vt + k = isqrt (k * k + vt * vt + 2 * opt.serviceDecel * d) := by
      rw [hv, Nat.sub_add_cancel (hroot d)]
    obtain ⟨hle, hlt⟩ := isqrt_spec (k * k + vt * vt + 2 * opt.serviceDecel * d)
    refine ⟨hsum, hsum ▸ hle, hsum ▸ hlt, ?_, fun h0 => ?_⟩
    · have : isqrt (k * k + vt * vt + 2 * opt.serviceDecel * 0) ≤ k + vt := isqrt_le (by nlinarith)
      rw [hv]
      omega
    · obtain rfl : k = 0 := by simp [← hk, reactionTerm, h0]
      simpa using hv d
  · obtain ⟨t, -, rfl⟩ := List.mem_map.mp hx
    rfl

open Sys2Proof.Machine in
/-- Settles O36: the selection is the first in the order of R65 among the candidates within the horizon. -/
theorem vehicleAheadIsTheNearest : Obligations.VehicleAheadIsTheNearest := by
  unfold Obligations.VehicleAheadIsTheNearest
  have within (s : State) (o : Nat) {p : Peer} {q : Nat} {v : VehicleData} (hp : p ∈ s.ptb) (hv : p.isVehicle = true)
      (hf : p.foreign = false) (hd : p.data = some v) (hq : v.ordinate = some q)
      (hl : v.lane = s.entry.lane ∨ v.lane = 0 ∨ s.entry.lane = 0)
      (h : distanceAhead s.cfg.opt.routeLength o q ≤ s.cfg.opt.horizon) :
      ∃ b ∈ s.ptb.filterMap (Peer.aheadOf s.cfg.opt s.entry.lane o),
        b.distance = distanceAhead s.cfg.opt.routeLength o q ∧ b.station = p.station :=
    ⟨_, List.mem_filterMap.mpr ⟨p, hp, Peer.aheadOf_eq_some.mpr
      ⟨q, Peer.candidate_eq_some.mpr ⟨hv, hf, v, hd, hq, hl⟩, h, rfl⟩⟩, rfl, rfl⟩
  refine ⟨fun s o a ho ha => ?_, fun s o ho hn p hp q v hv hf hd hq hl => ?_⟩
  · have hspeed := State.vehicleAhead_speed ha
    rw [State.vehicleAhead_eq ho] at ha
    obtain ⟨hmem, hfirst⟩ := nearest_eq_some ha
    obtain ⟨p, hp, hpa⟩ := List.mem_filterMap.mp hmem
    obtain ⟨q, hc, hwithin, rfl⟩ := Peer.aheadOf_eq_some.mp hpa
    obtain ⟨hv, hf, v, hd, hq, hl⟩ := Peer.candidate_eq_some.mp hc
    refine ⟨⟨p, hp, q, v, hv, hf, hd, hq, hl, rfl, rfl, rfl⟩, hwithin, Nat.sub_sub .., hspeed, ?_⟩
    intro p' hp' q' v' hv' hf' hd' hq' hl' d hle
    obtain ⟨b, hb, hbd, hbs⟩ := within s o hp' hv' hf' hd' hq' hl' hle
    have := hfirst b hb
    rwa [Ahead.Before, hbd, hbs] at this
  · by_contra h
    obtain ⟨b, hb, -⟩ := within s o hp hv hf hd hq hl (Nat.le_of_not_lt h)
    rw [State.vehicleAhead_eq ho] at hn
    rw [nearest_eq_none hn] at hb
    cases hb

namespace Sys2Proof

/-! ### The walk over the successors (R69, R70) -/

theorem Configuration.successorAt_succ (c : Configuration) (i k : Nat) :
    c.successorAt i (k + 1) = c.successorAt (c.successor i) k := by
  induction k with
  | zero => rfl
  | succ k ih => exact congrArg c.successor ih

theorem Configuration.startAhead_succ (c : Configuration) (i r k : Nat) : c.startAhead i r (k + 1)
    = c.startAhead (c.successor i) (r + (c.entry (c.successor i)).length) k := by
  induction k with
  | zero => rfl
  | succ k ih =>
    rw [Configuration.startAhead, ih, Configuration.startAhead, c.successorAt_succ i (k + 1)]

/-- The walk gives an ENTRY-START for each of the first `m` successors, all within the look-ahead distance and all but
the last without a hold; after the last it ends with that one's hold, or because the bound or the distance is reached. -/
structure Configuration.WalksTo (c : Configuration) (n i r m : Nat) (ts : List WalkTarget) : Prop where
  bound : m ≤ n
  starts : ∀ k, k < m → c.startAhead i r k ≤ c.opt.lookAhead ∧ ts[k]? = some
    ⟨.entryStart, c.successorAt i (k + 1), c.startAhead i r k, (c.entry (c.successorAt i (k + 1))).cap⟩
  free : ∀ k, k + 1 < m → (c.entry (c.successorAt i (k + 1))).hold = .none
  held : 0 < m → (c.entry (c.successorAt i m)).hold ≠ .none →
    ts.length = m + 1 ∧ ts[m]? = some ⟨.holdEnd, c.successorAt i m, c.startAhead i r m, 0⟩
  ended : ¬ (0 < m ∧ (c.entry (c.successorAt i m)).hold ≠ .none) →
    ts.length = m ∧ (m = n ∨ c.opt.lookAhead < c.startAhead i r m)

theorem Configuration.walksTo_nil {c : Configuration} {n i r : Nat} (h : 0 = n ∨ c.opt.lookAhead < r) :
    c.WalksTo n i r 0 [] :=
  ⟨Nat.zero_le n, by simp, by simp, by simp, fun _ => ⟨rfl, h⟩⟩

/-- The walk visits one more successor within the distance, and ends there with its hold. -/
theorem Configuration.walksTo_held {c : Configuration} {i r : Nat} (n : Nat) (hr : r ≤ c.opt.lookAhead)
    (hh : (c.entry (c.successor i)).hold ≠ .none) : c.WalksTo (n + 1) i r 1
      [⟨.entryStart, c.successor i, r, (c.entry (c.successor i)).cap⟩,
        ⟨.holdEnd, c.successor i, r + (c.entry (c.successor i)).length, 0⟩] where
  bound := by omega
  starts := fun k hk => by
    obtain rfl : k = 0 := by omega
    exact ⟨hr, rfl⟩
  free := fun k hk => by omega
  held := fun _ _ => ⟨rfl, rfl⟩
  ended := fun h => absurd ⟨Nat.one_pos, hh⟩ h

/-- The walk visits one more successor within the distance, and goes on after it. -/
theorem Configuration.WalksTo.cons {c : Configuration} {n i r m : Nat} {ts : List WalkTarget}
    (h : c.WalksTo n (c.successor i) (r + (c.entry (c.successor i)).length) m ts) (hr : r ≤ c.opt.lookAhead)
    (hh : (c.entry (c.successor i)).hold = .none) :
    c.WalksTo (n + 1) i r (m + 1) (⟨.entryStart, c.successor i, r, (c.entry (c.successor i)).cap⟩ :: ts) where
  bound := by have := h.bound; omega
  starts := fun k hk => by
    cases k with
    | zero => exact ⟨hr, rfl⟩
    | succ k =>
      rw [c.startAhead_succ, c.successorAt_succ i (k + 1)]
      exact h.starts k (by omega)
  free := fun k hk => by
    rw [c.successorAt_succ]
    cases k with
    | zero => exact hh
    | succ k => exact h.free k (by omega)
  held := fun _ hne => by
    rw [c.successorAt_succ] at hne
    rw [c.successorAt_succ, c.startAhead_succ]
    cases m with
    | zero => exact absurd hh hne
    | succ m =>
      obtain ⟨hl, hg⟩ := h.held (by omega) hne
      exact ⟨congrArg (· + 1) hl, hg⟩
  ended := fun hne => by
    rw [c.successorAt_succ] at hne
    rw [c.startAhead_succ]
    obtain ⟨hl, he⟩ := h.ended fun ⟨hm, hx⟩ => hne ⟨by omega, hx⟩
    exact ⟨congrArg (· + 1) hl, he.imp (congrArg (· + 1)) id⟩

theorem Configuration.walk_walksTo (c : Configuration) (n i r : Nat) : ∃ m, c.WalksTo n i r m (c.walk n i r) := by
  induction n generalizing i r with
  | zero => exact ⟨0, Configuration.walksTo_nil (.inl rfl)⟩
  | succ n ih =>
    simp only [Configuration.walk]
    split
    · next hr => exact ⟨0, Configuration.walksTo_nil (.inr hr)⟩
    · next hr =>
      have hr := Nat.le_of_not_lt hr
      split
      · next hh => exact ⟨1, Configuration.walksTo_held n hr hh⟩
      · next hh =>
        obtain ⟨m, h⟩ := ih (c.successor i) (r + (c.entry (c.successor i)).length)
        exact ⟨m + 1, h.cons hr (not_not.mp hh)⟩

/-- Each target is the start of a successor within the look-ahead distance, with its cap, or the end of one with a hold,
with speed 0 (R69, R70). -/
theorem Configuration.mem_walk {c : Configuration} {n i r : Nat} {t : WalkTarget} (h : t ∈ c.walk n i r) :
    (t.kind = .entryStart ∧ t.speed = (c.entry t.entry).cap ∧ t.distance ≤ c.opt.lookAhead)
      ∨ (t.kind = .holdEnd ∧ t.speed = 0 ∧ (c.entry t.entry).hold ≠ .none) := by
  induction n generalizing i r with
  | zero => cases h
  | succ n ih =>
    simp only [Configuration.walk] at h
    split at h
    · cases h
    · next hr =>
      rcases List.mem_cons.mp h with rfl | h
      · exact .inl ⟨rfl, rfl, Nat.le_of_not_lt hr⟩
      · split at h
        · next hh =>
          obtain rfl := List.mem_singleton.mp h
          exact .inr ⟨rfl, rfl, hh⟩
        · exact ih h

/-- Only the last target of a walk can be the end of a hold. -/
theorem Configuration.WalksTo.dropLast {c : Configuration} {n i r m : Nat} {ts : List WalkTarget}
    (h : c.WalksTo n i r m ts) : ts.length ≤ n + 1 ∧ ∀ t ∈ ts.dropLast, t.kind = .entryStart := by
  have hl : ts.length ≤ m + 1 := by
    by_cases hm : 0 < m ∧ (c.entry (c.successorAt i m)).hold ≠ .none
    · exact (h.held hm.1 hm.2).1.le
    · rw [(h.ended hm).1]
      omega
  refine ⟨hl.trans (Nat.succ_le_succ h.bound), fun t ht => ?_⟩
  obtain ⟨k, hk, rfl⟩ := List.mem_iff_getElem.mp ht
  rw [List.length_dropLast] at hk
  have hg := (h.starts k (by omega)).2
  rw [List.getElem?_eq_getElem (by omega)] at hg
  rw [List.getElem_dropLast, Option.some.inj hg]

end Sys2Proof

open Sys2Proof Sys2Proof.Machine in
/-- Settles O37: a pending hold is the one target, and otherwise the list is the walk with its curve speeds. -/
theorem lookAheadListIsWellFormed : Obligations.LookAheadListIsWellFormed := by
  unfold Obligations.LookAheadListIsWellFormed
  intro s
  have hcurve : ∀ x ∈ s.lookAheadList, x.curve = curveSpeed s.cfg.opt x.distance x.speed := fun x hx => by
    obtain ⟨t, -, rfl⟩ := List.mem_map.mp hx
    rfl
  by_cases hp : s.holdPending = true
  · have hlist : s.lookAheadList = [⟨.holdEnd, s.rsq.entry, s.entry.length - s.rsq.distance / 1000, 0,
        curveSpeed s.cfg.opt (s.entry.length - s.rsq.distance / 1000) 0⟩] := by
      simp only [State.lookAheadList, State.walkTargets, hp, if_true]
      rfl
    have hhold : (s.cfg.entry s.rsq.entry).hold ≠ .none := by
      simp only [State.holdPending, Bool.and_eq_true, decide_eq_true_eq] at hp
      exact hp.1
    refine ⟨by simp [hlist], by simp [hlist], by simpa [hlist] using hhold, by simp [hlist], hcurve, fun _ => hlist,
      fun hn => absurd hn (by simp [hp])⟩
  · have hlist : s.lookAheadList
        = (s.cfg.walk 8 s.rsq.entry (s.entry.length - s.rsq.distance / 1000)).map (lookAheadTarget s.cfg.opt) := by
      simp only [State.lookAheadList, State.walkTargets, hp, Bool.false_eq_true, if_false]
      rfl
    have hmem : ∀ x ∈ s.lookAheadList,
        (x.kind = .entryStart ∧ x.speed = (s.cfg.entry x.entry).cap ∧ x.distance ≤ s.cfg.opt.lookAhead)
          ∨ (x.kind = .holdEnd ∧ x.speed = 0 ∧ (s.cfg.entry x.entry).hold ≠ .none) := fun x hx => by
      rw [hlist] at hx
      obtain ⟨t, ht, rfl⟩ := List.mem_map.mp hx
      exact Configuration.mem_walk ht
    obtain ⟨m, h⟩ := s.cfg.walk_walksTo 8 s.rsq.entry (s.entry.length - s.rsq.distance / 1000)
    obtain ⟨hlen, hlast⟩ := h.dropLast
    refine ⟨by rw [hlist, List.length_map]; exact hlen, fun x hx => ?_, fun x hx hk => ?_, fun x hx hk => ?_, hcurve,
      fun hn => absurd hn hp, fun _ => ⟨m, h.bound, fun k hk => ?_, h.free, ?_⟩⟩
    · rw [hlist, ← List.map_dropLast] at hx
      obtain ⟨t, ht, rfl⟩ := List.mem_map.mp hx
      exact hlast t ht
    · rcases hmem x hx with ⟨hs, -⟩ | ⟨-, h⟩
      · rw [hs] at hk
        cases hk
      · exact h
    · rcases hmem x hx with ⟨-, h⟩ | ⟨hs, -⟩
      · exact h
      · rw [hs] at hk
        cases hk
    · obtain ⟨hd, hg⟩ := h.starts k hk
      refine ⟨hd, ?_⟩
      rw [hlist, List.getElem?_map, hg]
      rfl
    · rw [hlist, List.length_map, List.getElem?_map]
      split
      · next hm =>
        obtain ⟨hl, hg⟩ := h.held hm.1 hm.2
        exact ⟨hl, by rw [hg]; rfl⟩
      · next hm => exact h.ended hm

namespace Sys2Proof.Machine

/-! ### The curve limit (R73) -/

theorem foldl_lower (l : List (Nat × LimitSource)) (a : Nat × LimitSource) :
    l.foldl lower a ∈ a :: l ∧ ∀ x ∈ a :: l, (l.foldl lower a).1 ≤ x.1 := by
  induction l generalizing a with
  | nil => simp
  | cons b bs ih =>
    obtain ⟨hm, hle⟩ := ih (lower a b)
    have hlow : (lower a b = a ∨ lower a b = b) ∧ (lower a b).1 ≤ a.1 ∧ (lower a b).1 ≤ b.1 := by
      simp only [lower]
      split <;> simp <;> omega
    have hfirst := hle _ List.mem_cons_self
    simp only [List.foldl_cons]
    refine ⟨?_, fun x hx => ?_⟩
    · rcases List.mem_cons.mp hm with h | h
      · rw [h]
        rcases hlow.1 with e | e <;> simp [e]
      · exact .tail _ (.tail _ h)
    · rcases List.mem_cons.mp hx with rfl | hx
      · exact hfirst.trans hlow.2.1
      · rcases List.mem_cons.mp hx with rfl | hx
        · exact hfirst.trans hlow.2.2
        · exact hle x (.tail _ hx)

/-- A value that no other goes below keeps its place. -/
theorem foldl_lower_eq {l : List (Nat × LimitSource)} {a : Nat × LimitSource} (h : ∀ x ∈ l, a.1 ≤ x.1) :
    l.foldl lower a = a := by
  induction l with
  | nil => rfl
  | cons b bs ih =>
    have hb : lower a b = a := if_neg (Nat.not_lt_of_le (h b List.mem_cons_self))
    rw [List.foldl_cons, hb]
    exact ih fun x hx => h x (.tail _ hx)

/-- The lowest value is the first of those that share it (R73). -/
theorem lowest_eq {d x : Nat × LimitSource} {pre post : List (Nat × LimitSource)} (hpre : ∀ y ∈ pre, x.1 < y.1)
    (hpost : ∀ y ∈ post, x.1 ≤ y.1) : lowest d (pre ++ x :: post) = x := by
  cases pre with
  | nil => exact foldl_lower_eq hpost
  | cons a rest =>
    have hlt : x.1 < (rest.foldl lower a).1 := hpre _ (foldl_lower rest a).1
    have hx : lower (rest.foldl lower a) x = x := if_pos hlt
    simp only [lowest, List.cons_append, List.foldl_append, List.foldl_cons, hx]
    exact foldl_lower_eq hpost

/-- The value and the source that the vehicle ahead gives, where there is one. -/
def peerLimits (ahead : Option Ahead) : List (Nat × LimitSource) :=
  match ahead with
  | some a => [(a.speed, .peer)]
  | none => []

theorem mem_peerLimits {ahead : Option Ahead} {x : Nat × LimitSource} :
    x ∈ peerLimits ahead ↔ ∃ a, ahead = some a ∧ x = (a.speed, .peer) := by
  cases ahead <;> simp [peerLimits]

/-- The values and the sources that the targets give, numbered from 1. -/
def targetLimits (targets : List Target) : List (Nat × LimitSource) :=
  targets.mapIdx fun i t => (t.curve, .target (i + 1))

theorem mem_targetLimits {targets : List Target} {x : Nat × LimitSource} :
    x ∈ targetLimits targets ↔ ∃ i t, targets[i]? = some t ∧ x = (t.curve, .target (i + 1)) := by
  simp only [targetLimits, List.mem_mapIdx, List.getElem?_eq_some_iff]
  constructor
  · rintro ⟨i, hi, rfl⟩
    exact ⟨i, _, ⟨hi, rfl⟩, rfl⟩
  · rintro ⟨i, t, ⟨hi, rfl⟩, rfl⟩
    exact ⟨i, hi, rfl⟩

theorem targetLimits_append (pre post : List Target) (x : Target) : targetLimits (pre ++ x :: post)
    = targetLimits pre ++ (x.curve, .target (pre.length + 1))
      :: post.mapIdx fun i t => (t.curve, .target (i + 1 + pre.length + 1)) := by
  simp [targetLimits, List.mapIdx_append, List.mapIdx_cons]

theorem State.limits_eq (ahead : Option Ahead) (targets : List Target) (s : State) : s.limits ahead targets
    = peerLimits ahead ++ targetLimits targets ++ [(s.entry.cap, .cap), (s.cfg.opt.vmax, .vmax)] := rfl

theorem State.mem_limits {ahead : Option Ahead} {targets : List Target} {s : State} {x : Nat × LimitSource} :
    x ∈ s.limits ahead targets ↔ (∃ a, ahead = some a ∧ x = (a.speed, .peer))
      ∨ (∃ i t, targets[i]? = some t ∧ x = (t.curve, .target (i + 1)))
      ∨ x = (s.entry.cap, .cap) ∨ x = (s.cfg.opt.vmax, .vmax) := by
  simp [State.limits_eq, mem_peerLimits, mem_targetLimits]

theorem State.curveLimit_spec (ahead : Option Ahead) (targets : List Target) (s : State) :
    s.curveLimit ahead targets ∈ s.limits ahead targets
      ∧ ∀ x ∈ s.limits ahead targets, (s.curveLimit ahead targets).1 ≤ x.1 := by
  have h (l : List (Nat × LimitSource)) (d : Nat × LimitSource) (hl : l ≠ []) :
      lowest d l ∈ l ∧ ∀ x ∈ l, (lowest d l).1 ≤ x.1 := by
    cases l with
    | nil => exact absurd rfl hl
    | cons a rest => exact foldl_lower rest a
  exact h _ _ (by simp [State.limits_eq])

/-- The first of the values that share the smallest names the source. -/
theorem State.curveLimit_eq {ahead : Option Ahead} {targets : List Target} {s : State} {x : Nat × LimitSource}
    {pre post : List (Nat × LimitSource)} (hl : s.limits ahead targets = pre ++ x :: post)
    (hx : x.1 = (s.curveLimit ahead targets).1) (hpre : ∀ y ∈ pre, x.1 < y.1) : s.curveLimit ahead targets = x := by
  have hle := (s.curveLimit_spec ahead targets).2
  rw [← hx, hl] at hle
  rw [State.curveLimit, hl]
  exact lowest_eq hpre fun y hy => hle y (List.mem_append_right _ (.tail _ hy))

section
variable {ahead : Option Ahead} {targets : List Target} {s : State}

theorem State.curveLimit_peer {a : Ahead} (ha : ahead = some a) (h : a.speed = (s.curveLimit ahead targets).1) :
    (s.curveLimit ahead targets).2 = .peer := by
  subst ha
  exact congrArg Prod.snd (State.curveLimit_eq (x := (a.speed, .peer)) (pre := []) rfl h (by simp))

theorem State.curveLimit_target {n : Nat} {x : Target}
    (hp : ∀ a, ahead = some a → (s.curveLimit ahead targets).1 < a.speed) (hx : targets[n]? = some x)
    (h : x.curve = (s.curveLimit ahead targets).1)
    (hfirst : ∀ m y, m < n → targets[m]? = some y → (s.curveLimit ahead targets).1 < y.curve) :
    (s.curveLimit ahead targets).2 = .target (n + 1) := by
  obtain ⟨pre, post, rfl, rfl⟩ : ∃ pre post, targets = pre ++ x :: post ∧ pre.length = n := by
    obtain ⟨hn, rfl⟩ := List.getElem?_eq_some_iff.mp hx
    refine ⟨targets.take n, targets.drop (n + 1), ?_, List.length_take_of_le hn.le⟩
    rw [← List.drop_eq_getElem_cons hn, List.take_append_drop]
  have hl := State.limits_eq ahead (pre ++ x :: post) s
  rw [targetLimits_append, ← List.append_assoc, List.append_assoc, List.cons_append] at hl
  refine congrArg Prod.snd (State.curveLimit_eq hl h fun y hy => ?_)
  rw [h]
  rcases List.mem_append.mp hy with hy | hy
  · obtain ⟨a, ha, rfl⟩ := mem_peerLimits.mp hy
    exact hp a ha
  · obtain ⟨i, t, ht, rfl⟩ := mem_targetLimits.mp hy
    obtain ⟨hi, -⟩ := List.getElem?_eq_some_iff.mp ht
    exact hfirst i t hi (by rw [List.getElem?_append_left hi, ht])

theorem State.curveLimit_rest (hp : ∀ a, ahead = some a → (s.curveLimit ahead targets).1 < a.speed)
    (ht : ∀ x ∈ targets, (s.curveLimit ahead targets).1 < x.curve) :
    (s.curveLimit ahead targets).2 = if s.entry.cap = (s.curveLimit ahead targets).1 then .cap else .vmax := by
  obtain ⟨hmem, hle⟩ := s.curveLimit_spec ahead targets
  have hpre : ∀ y ∈ peerLimits ahead ++ targetLimits targets, (s.curveLimit ahead targets).1 < y.1 := fun y hy => by
    rcases List.mem_append.mp hy with hy | hy
    · obtain ⟨a, ha, rfl⟩ := mem_peerLimits.mp hy
      exact hp a ha
    · obtain ⟨i, t, hi, rfl⟩ := mem_targetLimits.mp hy
      exact ht t (List.mem_of_getElem? hi)
  split
  · next hc =>
    exact congrArg Prod.snd (State.curveLimit_eq (x := (s.entry.cap, .cap)) (State.limits_eq ahead targets s) hc
      fun y hy => hc ▸ hpre y hy)
  · next hc =>
    rcases State.mem_limits.mp hmem with ⟨a, ha, h⟩ | ⟨i, t, hi, h⟩ | h | h
    · exact absurd (hp a ha) (by simp [h])
    · exact absurd (ht t (List.mem_of_getElem? hi)) (by simp [h])
    · exact absurd (congrArg Prod.fst h).symm hc
    · rw [h]

end

/-! ### The computed authority (R74, R77) -/

theorem State.forced_iff (s : State) : s.forced = true ↔ s.rm.vehicle ≠ .secure ∨ s.stc.latch = 2
    ∨ s.dsc.motion = .parked ∨ s.dsc.motion = .configFault := by
  simp [State.forced, or_assoc]

theorem State.computedSau_of_lost {s : State} (h : s.rsq.known = false) :
    s.computedSau = ⟨0, .forced, none, none, []⟩ := by
  simp [State.computedSau, h]

theorem State.computedSau_of_known {s : State} (h : s.rsq.known = true) : s.computedSau =
    ⟨(s.finalAuthority (s.curveLimit s.vehicleAhead s.lookAheadList)).1,
      (s.finalAuthority (s.curveLimit s.vehicleAhead s.lookAheadList)).2,
      some (s.curveLimit s.vehicleAhead s.lookAheadList).1, s.vehicleAhead, s.lookAheadList⟩ := by
  simp only [State.computedSau, h, if_true]

theorem State.finalAuthority_le (limit : Nat × LimitSource) (s : State) : (s.finalAuthority limit).1 ≤ limit.1 := by
  simp only [State.finalAuthority]
  split
  · exact Nat.zero_le _
  · split
    · split <;> omega
    · exact Nat.le_refl _

theorem State.finalAuthority_of_forced {s : State} (h : s.forced = true) (limit : Nat × LimitSource) :
    s.finalAuthority limit = (0, .forced) := by
  simp [State.finalAuthority, h]

/-- Under latch 1 the profile value is the authority where it is the smaller (R77). -/
theorem State.finalAuthority_of_profile {s : State} (h : s.forced = false) (hl : s.stc.latch = 1)
    (limit : Nat × LimitSource) : s.finalAuthority limit =
      if s.sau.authority - profileStep s.cfg.opt.serviceDecel < limit.1 then
        (s.sau.authority - profileStep s.cfg.opt.serviceDecel, .profile)
      else limit := by
  simp [State.finalAuthority, h, hl]

theorem State.finalAuthority_of_free {s : State} (h : s.forced = false) (hl : s.stc.latch = 0)
    (limit : Nat × LimitSource) : s.finalAuthority limit = limit := by
  simp [State.finalAuthority, h, hl]

end Sys2Proof.Machine

open Sys2Proof.Machine in
/-- Settles O38: the curve limit is the first smallest of its values, and the forcing conditions and the profile act on
it. -/
theorem authorityKeepsEveryLimit : Obligations.AuthorityKeepsEveryLimit := by
  unfold Obligations.AuthorityKeepsEveryLimit
  refine fun s => ⟨State.computedSau_of_lost, fun hk => ?_⟩
  obtain ⟨hmem, hle⟩ := s.curveLimit_spec s.vehicleAhead s.lookAheadList
  rw [State.computedSau_of_known hk]
  refine ⟨rfl, rfl, _, rfl, hle _ (State.mem_limits.mpr (.inr (.inr (.inl rfl)))),
    hle _ (State.mem_limits.mpr (.inr (.inr (.inr rfl)))), fun a ha => hle _ (State.mem_limits.mpr (.inl ⟨a, ha, rfl⟩)),
    fun x hx => ?_, ?_, s.finalAuthority_le _, fun hf => ?_, fun hv hl hp hc => ?_⟩
  · obtain ⟨i, hi⟩ := List.mem_iff_getElem?.mp hx
    exact hle _ (State.mem_limits.mpr (.inr (.inl ⟨i, x, hi, rfl⟩)))
  · rcases State.mem_limits.mp hmem with ⟨a, ha, h⟩ | ⟨i, t, hi, h⟩ | h | h
    · exact .inr (.inr (.inl ⟨a, ha, congrArg Prod.fst h⟩))
    · exact .inr (.inr (.inr ⟨t, List.mem_of_getElem? hi, congrArg Prod.fst h⟩))
    · exact .inl (congrArg Prod.fst h)
    · exact .inr (.inl (congrArg Prod.fst h))
  · rw [State.finalAuthority_of_forced (s.forced_iff.mpr hf)]
    exact ⟨rfl, rfl⟩
  · have hf : s.forced = false := by
      rw [← Bool.not_eq_true, s.forced_iff]
      simp [hv, hl, hp, hc]
    refine ⟨fun h1 => ?_, fun h0 => ?_, fun hfree => ?_⟩
    · rw [State.finalAuthority_of_profile hf h1]
      by_cases hlt : s.sau.authority - profileStep s.cfg.opt.serviceDecel
          < (s.curveLimit s.vehicleAhead s.lookAheadList).1
      · rw [if_pos hlt]
        exact ⟨(Nat.min_eq_left hlt.le).symm, fun _ => rfl⟩
      · rw [if_neg hlt]
        exact ⟨(Nat.min_eq_right (Nat.le_of_not_lt hlt)).symm, fun h => absurd h hlt⟩
    · rw [State.finalAuthority_of_free hf h0]
    · have hlimit : s.finalAuthority (s.curveLimit s.vehicleAhead s.lookAheadList)
          = s.curveLimit s.vehicleAhead s.lookAheadList := by
        rcases hfree with h0 | ⟨h1, hge⟩
        · exact State.finalAuthority_of_free hf h0 _
        · rw [State.finalAuthority_of_profile hf h1]
          exact if_neg (Nat.not_lt_of_le hge)
      rw [hlimit]
      exact ⟨fun a => State.curveLimit_peer, fun hp => ⟨fun n x => State.curveLimit_target hp, State.curveLimit_rest hp⟩⟩

namespace Sys2Proof.Machine

/-! ### The sound at a rise of the latch (R178) -/

theorem Voice.Stopped.of_show {v v' w w' : Voice} (h : Voice.Stopped v w) (hv : v.show = v'.show)
    (hw : w'.show = w.show) : Voice.Stopped v' w' := by
  obtain ⟨v1, v2, -, v4, v5, -⟩ := Voice.fields_of_show hv
  obtain ⟨w1, w2, w3, w4, w5, -⟩ := Voice.fields_of_show hw
  rw [Voice.Stopped, ← v1, ← v2, ← v4, ← v5, w1, w2, w3, w4, w5]
  exact h

/-- Voices 1 to 3 are stopped (R178, step 1). -/
def Spe.quieted (cfg : Configuration) (e : Spe) : Spe := ((e.stopVoice cfg 1).stopVoice cfg 2).stopVoice cfg 3

theorem Spe.rideStop_eq (cfg : Configuration) (reading : Nat) (e : Spe) : e.rideStop cfg reading =
    if cfg.opt.stopClip = 0 then e.quieted cfg
    else (e.quieted cfg).play cfg reading 0 (stopRequest cfg.opt.stopClip) := rfl

theorem Spe.show_quieted_zero (cfg : Configuration) (e : Spe) : (e.quieted cfg).v0.show = e.v0.show := by
  have h (u : Spe) {i : Nat} (hi : i < 4) (h0 : 0 ≠ i) : ((u.stopVoice cfg i).voice 0).show = (u.voice 0).show :=
    Spe.show_stopVoice_other cfg u hi (by decide) h0
  exact ((h _ (by decide) (by decide)).trans (h _ (by decide) (by decide))).trans (h e (by decide) (by decide))

theorem Spe.quieted_stopped (cfg : Configuration) (e : Spe) {i : Nat} (h1 : 1 ≤ i) (h3 : i ≤ 3) :
    Voice.Stopped (e.voice i) ((e.quieted cfg).voice i) := by
  have other (u : Spe) {j k : Nat} (hj : j < 4) (hk : k < 4) (h : k ≠ j) :
      ((u.stopVoice cfg j).voice k).show = (u.voice k).show := Spe.show_stopVoice_other cfg u hj hk h
  match i, h1, h3 with
  | 1, _, _ =>
    exact (Spe.stopVoice_stopped cfg e (by decide)).of_show rfl
      ((other _ (by decide) (by decide) (by decide)).trans (other _ (by decide) (by decide) (by decide)))
  | 2, _, _ =>
    exact (Spe.stopVoice_stopped cfg (e.stopVoice cfg 1) (by decide)).of_show
      (other _ (by decide) (by decide) (by decide)) (other _ (by decide) (by decide) (by decide))
  | 3, _, _ =>
    exact (Spe.stopVoice_stopped cfg ((e.stopVoice cfg 1).stopVoice cfg 2) (by decide)).of_show
      ((other _ (by decide) (by decide) (by decide)).trans (other _ (by decide) (by decide) (by decide))) rfl

/-- A request at a busy voice 0 always joins its queue, in place of the last of a full one (R163). -/
theorem Spe.play_busy_zero (cfg : Configuration) (reading : Nat) (e : Spe) (r : PlayRequest) (h : e.v0.state ≠ .idle) :
    e.play cfg reading 0 r = e.setVoice 0 { e.v0 with
      queue := (if e.v0.queue.length < 4 then e.v0.queue else e.v0.queue.dropLast) ++ [r] } := by
  have he : e.voice 0 = e.v0 := rfl
  simp only [Spe.play, he, h, if_false, if_true]
  split <;> rfl

theorem Spe.show_play_zero_other (cfg : Configuration) (reading : Nat) (e : Spe) {i : Nat} (hi : i < 4) (h0 : i ≠ 0)
    {r : PlayRequest} (hr : r.start = none) : ((e.play cfg reading 0 r).voice i).show = (e.voice i).show := by
  by_cases hs : e.v0.state = .idle
  · rw [Spe.show_play_idle cfg reading e (i := 0) (by decide) hi hr hs, if_neg h0]
  · rw [Spe.play_busy_zero cfg reading e r hs, Spe.voice_setVoice _ (by decide) hi, if_neg h0]

/-- A request handed to voice 0 is played at once by an IDLE one, and joins the queue of a busy one (R163, R164). -/
def Voice.HandedZero (r : PlayRequest) (v w : Voice) : Prop :=
  (v.state = .idle → w.state = .playing ∧ w.current = some r ∧ w.position = 0 ∧ w.queue = v.queue)
    ∧ (v.state ≠ .idle → w.state = v.state ∧ w.current = v.current ∧ w.position = v.position ∧ w.fade = v.fade
      ∧ w.queue = (if v.queue.length < 4 then v.queue else v.queue.dropLast) ++ [r])

theorem Spe.play_handedZero (cfg : Configuration) (reading : Nat) (e : Spe) {r : PlayRequest} (hr : r.start = none) :
    Voice.HandedZero r e.v0 (e.play cfg reading 0 r).v0 := by
  refine ⟨fun hs => ?_, fun hs => ?_⟩
  · have h := Spe.show_play_idle cfg reading e (i := 0) (j := 0) (by decide) (by decide) hr hs
    rw [if_pos rfl] at h
    obtain ⟨hst, hcu, hqu, hpo, -⟩ := Voice.fields_of_show (v := { (e.voice 0).goIdle with
      state := .playing, current := some r, queue := (e.voice 0).queue, position := 0, loops := r.loops
      fade := some ⟨false, 0, 0⟩, refill := .none }) h
    exact ⟨hst, hcu, hpo, hqu⟩
  · rw [Spe.play_busy_zero cfg reading e r hs]
    exact ⟨rfl, rfl, rfl, rfl, rfl⟩

theorem Voice.HandedZero.of_show {r : PlayRequest} {v v' w : Voice} (h : Voice.HandedZero r v w)
    (hv : v.show = v'.show) : Voice.HandedZero r v' w := by
  obtain ⟨v1, v2, v3, v4, v5, -⟩ := Voice.fields_of_show hv
  rw [Voice.HandedZero, ← v1, ← v2, ← v3, ← v4, ← v5]
  exact h

/-- The SPE at a rise of the latch: voices 1 to 3 are stopped, and voice 0 is handed the stop clip where there is one. -/
structure Spe.StoppedFor (cfg : Configuration) (e f : Spe) : Prop where
  stopped : ∀ i, 1 ≤ i → i ≤ 3 → Voice.Stopped (e.voice i) (f.voice i)
  left : cfg.opt.stopClip = 0 → e.v0.Kept f.v0
  handed : cfg.opt.stopClip ≠ 0 → Voice.HandedZero (stopRequest cfg.opt.stopClip) e.v0 f.v0

theorem Spe.rideStop_stoppedFor (cfg : Configuration) (reading : Nat) (e : Spe) :
    e.StoppedFor cfg (e.rideStop cfg reading) := by
  rw [Spe.rideStop_eq]
  split
  · next h0 =>
    exact ⟨fun i h1 h3 => e.quieted_stopped cfg h1 h3, fun _ => Voice.kept_of_show (e.show_quieted_zero cfg),
      fun h => absurd h0 h⟩
  · next h0 =>
    refine ⟨fun i h1 h3 => ?_, fun h => absurd h h0, fun _ => ?_⟩
    · exact (e.quieted_stopped cfg h1 h3).of_show rfl
        (Spe.show_play_zero_other cfg reading _ (by omega) (by omega) rfl)
    · exact (Spe.play_handedZero cfg reading (e.quieted cfg) rfl).of_show (e.show_quieted_zero cfg)

/-! ### What a rise of the latch leaves (R184) -/

/-- The DSC at a rise to latch 2: every vehicle that is not LOST is BRAKED (R89). -/
theorem State.driveRise_two {s : State} (ha : s.active = true) : (s.driveRise 2).dsc.motion =
    if s.dsc.motion = .lost then .lost else .braked := by
  obtain ⟨-, -, hp, hc⟩ := s.active_iff.mp ha
  cases hm : s.dsc.motion <;> simp_all [State.driveRise]

/-- The DSC at a rise to latch 1: RUNNING, and HELD in motion, go to STOPPING, and HELD at rest stays (R88). -/
theorem State.driveRise_one {s : State} (hl : s.stc.latch = 1) : (s.driveRise 1).dsc.motion =
    if s.dsc.motion = .running ∨ s.dsc.motion = .held ∧ s.dsc.speed ≠ 0 then .stopping else s.dsc.motion := by
  cases hm : s.dsc.motion <;> simp [State.driveRise, hm]
  split <;> simp_all [State.enterHeld_motion]

/-- The brake line follows the motion state. -/
def Dsc.BrakeFollows (d : Dsc) : Prop := d.brakeReleased = true ↔ d.motion = .running ∨ d.motion = .stopping

theorem Dsc.enter_brakeFollows (m : Motion) (d : Dsc) : (d.enter m).BrakeFollows := by
  simp only [Dsc.BrakeFollows, Dsc.enter]
  split <;> simp_all

theorem State.setMotion_brakeFollows (m : Motion) (s : State) : (s.setMotion m).dsc.BrakeFollows := by
  rw [State.setMotion_dsc]
  exact s.dsc.enter_brakeFollows m

theorem State.enterHeld_brakeFollows (s : State) : s.enterHeld.dsc.BrakeFollows := by
  simp only [State.enterHeld]
  split
  · exact State.setMotion_brakeFollows ..
  · have hd : (s.setMotion .held).startDwell.dsc = (s.setMotion .held).dsc := by simp
    rw [hd]
    exact State.setMotion_brakeFollows ..

theorem State.driveRise_brakeFollows {s : State} (h : s.dsc.BrakeFollows) (level : Nat) :
    (s.driveRise level).dsc.BrakeFollows := by
  simp only [State.driveRise]
  split
  case h_1 =>
    split
    · exact State.setMotion_brakeFollows ..
    · split
      · exact State.enterHeld_brakeFollows _
      · exact State.setMotion_brakeFollows ..
  case h_2 => split <;> exact State.setMotion_brakeFollows ..
  case h_3 =>
    split
    · exact State.setMotion_brakeFollows ..
    · exact h
  all_goals exact h

end Sys2Proof.Machine

namespace Sys2Proof.Machine

/-! ### The reactions to a rise of the latch (R184) -/

theorem State.setMotion_seats (m : Motion) (s : State) : (s.setMotion m).rm.seats = s.rm.seats := by
  simp [State.setMotion, State.evalRelease]

/-- What a rise of the latch to `level` leaves of the authority, the drive, the restraints and the sound. -/
structure State.ReactsTo (level : Nat) (s t : State) : Prop where
  forced : level = 2 → t.sau.authority = 0 ∧ t.dsc.command = 0 ∧ t.sau.source = .forced
  profile : level = 1 → t.sau.authority = min s.sau.authority s.dsc.command
  braked : level = 2 → t.dsc.motion = if s.dsc.motion = .lost then .lost else .braked
  stopping : level = 1 → t.dsc.motion =
    if s.dsc.motion = .running ∨ s.dsc.motion = .held ∧ s.dsc.speed ≠ 0 then .stopping else s.dsc.motion
  brake : t.dsc.BrakeFollows
  vehicle : t.rm.vehicle = s.rm.vehicle
  seats : t.rm.seats = s.rm.seats
  sound : s.spe.StoppedFor s.cfg t.spe

theorem State.ReactsTo.congr {level : Nat} {s s' t t' : State} (h : s.ReactsTo level t)
    (before : s'.sau = s.sau ∧ s'.dsc = s.dsc ∧ s'.rm = s.rm ∧ s'.spe = s.spe ∧ s'.cfg = s.cfg)
    (after : t'.sau = t.sau ∧ t'.dsc = t.dsc ∧ t'.rm = t.rm ∧ t'.spe = t.spe) : s'.ReactsTo level t' := by
  obtain ⟨hsau, hdsc, hrm, hspe, hcfg⟩ := before
  obtain ⟨ksau, kdsc, krm, kspe⟩ := after
  obtain ⟨forced, profile, braked, stopping, brake, vehicle, seats, sound⟩ := h
  constructor <;> simp only [hsau, hdsc, hrm, hspe, hcfg, ksau, kdsc, krm, kspe] <;> assumption

theorem State.authorityRise_one (s : State) :
    (s.authorityRise 0 1).sau.authority = min s.sau.authority s.dsc.command := by
  simp only [State.authorityRise]
  split
  · omega
  · split
    · next h => simp [State.handAuthority]; omega
    · next h => simp at h; omega

theorem State.authorityRise_drive (was level : Nat) (s : State) :
    (s.authorityRise was level).dsc.motion = s.dsc.motion
      ∧ (s.authorityRise was level).dsc.speed = s.dsc.speed
      ∧ (s.authorityRise was level).dsc.brakeReleased = s.dsc.brakeReleased := by
  simp only [State.authorityRise]
  (repeat' split) <;> simp [State.forceAuthority, State.handAuthority]

theorem State.active_of_ride {s t : State} (h : s.active = true) (hp : t.powered = s.powered) (hc : t.cfs = s.cfs)
    (hm : t.dsc.motion = s.dsc.motion) : t.active = true := by
  rw [State.active_iff, hp, hc, hm]
  exact State.active_iff _ |>.mp h

theorem State.notifyRise_sound (was level : Nat) (s : State) : s.spe.StoppedFor s.cfg (s.notifyRise was level).spe := by
  have hspe : (s.notifyRise was level).spe
      = s.spe.rideStop s.cfg (((s.authorityRise was level).driveRise level).abandonChain .abandoned).showTime := by
    simp [State.notifyRise]
  rw [hspe]
  exact Spe.rideStop_stoppedFor ..

theorem State.notifyRise_reactsTo {s : State} {was level : Nat} (ha : s.active = true) (hb : s.dsc.BrakeFollows)
    (hw : was < level) (hl : s.stc.latch = level) : s.ReactsTo level (s.notifyRise was level) := by
  generalize hu : s.authorityRise was level = u
  obtain ⟨hm, hv, hr⟩ := s.authorityRise_drive was level
  have hua : u.active = true := by
    subst hu
    exact State.active_of_ride ha (by simp) (by simp) hm
  have hdsc : (s.notifyRise was level).dsc = (u.driveRise level).dsc := by simp [State.notifyRise, hu]
  have hsau : (s.notifyRise was level).sau = u.sau := by simp [State.notifyRise, hu]
  have hub : u.dsc.BrakeFollows := by
    rw [← hu, Dsc.BrakeFollows, hm, hr]
    exact hb
  have hrm (Q : Rm → Prop) (hQ : ∀ (m : Motion) (v : State), Q v.rm → Q (v.setMotion m).rm) (h : Q s.rm) :
      Q (s.notifyRise was level).rm := by
    have hd : Q (u.driveRise level).rm :=
      State.driveRise_keeps (Q := fun _ m => Q m) hQ level (by subst hu; simpa using h)
    simpa [State.notifyRise, hu] using hd
  refine ⟨?_, ?_, ?_, ?_, ?_, hrm (·.vehicle = s.rm.vehicle) (fun m v h => (v.setMotion_rm m).1.trans h) rfl,
    hrm (·.seats = s.rm.seats) (fun m v h => (v.setMotion_seats m).trans h) rfl, s.notifyRise_sound was level⟩
  · rintro rfl
    refine ⟨(State.notifyRise_zero was s).1, (State.notifyRise_zero was s).2, ?_⟩
    rw [hsau, ← hu]
    rfl
  · rintro rfl
    obtain rfl : was = 0 := by omega
    rw [hsau, ← hu, State.authorityRise_one]
  · rintro rfl
    rw [hdsc, State.driveRise_two hua, ← hu, hm]
  · rintro rfl
    have hul : u.stc.latch = 1 := by subst hu; simpa using hl
    rw [hdsc, State.driveRise_one hul, ← hu, hm, hv]
  · rw [hdsc]
    exact State.driveRise_brakeFollows hub level

/-- The latch at a level, with the first cause of a rise from 0 (R183). -/
def State.lifted (level : Nat) (cause : StopCause) (origin : Nat) (s : State) : State :=
  s.setStc { s.stc with
    latch := level
    first := if s.stc.latch = 0 then some ⟨cause, origin⟩ else s.stc.first }

theorem State.raiseLatch_eq (level : Nat) (cause : StopCause) (origin : Nat) (s : State) :
    s.raiseLatch level cause origin =
      if s.stc.latch < level then (s.lifted level cause origin).notifyRise s.stc.latch level else s := rfl

/-- A received level above the latch is recorded, and the latch rises to it (R183, R189). -/
theorem State.frameLevel_eq (level : Nat) (cause : StopCause) (origin : Nat) (s : State) :
    s.frameLevel level cause origin =
      if s.stc.latch < level then
        ((s.writeIncident cause level origin).lifted level cause origin).notifyRise s.stc.latch level
      else s := by
  have hl : (s.writeIncident cause level origin).stc.latch = s.stc.latch := rfl
  simp only [State.frameLevel, State.raiseLatch_eq, hl]
  split <;> rfl

theorem State.frameLevel_tracker (level : Nat) (cause : StopCause) (origin : Nat) (s : State) :
    (s.frameLevel level cause origin).scu.tracker = s.scu.tracker := by
  have notify (was : Nat) (u : State) : (u.notifyRise was level).scu.tracker = u.scu.tracker :=
    (State.abandonChain_scu _).1.trans (by simp)
  rw [State.frameLevel_eq]
  split
  · exact notify ..
  · rfl

theorem State.frameLevel_reactsTo {s : State} {level : Nat} (ha : s.active = true) (hb : s.dsc.BrakeFollows)
    (h : s.stc.latch < level) (cause : StopCause) (origin : Nat) :
    s.ReactsTo level (s.frameLevel level cause origin) := by
  have hr := State.notifyRise_reactsTo (s := (s.writeIncident cause level origin).lifted level cause origin) ha hb h rfl
  rw [State.frameLevel_eq, if_pos h]
  exact hr.congr ⟨rfl, rfl, rfl, rfl, rfl⟩ ⟨rfl, rfl, rfl, rfl⟩

end Sys2Proof.Machine

namespace Sys2Proof.Machine

/-! ### A STOP above the latch (R183, R184) -/

/-- What a STOP above the latch leaves beside the peer table: the raised latch with its record, and the reactions. -/
structure State.StoppedByFrame (dt src level code : Nat) (s t : State) : Prop where
  raised : (s.elapse dt).RaisedTo level (.code code) src t
  nextSeq : t.stc.nextSeq = (s.stc.nextSeq + 1) % 65536
  reacts : s.ReactsTo level t
  tracker : t.scu.tracker = s.scu.tracker
  place : t.rsq.known = s.rsq.known ∧ t.rsq.entry = s.rsq.entry ∧ t.rsq.distance = s.rsq.distance
  rest : t.sck = s.sck ∧ t.cfg = s.cfg ∧ t.cfs = s.cfs ∧ t.now = s.now + dt

/-- The latch rises in the same way whatever the peer table holds. -/
theorem State.frameLevel_stoppedByFrame {s : State} {level : Nat} (ha : s.active = true) (hd : s.DriveSafe)
    (hlevel : s.stc.latch < level) (dt src code : Nat) (table : List Peer) :
    s.StoppedByFrame dt src level code
      (((s.heardLast dt).setPtb table).frameLevel level (.code code) src) := by
  obtain ⟨hbrake, -, -⟩ := hd
  generalize hu : (s.heardLast dt).setPtb table = u
  have hlu : u.stc.latch < level := by subst hu; exact hlevel
  obtain ⟨h1, h2, h3, h4, h5, h6, h7⟩ := State.frameLevel_raisedTo hlu (.code code) src
  obtain ⟨r1, r2, r3, r4, r5, r6, r7, r8⟩ := State.frameLevel_reactsTo (s := u) (by subst hu; exact ha)
    (by subst hu; exact hbrake) hlu (.code code) src
  have hseq := State.frameLevel_nextSeq hlu (.code code) src
  have htracker := u.frameLevel_tracker level (.code code) src
  have hrides := u.frameLevel_rides level (.code code) src
  have hplace := And.intro hrides.known (And.intro hrides.entryIndex hrides.distance)
  obtain ⟨-, hnow, -, hcfg, hcfs, -, hsck, -⟩ := u.frameLevel_frame level (.code code) src
  subst hu
  exact ⟨⟨h1, h2, h3, h4, h5, h6, h7⟩, hseq, ⟨r1, r2, r3, r4, r5, r6, r7, r8⟩, htracker, hplace, hsck, hcfg, hcfs, hnow⟩

theorem State.StoppedByFrame.afterSlots {dt src level code : Nat} {s t : State}
    (h : s.StoppedByFrame dt src level code t) : t.afterSlots s.scu = t := by
  obtain ⟨h1, h2⟩ := h.raised.slots
  exact State.afterSlots_of_same _ _ (congrArg Slot.state h1).symm (congrArg Slot.state h2).symm

/-- The latch rises at a STOP before or after the hearing of its sender, with the same outcome (R33). -/
theorem State.Receives.stoppedByFrame {s : State} {h : Header} {level code : Nat}
    (hr : s.Receives ⟨h.src, h.sig, .stop level code⟩) (hd : s.DriveSafe) (hlevel : s.stc.latch < level) (dt : Nat) :
    s.StoppedByFrame dt h.src level code ((s.elapse dt).receive ⟨h.src, h.sig, .stop level code⟩)
      ∧ ((s.elapse dt).receive ⟨h.src, h.sig, .stop level code⟩).ptb
        = refreshed h.src ((s.now + dt) / 1000) s.ptb := by
  have stops := State.frameLevel_stoppedByFrame hr.1 hd hlevel dt h.src code
  refine State.receive_beside (P := fun t => s.StoppedByFrame dt h.src level code t ∧ t.ptb = _)
    (State.frameLevel level (.code code) h.src) hr (if_pos hlevel) ?first ?last
  case first =>
    have hfirst := stops (refreshed h.src ((s.now + dt) / 1000) s.ptb)
    obtain ⟨-, -, -, -, -, hptb, -⟩ := State.frameLevel_frame level (.code code) h.src (s.heardFirst dt h.src)
    exact ⟨hfirst.afterSlots.symm ▸ hfirst, (congrArg State.ptb hfirst.afterSlots).trans hptb⟩
  case last =>
    have hlast := stops s.ptb
    obtain ⟨-, hnow, -, -, -, hptb, -⟩ := State.frameLevel_frame level (.code code) h.src (s.heardLast dt)
    have hact : ((s.heardLast dt).frameLevel level (.code code) h.src).active = true :=
      (State.frameLevel_rides ..).active hr.1
    have hhear := hr.hear_last hact hptb
    have hms : ((s.heardLast dt).frameLevel level (.code code) h.src).ms = (s.now + dt) / 1000 :=
      congrArg (· / 1000) hnow
    rw [hms] at hhear
    rw [hhear]
    obtain ⟨⟨h1, h2, h3, h4, h5, h6, h7⟩, hseq, ⟨r1, r2, r3, r4, r5, r6, r7, r8⟩, htracker, hplace, hrest⟩ := hlast
    have hall : s.StoppedByFrame dt h.src level code { (s.heardLast dt).frameLevel level (.code code) h.src with
        ptb := refreshed h.src ((s.now + dt) / 1000) s.ptb } :=
      ⟨⟨h1, h2, h3, h4, h5, h6, h7⟩, hseq, ⟨r1, r2, r3, r4, r5, r6, r7, r8⟩, htracker, hplace, hrest⟩
    exact ⟨hall.afterSlots.symm ▸ hall, congrArg State.ptb hall.afterSlots⟩

end Sys2Proof.Machine

open Sys2Proof.Machine in
/-- Settles O16: the latch rises beside the hearing, in either order, and each block reacts to the rise. -/
theorem stopFrameRaisesTheLatch : Obligations.StopFrameRaisesTheLatch := by
  unfold Obligations.StopFrameRaisesTheLatch
  intro dt h level code s hr hd hlevel
  obtain ⟨⟨⟨hlatch, hcauses, hfirst, hincidents, -, hchain, h1, h2⟩, hseq, hreacts, htracker, ⟨hknown, hentry, hdistance⟩,
    hsck, hcfg, hcfs, hnow⟩, hptb⟩ := hr.stoppedByFrame hd hlevel dt
  refine ⟨_, rfl, ?_⟩
  generalize (s.elapse dt).receive ⟨h.src, h.sig, .stop level code⟩ = t at *
  obtain ⟨hforced, hprofile, hbraked, hstopping, hbrake, hvehicle, hseats, hstopped, hleft, hhanded⟩ := hreacts
  have closed (hm : t.dsc.motion = .braked ∨ t.dsc.motion = .held) : t.dsc.brakeReleased = false :=
    Bool.eq_false_iff.mpr fun hb => by rcases hbrake.mp hb with h | h <;> simp [h] at hm
  have opened (hm : t.dsc.motion = .stopping) : t.dsc.motion = .stopping ∧ t.dsc.brakeReleased = true :=
    ⟨hm, hbrake.mpr (.inr hm)⟩
  refine ⟨hlatch, hcauses, hfirst, hincidents, hseq, fun h2 => ?two, hprofile,
    fun h1 hm => opened ((hstopping h1).trans (if_pos (.inl hm))), fun h1 hm hv => ?rest,
    fun h1 hm hv => opened ((hstopping h1).trans (if_pos (.inr ⟨hm, hv⟩))), hchain, h1, h2, htracker, hptb,
    hknown, hentry, hdistance, hvehicle, hseats, hstopped, fun h0 => ?kept, hhanded, hsck, hcfg, hcfs, hnow⟩
  case two =>
    obtain ⟨ha, hc, hsrc⟩ := hforced h2
    have braked (hm : s.dsc.motion ≠ .lost) : t.dsc.motion = .braked := (hbraked h2).trans (if_neg hm)
    exact ⟨ha, hsrc, hc, fun hm => (hbraked h2).trans (if_pos hm), braked, fun hm => closed (.inl (braked hm))⟩
  case rest =>
    have hheld : t.dsc.motion = .held := by rw [hstopping h1, hm, hv]; rfl
    exact ⟨hheld, closed (.inr hheld)⟩
  case kept =>
    obtain ⟨hst, hcu, hqu, -, -⟩ := hleft h0
    exact ⟨hst, hcu, hqu⟩

namespace Sys2Proof.Machine

/-! ### The reactions to a raised cause (R182, R184) -/

/-- The state in which the latch rises for a raised cause: the STOP and the POS are requested (R182). -/
def State.stopRequested (c : Cause) (s : State) : State :=
  ((s.joined c).putFrame (.stop c.level c.code)).1.requestPos true

/-- Whatever level a cause has, it leaves the sound as it is or stops it as at a rise (R178). -/
theorem State.raise_sound (c : Cause) (s : State) :
    (s.raise c).spe = s.spe ∨ s.spe.StoppedFor s.cfg (s.raise c).spe := by
  have latch (u : State) (level origin : Nat) (cause : StopCause) :
      (u.raiseLatch level cause origin).spe = u.spe
        ∨ u.spe.StoppedFor u.cfg (u.raiseLatch level cause origin).spe := by
    rw [State.raiseLatch_eq]
    split
    · exact .inr (State.notifyRise_sound u.stc.latch level (u.lifted level cause origin))
    · exact .inl rfl
  rw [State.raise_eq]
  split
  · split
    · have h := latch (s.stopRequested c) c.level s.cfg.opt.station (.local_ c)
      simpa [State.levelRises, State.stopRequested, State.joined] using h
    · exact .inl rfl
  · exact .inl rfl

/-- A raised cause that lifts both the asserted level and the latch has every block react (R182, R184). -/
theorem State.raise_reactsTo {s : State} {c : Cause} (ha : s.active = true) (hb : s.dsc.BrakeFollows)
    (hc : c ∉ s.stc.causes) (hlevel : s.stc.asserted < c.level) (hlatch : s.stc.latch < c.level) :
    s.ReactsTo c.level (s.raise c) := by
  generalize hv : (s.stopRequested c).lifted c.level (.local_ c) s.cfg.opt.station = v
  have hl : (s.stopRequested c).stc.latch = s.stc.latch := by
    simp [State.stopRequested, State.joined, State.writeIncident, Stc.append]
  have hlv : v.stc.latch = c.level := by subst hv; rfl
  have hsame : v.powered = s.powered ∧ v.cfs = s.cfs ∧ v.sau = s.sau ∧ v.dsc = s.dsc ∧ v.rm = s.rm ∧ v.spe = s.spe
      ∧ v.cfg = s.cfg := by
    subst hv
    simp [State.lifted, State.stopRequested, State.joined]
  have hraise : s.raise c = (v.notifyRise s.stc.latch c.level).reportDropped
      ((s.joined c).putFrame (.stop c.level c.code)).2 := by
    have hrise : (s.stopRequested c).raiseLatch c.level (.local_ c) s.cfg.opt.station
        = v.notifyRise s.stc.latch c.level := by
      rw [State.raiseLatch_eq, hl, if_pos hlatch, hv]
    rw [State.raise_eq, if_pos ⟨ha, hc⟩, if_pos hlevel]
    exact congrArg (State.reportDropped _) hrise
  obtain ⟨hpow, hcfs, hsau, hdsc, hrm, hspe, hcfg⟩ := hsame
  have hr : v.ReactsTo c.level (v.notifyRise s.stc.latch c.level) :=
    State.notifyRise_reactsTo (State.active_of_ride ha hpow hcfs (congrArg Dsc.motion hdsc)) (hdsc.symm ▸ hb) hlatch hlv
  rw [hraise]
  exact hr.congr ⟨hsau.symm, hdsc.symm, hrm.symm, hspe.symm, hcfg.symm⟩ (by simp)

end Sys2Proof.Machine

namespace Sys2Proof.Machine

/-! ### A seat loss while the restraints are watched (R109, R113, R114) -/

/-- The same state with other seats. -/
def State.withSeats (q : List Seat) (s : State) : State := s.setRm { s.rm with seats := q }

theorem State.setSeat_eq (i : Nat) (k : Seat) (s : State) : s.setSeat i k = s.withSeats (s.rm.seats.set i k) := rfl

/-- In SECURE and in ALARM the vehicle reacts to the loss of a seat. -/
def Rm.Watches (m : Rm) : Prop := m.vehicle = .secure ∨ m.vehicle = .alarm

theorem State.seat_lt {s : State} {i : Nat} (h : (s.seat i).state ≠ .notFitted) : i < s.rm.seats.length := by
  by_contra hi
  rw [State.seat, List.getD_eq_default _ _ (by omega)] at h
  exact h rfl

theorem State.seat_of_getElem? {s : State} {i : Nat} {k : Seat} (h : s.rm.seats[i]? = some k) : s.seat i = k := by
  simp [State.seat, List.getD, h]

/-- While a fitted seat is not LOCKED the vehicle stays as it is. -/
theorem State.seatTest_of_unlocked {s : State} (hv : s.rm.Watches) {k : Seat} (hk : k ∈ s.rm.seats)
    (hfit : k.state ≠ .notFitted) (hopen : k.state ≠ .locked) : s.seatTest = s := by
  have hall : s.rm.allLocked = false := by
    simp only [Rm.allLocked, List.all_eq_false]
    exact ⟨k, hk, by simp [Seat.fitted, hfit, hopen]⟩
  rcases hv with hv | hv <;> simp [State.seatTest, hv, hall]

theorem State.setVehicle_rm (x : Restraint) (s : State) :
    (s.setVehicle x).rm.vehicle = x ∧ (s.setVehicle x).rm.seats = s.rm.seats := by
  simp only [State.setVehicle]
  split
  · next h => exact ⟨h, rfl⟩
  · split <;> simp [State.evalRelease, State.forceAuthority, State.handAuthority]

/-- ALARM is entered with the raising and the announcement in either order (R113, R116, R179). -/
theorem State.enterAlarm_of {P : State → Prop} {s : State}
    (first : P (((s.setVehicle .alarm).settled.raise .restraint).play 0 (announcement s.cfg.opt.restraintClip)))
    (last : P (((s.setVehicle .alarm).settled.play 0 (announcement s.cfg.opt.restraintClip)).raise .restraint)) :
    P s.enterAlarm := by
  refine State.inEitherOrder_of (P := P) _ _ (s.setVehicle .alarm) ?_ ?_
  · simpa using first
  · simpa using last

/-- A seat loss leaves a watching vehicle in ALARM, with the seats as they are. -/
theorem State.seatLoss_rm {s : State} (hv : s.rm.Watches) :
    s.seatLoss.rm.vehicle = .alarm ∧ s.seatLoss.rm.seats = s.rm.seats := by
  have raised {u : State} (h : u.rm.vehicle = .alarm ∧ u.rm.seats = s.rm.seats) :
      (u.raise .restraint).rm.vehicle = .alarm ∧ (u.raise .restraint).rm.seats = s.rm.seats := by
    obtain ⟨kv, ks, -⟩ := u.raise_rm_silence .restraint
    exact ⟨kv.trans h.1, ks.trans h.2⟩
  rcases hv with hv | hv
  · have he : s.seatLoss = s.enterAlarm := by simp only [State.seatLoss, hv]
    rw [he]
    exact State.enterAlarm_of (P := fun t => t.rm.vehicle = .alarm ∧ t.rm.seats = s.rm.seats)
      (raised (u := (s.setVehicle .alarm).settled) (s.setVehicle_rm .alarm))
      (raised (u := (s.setVehicle .alarm).settled.play 0 _) (s.setVehicle_rm .alarm))
  · have he : s.seatLoss = s.raise .restraint := by simp only [State.seatLoss, hv]
    rw [he]
    exact raised ⟨hv, rfl⟩

/-- A LOCKED seat whose inputs are no longer both engaged opens, and the vehicle reacts to its loss (R109). -/
theorem State.seatChange_loss {s : State} {i : Nat} (hv : s.rm.Watches) (hk : (s.seat i).state = .locked)
    (hlost : ((s.seat i).lk && (s.seat i).bd) = false) :
    s.seatChange i = (s.withSeats (s.rm.seats.set i ((s.seat i).enterOpen s.ms s.cfg.opt.contraTime))).seatLoss := by
  generalize hq : s.rm.seats.set i ((s.seat i).enterOpen s.ms s.cfg.opt.contraTime) = q
  have hvq : (s.withSeats q).rm.Watches := hv
  obtain ⟨va, vs⟩ := State.seatLoss_rm hvq
  have hmem : (s.seat i).enterOpen s.ms s.cfg.opt.contraTime ∈ (s.withSeats q).seatLoss.rm.seats := by
    rw [vs, ← hq]
    exact List.mem_set (State.seat_lt (by simp [hk])) _
  have htest := State.seatTest_of_unlocked (.inr va) hmem nofun nofun
  simpa [State.seatChange, hk, hlost, State.setSeat_eq, hq] using htest

/-- A seat's change in a watching vehicle moves that seat alone, or is the loss of a seat. -/
theorem State.seatChange_of_watched {s : State} (hv : s.rm.Watches) (j : Nat) :
    (∃ q, s.seatChange j = s.withSeats q ∧ ∀ i, i ≠ j → q[i]? = s.rm.seats[i]?)
      ∨ ∃ q, s.seatChange j = (s.withSeats q).seatLoss := by
  have none : ∃ q, s = s.withSeats q ∧ ∀ i, i ≠ j → q[i]? = s.rm.seats[i]? := ⟨s.rm.seats, rfl, fun _ _ => rfl⟩
  have moved (k : Seat) : ∃ q, s.setSeat j k = s.withSeats q ∧ ∀ i, i ≠ j → q[i]? = s.rm.seats[i]? :=
    ⟨_, rfl, fun i hi => List.getElem?_set_ne hi.symm⟩
  have tested (k : Seat) (hj : (s.seat j).state ≠ .notFitted) (hf : k.state ≠ .notFitted) (ho : k.state ≠ .locked) :
      (s.setSeat j k).seatTest = s.setSeat j k :=
    State.seatTest_of_unlocked (s := s.setSeat j k) hv (List.mem_set (State.seat_lt hj) k) hf ho
  cases hk : (s.seat j).state with
  | notFitted => exact .inl (by simpa [State.seatChange, hk] using none)
  | opened =>
    refine .inl ?_
    simp only [State.seatChange, hk]
    split
    · rw [tested ((s.seat j).enterClosing s.ms s.cfg.opt.confirmTime) (by simp [hk]) nofun nofun]
      exact moved _
    · exact moved _
  | closing =>
    refine .inl ?_
    simp only [State.seatChange, hk]
    split
    · exact none
    · rw [tested ((s.seat j).enterOpen s.ms s.cfg.opt.contraTime) (by simp [hk]) nofun nofun]
      exact moved _
  | locked =>
    cases hl : (s.seat j).lk && (s.seat j).bd
    · exact .inr ⟨_, State.seatChange_loss hv hk hl⟩
    · exact .inl (by simpa [State.seatChange, hk, hl] using none)
  | fault =>
    have hr : s.rm.vehicle ≠ .released := by rcases hv with h | h <;> simp [h]
    exact .inl (by simpa [State.seatChange, hk, hr] using none)

/-- In ALARM with RESTRAINT active a further loss does nothing (R114). -/
theorem State.seatLoss_of_raised {s : State} (hv : s.rm.vehicle = .alarm) (hc : .restraint ∈ s.stc.causes) :
    s.seatLoss = s := by
  simp only [State.seatLoss, hv]
  rw [State.raise_eq, if_neg fun h => h.2 hc]

theorem State.seatChanges_of_raised {s : State} (hv : s.rm.vehicle = .alarm) (hc : .restraint ∈ s.stc.causes)
    (l : List Nat) : ∃ q, s.seatChanges l = s.withSeats q := by
  induction l generalizing s with
  | nil => exact ⟨s.rm.seats, rfl⟩
  | cons j l ih =>
    have hj : ∃ q, s.seatChange j = s.withSeats q := by
      rcases State.seatChange_of_watched (.inr hv) j with ⟨q, hq, -⟩ | ⟨q, hq⟩
      · exact ⟨q, hq⟩
      · exact ⟨q, hq.trans (State.seatLoss_of_raised (s := s.withSeats q) hv hc)⟩
    obtain ⟨q, hq⟩ := hj
    obtain ⟨r, hr⟩ := ih (s := s.withSeats q) hv hc
    exact ⟨r, by rw [State.seatChanges, hq, hr]; rfl⟩

theorem State.seatLoss_raised {s : State} (ha : s.active = true) (hv : s.rm.Watches) :
    .restraint ∈ s.seatLoss.stc.causes := by
  have raised {u : State} (h : u.active = true) : .restraint ∈ (u.raise .restraint).stc.causes :=
    State.mem_raise.mpr (.inr ⟨rfl, h⟩)
  rcases hv with hv | hv
  · have he : s.seatLoss = s.enterAlarm := by simp only [State.seatLoss, hv]
    have hact : (s.setVehicle .alarm).active = true := (s.setVehicle_sameRide .alarm).rides.active ha
    rw [he]
    exact State.enterAlarm_of (P := fun t => .restraint ∈ t.stc.causes)
      (raised (u := (s.setVehicle .alarm).settled) hact)
      (raised (u := (s.setVehicle .alarm).settled.play 0 _) hact)
  · have he : s.seatLoss = s.raise .restraint := by simp only [State.seatLoss, hv]
    rw [he]
    exact raised ha

/-- Among the changes of a sample one seat is lost: the vehicle reacts once, and the other changes move seats alone. -/
theorem State.seatChanges_lose {s : State} {l : List Nat} {i : Nat} (ha : s.active = true) (hv : s.rm.Watches)
    (hi : i ∈ l) (hk : (s.seat i).state = .locked) (hlost : ((s.seat i).lk && (s.seat i).bd) = false) :
    ∃ q r, s.seatChanges l = (s.withSeats q).seatLoss.withSeats r := by
  induction l generalizing s with
  | nil => exact absurd hi (List.not_mem_nil)
  | cons j l ih =>
    have lose (q : List Seat) (h : s.seatChange j = (s.withSeats q).seatLoss) :
        ∃ q r, s.seatChanges (j :: l) = (s.withSeats q).seatLoss.withSeats r := by
      obtain ⟨va, -⟩ := State.seatLoss_rm (s := s.withSeats q) hv
      obtain ⟨r, hr⟩ := State.seatChanges_of_raised va (State.seatLoss_raised (s := s.withSeats q) ha hv) l
      exact ⟨q, r, by rw [State.seatChanges, h, hr]⟩
    by_cases hij : i = j
    · subst hij
      exact lose _ (State.seatChange_loss hv hk hlost)
    · rcases State.seatChange_of_watched hv j with ⟨p, hp, hsame⟩ | ⟨q, hq⟩
      · have hseat : (s.withSeats p).seat i = s.seat i := by
          simp only [State.seat, List.getD]
          exact congrArg (Option.getD · _) (hsame i hij)
        obtain ⟨q, r, hr⟩ := ih (s := s.withSeats p) ha hv (List.mem_of_ne_of_mem hij hi) (by rw [hseat]; exact hk)
          (by rw [hseat]; exact hlost)
        exact ⟨q, r, by rw [State.seatChanges, hp, hr]; rfl⟩
      · exact lose q hq

theorem mem_changedSeats {before after : List Seat} {i : Nat} {b a : Seat} (hi : i < 8) (hb : before[i]? = some b)
    (ha : after[i]? = some a) (h : b.changedFrom a = true) : i ∈ changedSeats before after := by
  simp [changedSeats, hi, hb, ha, h]

theorem getElem?_sampleSeats {time i : Nat} {raw : List SeatInput} {seats : List Seat} {k : Seat}
    (h : seats[i]? = some k) (hf : k.fitted = true) :
    (sampleSeats time raw seats)[i]? = some (k.sample time (inputAt raw i)) := by
  simp [sampleSeats, h, hf]

/-- A sample that drops a debounced input of a LOCKED seat is a seat loss, whatever other seats change (R106, R109). -/
theorem State.seatSample_lose {s : State} {i : Nat} {raw : List SeatInput} {k : Seat} (ha : s.active = true)
    (hv : s.rm.Watches) (hi : i < 8) (hk : s.rm.seats[i]? = some k) (hlock : k.state = .locked)
    (hchange : k.changedFrom (k.sample s.cfg.opt.debounce (inputAt raw i)) = true)
    (hlost : (k.sample s.cfg.opt.debounce (inputAt raw i)).lk = false
      ∨ (k.sample s.cfg.opt.debounce (inputAt raw i)).bd = false) :
    ∃ q r, s.seatSample raw = ((s.sampled raw).withSeats q).seatLoss.withSeats r := by
  have hnew : (s.sampled raw).rm.seats[i]? = some (k.sample s.cfg.opt.debounce (inputAt raw i)) :=
    getElem?_sampleSeats hk (by simp [Seat.fitted, hlock])
  have hseat := State.seat_of_getElem? hnew
  have hparked : s.parked = false := State.parked_of_active ha
  simp only [State.seatSample, hparked, Bool.false_eq_true, if_false]
  refine State.seatChanges_lose ha hv (mem_changedSeats hi hk hnew hchange) (by rw [hseat]; exact hlock) ?_
  rw [hseat, Bool.and_eq_false_iff]
  exact hlost

end Sys2Proof.Machine

namespace Sys2Proof.Machine

/-! ### The announcement beside the stop clip (R116, R178, R179) -/

/-- The voice plays the request or has it in its queue. -/
def Voice.Carries (r : PlayRequest) (v : Voice) : Prop := v.current = some r ∨ r ∈ v.queue

theorem Voice.HandedZero.carries {r : PlayRequest} {v w : Voice} (h : Voice.HandedZero r v w) : w.Carries r := by
  obtain ⟨idle, busy⟩ := h
  by_cases hs : v.state = .idle
  · obtain ⟨-, hc, -⟩ := idle hs
    exact .inl hc
  · obtain ⟨-, -, -, -, hq⟩ := busy hs
    exact .inr (by simp [hq])

/-- A request handed to a queue with a place to spare survives the next one handed. -/
theorem Voice.HandedZero.carries_after {r r' : PlayRequest} {v w x : Voice} (h : Voice.HandedZero r v w)
    (h' : Voice.HandedZero r' w x) (hq : v.queue.length < 3) : x.Carries r := by
  obtain ⟨idle, busy⟩ := h
  by_cases hs : v.state = .idle
  · obtain ⟨hplay, hcur, -⟩ := idle hs
    obtain ⟨-, kcur, -⟩ := h'.2 (by simp [hplay])
    exact .inl (kcur.trans hcur)
  · obtain ⟨hstate, -, -, -, hqueue⟩ := busy hs
    obtain ⟨-, -, -, -, kqueue⟩ := h'.2 (by rw [hstate]; exact hs)
    have hlen : w.queue.length < 4 := by
      rw [hqueue]
      split <;> simp <;> omega
    rw [if_pos hlen, hqueue] at kqueue
    exact .inr (by simp [kqueue])

/-- Voice 0 has been handed the restraint announcement, beside what the rise of the latch did to it (R116, R179). -/
structure Spe.Announces (cfg : Configuration) (e f : Spe) : Prop where
  carries : e.v0.queue.length < 3 → f.v0.Carries (announcement cfg.opt.restraintClip)
  plays : e.v0.state = .idle → cfg.opt.stopClip = 0 →
    f.v0.current = some (announcement cfg.opt.restraintClip) ∧ f.v0.state = .playing

theorem Spe.StoppedFor.then_play {cfg : Configuration} {e f : Spe} (h : e.StoppedFor cfg f) (reading : Nat) :
    e.Announces cfg (f.play cfg reading 0 (announcement cfg.opt.restraintClip)) := by
  have hplay : Voice.HandedZero _ f.v0 _ := Spe.play_handedZero cfg reading f (r := announcement cfg.opt.restraintClip) rfl
  refine ⟨fun _ => hplay.carries, fun hidle h0 => ?_⟩
  obtain ⟨hstate, -⟩ := h.left h0
  obtain ⟨hp, hc, -⟩ := hplay.1 (hstate.trans hidle)
  exact ⟨hc, hp⟩

theorem Spe.StoppedFor.after_play {cfg : Configuration} {e f : Spe} {reading : Nat}
    (h : (e.play cfg reading 0 (announcement cfg.opt.restraintClip)).StoppedFor cfg f) : e.Announces cfg f := by
  have hplay : Voice.HandedZero _ e.v0 _ := Spe.play_handedZero cfg reading e (r := announcement cfg.opt.restraintClip) rfl
  refine ⟨fun hq => ?_, fun hidle h0 => ?_⟩
  · by_cases h0 : cfg.opt.stopClip = 0
    · obtain ⟨-, hc, hqueue, -⟩ := h.left h0
      rw [Voice.Carries, hc, hqueue]
      exact hplay.carries
    · exact hplay.carries_after (h.handed h0) hq
  · obtain ⟨hstate, hc, -⟩ := h.left h0
    obtain ⟨kp, kc, -⟩ := hplay.1 hidle
    exact ⟨hc.trans kc, hstate.trans kp⟩

/-! ### The vehicle in ALARM (R113) -/

/-- What the entry into ALARM leaves of a vehicle that was SECURE below latch 2. -/
structure State.Alarmed (s t : State) : Prop where
  latch : t.stc.latch = 2
  halted : t.sau.authority = 0 ∧ t.dsc.command = 0
  motion : t.dsc.motion = if s.dsc.motion = .lost then .lost else .braked
  brake : t.dsc.BrakeFollows
  slots : s.SameSlots t
  sound : s.spe.Announces s.cfg t.spe

/-- Below latch 2 RESTRAINT is not active, and raising it stops the vehicle. -/
theorem State.raise_restraint {s : State} (ha : s.active = true) (hb : s.dsc.BrakeFollows) (hs : s.StopsSound)
    (hl : s.stc.latch ≠ 2) : (s.raise .restraint).stc.latch = 2 ∧ s.ReactsTo 2 (s.raise .restraint) := by
  have ⟨hcauses, hmax⟩ := hs.latched
  have ⟨_, hasserted, _, _⟩ := hs
  have hlt : s.stc.latch < 2 := by omega
  have hnew : .restraint ∉ s.stc.causes := fun h => absurd (hcauses _ h) (Nat.not_le.mpr hlt)
  refine ⟨?_, State.raise_reactsTo ha hb hnew (hasserted.trans_lt hlt) hlt⟩
  rw [hs.latched.raise_latch ha]
  exact Nat.max_eq_right hmax

theorem State.setVehicle_drive (x : Restraint) (s : State) : (s.setVehicle x).dsc.motion = s.dsc.motion
    ∧ (s.setVehicle x).dsc.brakeReleased = s.dsc.brakeReleased := by
  simp only [State.setVehicle]
  (repeat' split) <;> simp [State.forceAuthority, State.handAuthority]

/-- The announcement goes out before or after the raising, and voice 0 is handed it either way (R179). -/
theorem State.enterAlarm_alarmed {s : State} (ha : s.active = true) (hd : s.DriveSafe) (hs : s.StopsSound)
    (hl : s.stc.latch ≠ 2) : s.Alarmed s.enterAlarm := by
  generalize hu : (s.setVehicle .alarm).settled = u
  obtain ⟨hm, hr⟩ := s.setVehicle_drive .alarm
  have hact : u.active = true := by subst hu; exact (s.setVehicle_sameRide .alarm).rides.active ha
  have hmotion : u.dsc.motion = s.dsc.motion := by subst hu; exact hm
  have hbrake : u.dsc.BrakeFollows := by
    obtain ⟨hb, -⟩ := hd
    have hreleased : u.dsc.brakeReleased = s.dsc.brakeReleased := by subst hu; exact hr
    rw [Dsc.BrakeFollows, hmotion, hreleased]
    exact hb
  have hsame : u.stc = s.stc ∧ u.spe = s.spe ∧ u.cfg = s.cfg ∧ u.scu = s.scu := by subst hu; simp
  obtain ⟨hstc, hspe, hcfg, hscu⟩ := hsame
  have hsound : u.StopsSound := hs.of_stc hstc
  have hlow : u.stc.latch ≠ 2 := hstc.symm ▸ hl
  have hslots : s.SameSlots u := State.sameSlots_of_scu hscu
  refine State.enterAlarm_of (P := s.Alarmed) ?first ?last <;> rw [hu]
  case first =>
    obtain ⟨latch, forced, -, braked, -, brake, -, -, sound⟩ := State.raise_restraint hact hbrake hsound hlow
    obtain ⟨ha0, hc0, -⟩ := forced rfl
    have hmot := (braked rfl).trans (by rw [hmotion])
    have hplay := sound.then_play (u.raise .restraint).showTime
    rw [hspe, hcfg] at hplay
    have hcfgr : (u.raise .restraint).cfg = s.cfg := by simp [hcfg]
    rw [State.play, hcfgr]
    exact ⟨latch, ⟨ha0, hc0⟩, hmot, brake, hslots.trans (u.raise_sameSlots .restraint), hplay⟩
  case last =>
    generalize hw : u.play 0 (announcement s.cfg.opt.restraintClip) = w
    have hwspe : w.spe = u.spe.play u.cfg u.showTime 0 (announcement s.cfg.opt.restraintClip) := by subst hw; rfl
    have hwcfg : w.cfg = s.cfg := by subst hw; exact hcfg
    have hwslots : s.SameSlots w := by subst hw; exact hslots
    have hwmotion : w.dsc.motion = s.dsc.motion := by subst hw; exact hmotion
    obtain ⟨latch, forced, -, braked, -, brake, -, -, sound⟩ := State.raise_restraint (s := w) (by subst hw; exact hact)
      (by subst hw; exact hbrake) (by subst hw; exact hsound) (by subst hw; exact hlow)
    obtain ⟨ha0, hc0, -⟩ := forced rfl
    have hmot := (braked rfl).trans (by rw [hwmotion])
    rw [hwspe, hwcfg, hspe, hcfg] at sound
    exact ⟨latch, ⟨ha0, hc0⟩, hmot, brake, hwslots.trans (w.raise_sameSlots .restraint), sound.after_play⟩

end Sys2Proof.Machine

open Sys2Proof.Machine in
/-- Settles O40: among the changes of the sample the loss acts once, entering ALARM or raising RESTRAINT in it. -/
theorem seatLossStopsTheVehicle : Obligations.SeatLossStopsTheVehicle := by
  unfold Obligations.SeatLossStopsTheVehicle
  refine ⟨fun dt d i raw k s ha ht hs hd hv hl hi hk hlock hchange hlost => ?secure,
    fun dt d i raw k s ha ht hs hd hv hi hk hlock hchange hlost => ?alarm⟩
  case secure =>
    obtain ⟨q, r, hq⟩ := State.seatSample_lose (s := s.elapseTo dt (d * 1000)) ha (.inl hv) hi hk hlock hchange hlost
    refine ⟨_, rfl, ?_⟩
    rw [ht, State.onExpiry, hq]
    generalize hu : ((s.elapseTo dt (d * 1000)).sampled raw).withSeats q = u
    have huv : u.rm.vehicle = .secure := by subst hu; exact hv
    have hua : u.active = true := by subst hu; exact ha
    have hloss : u.seatLoss = u.enterAlarm := by simp only [State.seatLoss, huv]
    obtain ⟨hlatch, ⟨hauthority, hcommand⟩, hmotion, hbrake, ⟨h1, h2⟩, hsound⟩ : u.Alarmed u.seatLoss := by
      rw [hloss]
      exact State.enterAlarm_alarmed hua (by subst hu; exact hd) (by subst hu; exact hs) (by subst hu; exact hl)
    obtain ⟨hvehicle, -⟩ := State.seatLoss_rm (.inl huv)
    have hcause := State.seatLoss_raised hua (.inl huv)
    have hrides := u.seatLoss_rides
    have hplace := And.intro hrides.known (And.intro hrides.entryIndex hrides.distance)
    obtain ⟨-, -, hcfg, hcfs, hptb, hsck, -⟩ := u.seatLoss_frame
    generalize u.seatLoss = v at *
    subst hu
    obtain ⟨hknown, hentry, hdistance⟩ := hplace
    refine ⟨hvehicle, hcause, hlatch, hauthority, hcommand, fun hm => ?_, fun hm => hmotion.trans (if_pos hm), hknown,
      hentry, hdistance, hptb, hsck, h1, h2, hcfg, hcfs, hsound.carries, hsound.plays⟩
    have hbraked : v.dsc.motion = .braked := hmotion.trans (if_neg hm)
    exact ⟨hbraked, Bool.eq_false_iff.mpr fun h => by rcases hbrake.mp h with h | h <;> simp [h] at hbraked⟩
  case alarm =>
    obtain ⟨q, r, hq⟩ := State.seatSample_lose (s := s.elapseTo dt (d * 1000)) ha (.inr hv) hi hk hlock hchange hlost
    refine ⟨_, rfl, ?_⟩
    rw [ht, State.onExpiry, hq]
    generalize hu : ((s.elapseTo dt (d * 1000)).sampled raw).withSeats q = u
    have huv : u.rm.vehicle = .alarm := by subst hu; exact hv
    have hua : u.active = true := by subst hu; exact ha
    have hstc : u.stc = s.stc := by subst hu; rfl
    have hspe : u.spe = s.spe := by subst hu; rfl
    have hcfg : u.cfg = s.cfg := by subst hu; rfl
    obtain ⟨hvehicle, -⟩ := State.seatLoss_rm (.inr huv)
    refine ⟨hvehicle, fun hc => ?active, fun hc => ?withdrawn⟩
    case active =>
      rw [State.seatLoss_of_raised huv (hstc.symm ▸ hc)]
      exact ⟨hstc, hspe⟩
    case withdrawn =>
      have hloss : u.seatLoss = u.raise .restraint := by simp only [State.seatLoss, huv]
      have hus : u.StopsSound := hs.of_stc hstc
      obtain ⟨hcauses, -, hincidents⟩ := State.raise_stc_new hua (hstc.symm ▸ hc)
      have hlatch : (u.raise .restraint).stc.latch = 2 := by
        rw [hus.latched.raise_latch hua]
        exact Nat.max_eq_right hus.latched.2
      have hvoice : u.cfg.opt.stopClip = 0 → u.spe.v0.Kept (u.raise .restraint).spe.v0 := by
        rcases u.raise_sound .restraint with h | h
        · exact fun _ => by rw [h]; exact Voice.kept_of_show rfl
        · exact h.left
      rw [hloss]
      refine ⟨?_, hlatch, ⟨_, (congrArg List.getLast? hincidents).trans List.getLast?_concat, rfl⟩, fun h0 => ?_⟩
      · exact hcauses ▸ List.mem_append_right _ (List.mem_singleton_self _)
      · obtain ⟨kstate, kcurrent, kqueue, -⟩ := hvoice (hcfg ▸ h0)
        rw [hspe] at kstate kcurrent kqueue
        exact ⟨kcurrent, kqueue, kstate⟩

namespace Sys2Proof.Machine

/-! ### What a safe drive asks of the DSC and of the SAU (R93, R95, R96) -/

/-- The brake line follows the motion state, and under an applied brake the speed command is 0 (R93, R96). -/
def Dsc.DriveSound (d : Dsc) : Prop := d.BrakeFollows ∧ (d.brakeReleased = false → d.command = 0)

/-- Motion state, speed command and brake line are all that a sound drive asks of the DSC. -/
theorem Dsc.DriveSound.of_drive {d e : Dsc} (h : d.DriveSound) (he : e.drive = d.drive) : e.DriveSound := by
  simp only [Dsc.drive, Prod.mk.injEq] at he
  obtain ⟨hm, hc, hb⟩ := he
  rw [Dsc.DriveSound, Dsc.BrakeFollows, hm, hc, hb]
  exact h

/-- The command is ruled by the authority (R95), and where `braked` asks for it brake line and command are ruled by the
motion state (R93, R96). The invariant asks for it; a control period leaves the first alone from any state at all. -/
structure State.Ruled (braked : Prop) (s : State) : Prop where
  sound : braked → s.dsc.DriveSound
  within : s.dsc.command ≤ s.sau.authority

theorem State.driveSafe_iff_ruled (s : State) : s.DriveSafe ↔ s.Ruled True :=
  ⟨fun ⟨hbrake, hzero, hle⟩ => ⟨fun _ => ⟨hbrake, hzero⟩, hle⟩, fun ⟨hsound, hle⟩ =>
    have ⟨hbrake, hzero⟩ := hsound trivial
    ⟨hbrake, hzero, hle⟩⟩

variable {braked : Prop}

/-- A drive that stays as it is stays ruled under the same authority. -/
theorem State.Ruled.of_drive {s t : State} (h : s.Ruled braked) (hd : t.dsc.drive = s.dsc.drive)
    (ha : t.sau.authority = s.sau.authority) : t.Ruled braked := by
  have hc : t.dsc.command = s.dsc.command := congrArg (·.2.1) hd
  exact ⟨fun b => (h.sound b).of_drive hd, by rw [hc, ha]; exact h.within⟩

theorem State.Ruled.of_frame {s t : State} (h : s.Ruled braked) (hf : t.dsc = s.dsc ∧ t.sau = s.sau) : t.Ruled braked :=
  h.of_drive (by rw [hf.1]) (by rw [hf.2])

/-- A vehicle that is neither RUNNING nor STOPPING, braked and without a command, is ruled by every authority. -/
theorem State.ruled_of_rest {s : State} (hm : ¬ (s.dsc.motion = .running ∨ s.dsc.motion = .stopping))
    (hb : s.dsc.brakeReleased = false) (hc : s.dsc.command = 0) : s.Ruled braked :=
  ⟨fun _ => ⟨by simp [Dsc.BrakeFollows, hb, hm], fun _ => hc⟩, hc ▸ Nat.zero_le _⟩

theorem State.ruled_of_start {s : State} (h : s.dsc = Dsc.start) : s.Ruled braked :=
  State.ruled_of_rest (by simp [h, Dsc.start]) (by simp [h, Dsc.start]) (by simp [h, Dsc.start])

/-! ### The motion state -/

/-- Every entering of a motion state sets the brake line and the command that go with it (R93, R96). -/
theorem Dsc.enter_driveSound (m : Motion) (d : Dsc) : (d.enter m).DriveSound := by
  refine ⟨d.enter_brakeFollows m, ?_⟩
  simp only [Dsc.enter]
  split <;> simp

theorem State.setMotion_driveSound (m : Motion) (s : State) : (s.setMotion m).dsc.DriveSound := by
  rw [State.setMotion_dsc]
  exact s.dsc.enter_driveSound m

theorem State.enterHeld_driveSound (s : State) : s.enterHeld.dsc.DriveSound :=
  ⟨s.enterHeld_brakeFollows, fun _ => s.enterHeld_dsc_command⟩

theorem State.Ruled.setMotion {s : State} (h : s.Ruled braked) (m : Motion) : (s.setMotion m).Ruled braked := by
  have hsau : (s.setMotion m).sau = s.sau := by simp
  refine ⟨fun _ => s.setMotion_driveSound m, ?_⟩
  rw [State.setMotion_dsc, hsau]
  exact (Dsc.enter_command_le m s.dsc).trans h.within

theorem State.enterHeld_ruled (s : State) : s.enterHeld.Ruled braked :=
  ⟨fun _ => s.enterHeld_driveSound, s.enterHeld_dsc_command ▸ Nat.zero_le _⟩

theorem State.Ruled.driveFall {s : State} (h : s.Ruled braked) (level : Nat) : (s.driveFall level).Ruled braked := by
  simp only [State.driveFall]
  split
  case h_1 =>
    split
    · exact h.setMotion _
    · exact h
  case h_2 =>
    split
    · exact s.enterHeld_ruled
    · exact h
  all_goals exact h

theorem State.driveFix_ruled {s : State} (h : s.Ruled braked) : s.driveFix.Ruled braked := by
  simp only [State.driveFix]
  split
  · exact s.enterHeld_ruled
  · exact h

/-! ### The authority -/

/-- A lowered authority lowers the command with it (R95). -/
theorem State.Ruled.handAuthority {s : State} (h : s.Ruled braked) (a : Nat) (src : LimitSource) :
    (s.handAuthority a src).Ruled braked := by
  refine ⟨fun b => ?_, Nat.min_le_right ..⟩
  obtain ⟨hbrake, hzero⟩ := h.sound b
  refine ⟨hbrake, fun hb => ?_⟩
  have hc : s.dsc.command = 0 := hzero hb
  simp [State.handAuthority, hc]

theorem State.Ruled.capLowering {s : State} (h : s.Ruled braked) (cap : Nat) : (s.capLowering cap).Ruled braked := by
  simp only [State.capLowering]
  split
  · exact h.handAuthority ..
  · exact h

/-- A position fault leaves the sequencer's place, forces the authority to 0 and enters LOST (R21, R75, R91). -/
theorem State.Ruled.lostPosition {s : State} (h : s.Ruled braked) : s.lostPosition.Ruled braked :=
  (((h.of_frame (t := s.setRsq s.rsq.lose) ⟨rfl, rfl⟩).handAuthority 0 .forced).of_drive
    (t := (s.setRsq s.rsq.lose).authorityLost) rfl rfl).setMotion .lost

/-! ### Stops -/

theorem State.Ruled.authorityRise {s : State} (h : s.Ruled braked) (was level : Nat) :
    (s.authorityRise was level).Ruled braked := by
  simp only [State.authorityRise]
  split
  · exact h.handAuthority ..
  · split
    · exact h.handAuthority ..
    · exact h

theorem State.Ruled.driveRise {s : State} (h : s.Ruled braked) (level : Nat) : (s.driveRise level).Ruled braked := by
  simp only [State.driveRise]
  split
  case h_1 =>
    split
    · exact h.setMotion _
    · split
      · exact State.enterHeld_ruled _
      · exact h.setMotion _
  case h_2 => split <;> exact h.setMotion _
  case h_3 =>
    split
    · exact h.setMotion _
    · exact h
  all_goals exact h

/-- A rise of the latch lowers the authority with the command, and then brakes or stops the vehicle (R184). -/
theorem State.Ruled.notifyRise {s : State} (h : s.Ruled braked) (was level : Nat) :
    (s.notifyRise was level).Ruled braked :=
  ((h.authorityRise was level).driveRise level).of_frame (by simp [State.notifyRise])

theorem State.Ruled.raiseLatch {s : State} (h : s.Ruled braked) (level : Nat) (cause : StopCause) (origin : Nat) :
    (s.raiseLatch level cause origin).Ruled braked := by
  rw [State.raiseLatch_eq]
  split
  · exact (h.of_frame (t := s.lifted level cause origin) ⟨rfl, rfl⟩).notifyRise ..
  · exact h

theorem State.Ruled.frameLevel {s : State} (h : s.Ruled braked) (level : Nat) (cause : StopCause) (origin : Nat) :
    (s.frameLevel level cause origin).Ruled braked := by
  rw [State.frameLevel_eq]
  split
  · exact (h.of_frame (t := (s.writeIncident cause level origin).lifted level cause origin) ⟨rfl, rfl⟩).notifyRise ..
  · exact h

theorem State.Ruled.raise {s : State} (h : s.Ruled braked) (c : Cause) : (s.raise c).Ruled braked := by
  have joined : (s.joined c).Ruled braked := h.of_frame ⟨rfl, rfl⟩
  rw [State.raise_eq]
  split
  · split
    · have requested : (((s.joined c).putFrame (.stop c.level c.code)).1.requestPos true).Ruled braked :=
        joined.of_frame (by simp)
      exact (requested.raiseLatch c.level (.local_ c) s.cfg.opt.station).of_frame
        (by simp [State.levelRises, State.joined])
    · exact joined
  · exact h

theorem State.Ruled.withdraw {s : State} (h : s.Ruled braked) (c : Cause) : (s.withdraw c).Ruled braked :=
  h.of_frame (by simp)

/-! ### The peer table and the slots -/

theorem State.Ruled.setPtb {s : State} (h : s.Ruled braked) (t : List Peer) : (s.setPtb t).Ruled braked :=
  h.of_frame ⟨rfl, rfl⟩

theorem State.Ruled.foreignAfter {s : State} (h : s.Ruled braked) (before : Bool) :
    (s.foreignAfter before).Ruled braked := by
  simp only [State.foreignAfter]
  split
  · exact h.raise _
  · split
    · exact h.withdraw _
    · exact h

theorem State.Ruled.addPeer {s : State} (h : s.Ruled braked) (station : Nat) (foreign : Bool) :
    (s.addPeer station foreign).Ruled braked := by
  have room : s.makeRoom.Ruled braked := h.of_frame (by simp)
  simp only [State.addPeer]
  split
  · exact (room.setPtb _).foreignAfter _
  · exact room

theorem State.Ruled.tellScu {s : State} (h : s.Ruled braked) (station : Nat) : (s.tellScu station).Ruled braked :=
  h.of_frame (by simp)

theorem State.Ruled.hear {s : State} (h : s.Ruled braked) (src : Nat) :
    (s.hear src).Ruled braked := h.of_frame (by simp)

theorem State.Ruled.hearForeign {s : State} (h : s.Ruled braked) (station : Nat) :
    (s.hearForeign station).Ruled braked := by
  have marked (f : Peer → Peer) : ((s.mapPeer station f).foreignAfter s.foreignSeen).Ruled braked :=
    (h.setPtb _).foreignAfter _
  simp only [State.hearForeign]
  split
  · exact h.addPeer ..
  · split
    · exact (marked _).tellScu _
    · exact marked _

theorem State.Ruled.posHeard {s : State} (h : s.Ruled braked) (src : Nat) (held : List Nat) (claiming : Option Nat)
    (k : SlotId) : (s.posHeard src held claiming k).Ruled braked := by
  simp only [State.posHeard]
  split
  · exact h
  · split
    · exact h
    · split
      · exact h.of_frame (by simp)
      · exact h
    · split
      · exact h.of_frame (by simp)
      · exact h
    · split
      · exact (h.of_frame (t := s.freeSlot false k) (by simp)).raise _
      · exact h

theorem State.Ruled.hearPos {s : State} (h : s.Ruled braked) (src : Nat) (b : PosBody) :
    (s.hearPos src b).Ruled braked := by
  have own : (s.hearOwn src).Ruled braked := h.of_frame (by simp)
  exact ((own.posHeard src b.held b.claiming .one).posHeard src b.held b.claiming .two).of_frame ⟨rfl, rfl⟩

theorem State.Ruled.sceneAction {s : State} (h : s.Ruled braked) : s.sceneAction.Ruled braked := by
  simp only [State.sceneAction]
  split
  · simp only [State.claimAction]
    split
    · exact h
    · split
      · exact h.raise _
      · split <;> exact h.of_frame (by simp)
  · exact h.of_frame (by simp)
  · exact h

/-! ### Entering an entry, advances and faults -/

/-- Of entering, the cap and the scene action alone reach the drive: a cap lowers the authority, an overflow raises. -/
theorem State.Ruled.enterEntry {s : State} (h : s.Ruled braked) (i d : Nat) : (s.enterEntry i d).Ruled braked := by
  have entering : (s.entering i d).Ruled braked :=
    ((h.of_frame (t := s.placeAt i d) ⟨rfl, rfl⟩).capLowering _).of_drive rfl rfl
  have acted : (s.entering i d).soundAction.sceneAction.Ruled braked := (entering.of_frame (by simp)).sceneAction
  obtain ⟨hdsc, hsau, -⟩ := State.entryRest_frame (s.entering i d).soundAction.sceneAction
  rw [State.enterEntry_eq]
  exact acted.of_frame ⟨hdsc, hsau⟩

theorem State.Ruled.setRsq {s : State} (h : s.Ruled braked) (r : Rsq) :
    (s.setRsq r).Ruled braked := h.of_frame ⟨rfl, rfl⟩

theorem State.Ruled.advance {s : State} (h : s.Ruled braked) (passed inTime : Bool) (carry : Nat) :
    (s.advance passed inTime carry).Ruled braked := by
  simp only [State.advance]
  refine State.Ruled.enterEntry (State.Ruled.setRsq ?_ _) ..
  split
  · exact h.raise _
  · exact h

theorem State.Ruled.positionFault {s : State} (h : s.Ruled braked) : s.positionFault.Ruled braked :=
  h.lostPosition.raise _

theorem State.Ruled.runEnds {s : State} (h : s.Ruled braked) (n : Nat) : (s.runEnds n).Ruled braked := by
  induction n generalizing s with
  | zero => exact h
  | succ n ih =>
    simp only [State.runEnds]
    split
    · exact h
    · exact h.setRsq _
    · exact h.positionFault
    · exact ih (h.advance ..)

theorem State.Ruled.settleEnds {s : State} (h : s.Ruled braked) : s.settleEnds.Ruled braked := by
  simp only [State.settleEnds]
  split
  · exact h.runEnds _
  · exact h

theorem State.Ruled.actOnRelease {s : State} (h : s.Ruled braked) : s.actOnRelease.Ruled braked := by
  simp only [State.actOnRelease]
  split
  · exact h.settleEnds
  · exact h

theorem State.Ruled.afterSlots {s : State} (h : s.Ruled braked) (u : Scu) : (s.afterSlots u).Ruled braked := by
  simp only [State.afterSlots]
  split
  · exact (h.of_frame (t := s.sceneTest) (by simp)).actOnRelease
  · exact h

/-! ### Pulses, markers and relocation -/

theorem State.Ruled.routePulse {s : State} (h : s.Ruled braked) : s.routePulse.Ruled braked := by
  simp only [State.routePulse]
  split
  · exact (h.setRsq _).settleEnds
  · exact h

theorem State.Ruled.chainPulse {s : State} (h : s.Ruled braked) :
    (if s.rsq.known then s.chainPulse else s).Ruled braked := by
  split
  · exact h.of_frame (by simp)
  · exact h

theorem Dsc.pulse_drive (opt : Options) (d : Dsc) : (d.pulse opt).drive = d.drive := by
  simp only [Dsc.pulse, Dsc.countLoss]
  split <;> rfl

theorem State.Ruled.pulse {s : State} (h : s.Ruled braked) : s.pulse.Ruled braked := by
  have counted : (s.setDsc (s.dsc.pulse s.cfg.opt)).Ruled braked := h.of_drive (s.dsc.pulse_drive s.cfg.opt) rfl
  simp only [State.pulse]
  apply State.Ruled.afterSlots
  split
  · have settled : (s.setDsc (s.dsc.pulse s.cfg.opt)).settled.Ruled braked := counted.of_frame ⟨rfl, rfl⟩
    simp only [State.pulseWithLoss]
    split
    · exact (settled.raise _).chainPulse.routePulse
    · exact (settled.chainPulse.raise _).routePulse
    · exact settled.chainPulse.routePulse.raise _
  · exact counted.chainPulse.routePulse

theorem State.Ruled.disagreement {s : State} (h : s.Ruled braked) : s.disagreement.Ruled braked := by
  simp only [State.disagreement]
  split
  · exact (h.advance ..).settleEnds
  · exact h.positionFault

theorem State.Ruled.inTimeRead {s : State} (h : s.Ruled braked) : s.inTimeRead.Ruled braked := by
  simp only [State.inTimeRead]
  split
  · exact (h.setRsq _).setRsq _
  · exact ((h.setRsq _).advance ..).settleEnds

theorem State.Ruled.readMarker {s : State} (h : s.Ruled braked) (id : Nat) : (s.readMarker id).Ruled braked := by
  simp only [State.readMarker]
  split
  · split
    · exact h
    · split
      · exact h.inTimeRead
      · exact h.disagreement
  · split
    · exact h
    · split
      · split
        · exact h
        · exact h.positionFault
      · exact h.disagreement

theorem State.Ruled.markerHeard {s : State} (h : s.Ruled braked) (id : Nat) : (s.markerHeard id).Ruled braked := by
  simp only [State.markerHeard]
  split
  · exact (h.readMarker id).afterSlots _
  · exact h

theorem State.Ruled.relocate {s : State} (h : s.Ruled braked) (e d : Nat) : (s.relocate e d).Ruled braked := by
  simp only [State.relocate]
  split
  · exact ((State.driveFix_ruled ((h.setRsq _).withdraw _)).enterEntry ..).settleEnds
  · exact h

/-! ### The restraints -/

/-- A change of the restraint state forces the authority to 0 where it leaves SECURE, and reaches the drive in no
other way (R75, R111). -/
theorem State.Ruled.setVehicle {s : State} (h : s.Ruled braked) (x : Restraint) : (s.setVehicle x).Ruled braked := by
  have told : ((s.setRm { s.rm with vehicle := x }).requestPos true).Ruled braked := h.of_frame (by simp)
  simp only [State.setVehicle]
  split
  · exact h
  · split
    · exact (told.handAuthority 0 .forced).of_frame (by simp [State.forceAuthority])
    · exact told.of_frame (by simp)

theorem State.Ruled.enterAlarm {s : State} (h : s.Ruled braked) : s.enterAlarm.Ruled braked :=
  State.inEitherOrder_keeps ((h.setVehicle _).of_frame ⟨rfl, rfl⟩) (fun _ k => k.raise _)
    fun _ k => k.of_frame ⟨rfl, rfl⟩

theorem State.Ruled.checkingTest {s : State} (h : s.Ruled braked) : s.checkingTest.Ruled braked := by
  simp only [State.checkingTest]
  split
  · exact h
  · split
    · exact h.setVehicle _
    · split
      · exact h.setVehicle _
      · exact h

theorem State.Ruled.alarmTest {s : State} (h : s.Ruled braked) (level : Nat) : (s.alarmTest level).Ruled braked := by
  simp only [State.alarmTest]
  split
  · exact (h.setVehicle _).of_frame ⟨rfl, rfl⟩
  · exact h

theorem State.Ruled.seatTest {s : State} (h : s.Ruled braked) : s.seatTest.Ruled braked := by
  simp only [State.seatTest]
  split
  · exact h.checkingTest
  · split
    · exact (h.withdraw _).alarmTest _
    · exact h
  all_goals exact h

theorem State.Ruled.seatLoss {s : State} (h : s.Ruled braked) : s.seatLoss.Ruled braked := by
  simp only [State.seatLoss]
  split
  · exact h.enterAlarm
  · exact h.raise _
  all_goals exact h

theorem State.Ruled.setSeat {s : State} (h : s.Ruled braked) (i : Nat) (k : Seat) : (s.setSeat i k).Ruled braked :=
  h.of_frame ⟨rfl, rfl⟩

theorem State.Ruled.seatChange {s : State} (h : s.Ruled braked) (i : Nat) : (s.seatChange i).Ruled braked := by
  simp only [State.seatChange]
  split
  · exact h
  · split
    · exact (h.setSeat ..).seatTest
    · exact h.setSeat ..
  · split
    · exact h
    · exact (h.setSeat ..).seatTest
  · split
    · exact h
    · exact ((h.setSeat ..).seatLoss).seatTest
  · split
    · exact h.setSeat ..
    · exact h

theorem State.Ruled.seatChanges {s : State} (h : s.Ruled braked) (l : List Nat) : (s.seatChanges l).Ruled braked := by
  induction l generalizing s with
  | nil => exact h
  | cons i l ih => exact ih (h.seatChange i)

theorem State.Ruled.confirmed {s : State} (h : s.Ruled braked) (i : Nat) : (s.confirmed i).Ruled braked := by
  simp only [State.confirmed]
  split
  · exact (h.setSeat ..).seatTest
  · exact h.setSeat ..

theorem State.Ruled.contradicted {s : State} (h : s.Ruled braked) (i : Nat) : (s.contradicted i).Ruled braked := by
  simp only [State.contradicted]
  split
  · exact (h.setSeat ..).seatTest
  · exact h.setSeat ..

theorem State.Ruled.releaseVehicle {s : State} (h : s.Ruled braked) : s.releaseVehicle.Ruled braked := by
  simp only [State.releaseVehicle]
  split
  · exact ((h.setVehicle _).withdraw _).of_frame ⟨rfl, rfl⟩
  · exact (h.setVehicle _).of_frame ⟨rfl, rfl⟩

/-! ### The platform's grants and RESUME -/

/-- Parking enters PARKED, which applies the brake and clears the command (R92, R198). -/
theorem State.parkAll_ruled (s : State) : s.parkAll.Ruled braked :=
  State.ruled_of_rest (by simp [State.parkAll, Dsc.park, Dsc.enter]) (by simp [State.parkAll, Dsc.park, Dsc.enter])
    (by simp [State.parkAll, Dsc.park, Dsc.enter])

theorem State.Ruled.grant {s : State} (h : s.Ruled braked) (src : Nat) (kind : GrantKind) :
    (s.grant src kind).Ruled braked := by
  cases kind with
  | unlock =>
    simp only [State.grant, State.grantUnlock]
    split
    · exact h.releaseVehicle
    · exact h
  | lock =>
    simp only [State.grant, State.grantLock]
    split
    · exact (h.setVehicle _).checkingTest
    · exact h
  | dispatch =>
    simp only [State.grant, State.grantDispatch]
    split
    · exact (h.setRsq _).actOnRelease
    · exact h
  | wake => exact h
  | park =>
    simp only [State.grant, State.grantPark]
    split
    · exact s.parkAll_ruled
    · exact h

theorem State.Ruled.notifyFall {s : State} (h : s.Ruled braked) (level : Nat) : (s.notifyFall level).Ruled braked := by
  have h0 : s.settled.Ruled braked := h.of_frame ⟨rfl, rfl⟩
  have drive {t : State} (k : t.Ruled braked) : (t.driveAfterFall level).Ruled braked :=
    (k.driveFall level).actOnRelease
  have chain {t : State} (k : t.Ruled braked) : (t.chainAfterFall level).Ruled braked := k.of_frame (by simp)
  have alarm {t : State} (k : t.Ruled braked) : (t.alarmTest level).Ruled braked := k.alarmTest level
  exact State.inAnyOrder_of (P := State.Ruled braked) _ _ _ _ (alarm (chain (drive h0))) (chain (alarm (drive h0)))
    (alarm (drive (chain h0))) (drive (alarm (chain h0))) (chain (drive (alarm h0))) (drive (chain (alarm h0)))

theorem State.Ruled.resume {s : State} (h : s.Ruled braked) : s.resume.Ruled braked := by
  have set : s.withdrawLatched.setLatch.Ruled braked := h.of_frame (by simp)
  simp only [State.resume]
  split
  · exact set.notifyFall _
  · exact set

/-! ### The control period -/

/-- The period transition keeps the drive sound, also under an authority just computed below the command. -/
theorem State.periodTransition_driveSound {s : State} (h : s.dsc.DriveSound) : s.periodTransition.dsc.DriveSound := by
  simp only [State.periodTransition]
  split
  case h_1 =>
    split
    · exact s.setMotion_driveSound _
    · exact h
  case h_2 | h_3 | h_4 =>
    split
    · exact s.enterHeld_driveSound
    · exact h
  all_goals exact h

/-- The ramp leaves the command within the authority, and at 0 outside RUNNING and STOPPING (R94, R95). -/
theorem State.setCommand_ruled {s : State} (h : braked → s.dsc.DriveSound) : s.setCommand.Ruled braked := by
  by_cases hm : s.dsc.motion = .running ∨ s.dsc.motion = .stopping
  · have hd : s.setCommand.dsc = { s.dsc with
        command := if s.sau.authority < s.dsc.command then s.sau.authority
          else min s.sau.authority (s.dsc.command + rampStep s.cfg.opt.accelLimit) } := if_pos hm
    refine ⟨fun b => ?_, ?_⟩ <;> rw [hd]
    · obtain ⟨hbrake, -⟩ := h b
      exact ⟨hbrake, fun (hb : s.dsc.brakeReleased = false) => absurd (hbrake.mpr hm) (by simp [hb])⟩
    · dsimp only
      split
      · exact Nat.le_refl _
      · exact Nat.min_le_left ..
  · have hd : s.setCommand.dsc = { s.dsc with command := 0 } := if_neg hm
    refine ⟨fun b => ?_, ?_⟩ <;> rw [hd]
    · exact ⟨(h b).1, fun _ => rfl⟩
    · exact Nat.zero_le _

/-- The state of a control period before the RSQ acts (R83). -/
def State.driven (coils : Coils) (s : State) : State :=
  s.measured.computeAuthority.periodTransition.setCommand.guideStep coils

theorem State.controlPeriod_eq (coils : Coils) (s : State) :
    s.controlPeriod coils = (s.driven coils).actOnRelease.afterSlots s.scu := rfl

/-- A new authority may fall below the command within the period, and the ramp of the same period brings the command
back within it, whatever it was before; motion and brake line agree throughout where they agreed before. -/
theorem State.controlPeriod_ruled {s : State} (h : braked → s.dsc.DriveSound) (coils : Coils) :
    (s.controlPeriod coils).Ruled braked := by
  have computed (b : braked) : s.measured.computeAuthority.dsc.DriveSound := by
    rw [show s.measured.computeAuthority.dsc = s.measured.dsc by simp]
    exact (h b).of_drive rfl
  have commanded : s.measured.computeAuthority.periodTransition.setCommand.Ruled braked :=
    State.setCommand_ruled fun b => State.periodTransition_driveSound (computed b)
  have driven : (s.driven coils).Ruled braked :=
    commanded.of_drive (State.guideStep_drive coils _) (by simp [State.driven])
  rw [State.controlPeriod_eq]
  exact driven.actOnRelease.afterSlots _

/-! ### Starts, parking and wakes -/

theorem State.wake_ruled (r : WakeReason) (s : State) : (s.wake r).Ruled braked :=
  State.ruled_of_rest (by simp [State.wake, Dsc.start]) (by simp [State.wake, Dsc.start])
    (by simp [State.wake, Dsc.start])

theorem State.Ruled.awake {s : State} (h : s.Ruled braked) : s.awake.Ruled braked := by
  simp only [State.awake]
  split
  · exact s.wake_ruled _
  · exact h

theorem State.Ruled.loadEnds {s : State} (h : s.Ruled braked) (memory : List Byte) :
    (s.loadEnds memory).Ruled braked := by
  simp only [State.loadEnds]
  split
  · simp only [State.endLoad]
    split
    · exact h.of_drive (by simp [State.ready, Dsc.drive]) (by simp [State.ready])
    · exact State.ruled_of_rest (by simp [State.configFault, Dsc.enter]) (by simp [State.configFault, Dsc.enter])
        (by simp [State.configFault, Dsc.enter])
  · exact h

/-! ### Reception -/

theorem State.Ruled.deliver {s : State} (h : s.Ruled braked) (src : Nat) (b : Body) :
    (s.deliver src b).Ruled braked := by
  have beside {f g : State → State} (hf : ∀ t : State, t.Ruled braked → (f t).Ruled braked)
      (hg : ∀ t : State, t.Ruled braked → (g t).Ruled braked) : (s.inEitherOrder f g).Ruled braked :=
    State.inEitherOrder_keeps (h.of_frame ⟨rfl, rfl⟩) hf hg
  have hear (t : State) (k : t.Ruled braked) : (t.hear src).Ruled braked := k.hear src
  cases b with
  | pos p =>
    simp only [State.deliver, State.deliverPos]
    split
    · exact beside (fun _ k => k.hearPos src p) fun _ k => k.frameLevel ..
    · exact h.hearPos src p
  | stop level code =>
    simp only [State.deliver, State.deliverStop]
    split
    · exact beside hear fun _ k => k.frameLevel ..
    · exact h.hear src
  | resume => exact beside hear fun _ k => k.resume
  | claim x => exact beside hear fun _ k => k.of_frame (by simp)
  | free x => exact beside hear fun _ k => k.of_frame (by simp)
  | cue _ => exact h.hear src
  | cuest c => exact beside hear fun _ k => k.of_frame (by simp)
  | sync time scene => exact beside (fun _ k => k.of_frame (by simp)) fun _ k => k.of_frame (by simp)
  | grant target kind =>
    simp only [State.deliver, State.deliverGrant]
    split
    · exact beside hear fun _ k => k.grant src kind
    · exact h.hear src
  | fix target entry distance =>
    simp only [State.deliver, State.deliverFix]
    split
    · exact beside hear fun _ k => k.relocate entry distance
    · exact h.hear src
  | clear target => exact (h.hear src).of_frame (t := (s.hear src).removePeer target) (by simp)

theorem State.Ruled.deliverForeign {s : State} (h : s.Ruled braked) (src : Nat) (b : Body) :
    (s.deliverForeign src b).Ruled braked := by
  cases b with
  | stop level code =>
    simp only [State.deliverForeign]
    split
    · exact State.inEitherOrder_keeps (h.of_frame ⟨rfl, rfl⟩) (fun _ k => k.hearForeign src) fun _ k => k.frameLevel ..
    · exact h.hearForeign src
  | _ => exact h.hearForeign src

theorem State.Ruled.receive {s : State} (h : s.Ruled braked) (f : Frame) : (s.receive f).Ruled braked := by
  have idle : s.carrierFalls.Ruled braked := h.of_frame (by simp)
  have heard : s.carrierFalls.netHeard.Ruled braked := idle.of_frame (by simp)
  simp only [State.receive, State.examine]
  split
  · split
    · exact State.wake_ruled _ _
    · exact idle
  · split
    · simp only [State.handleFrame]
      apply State.Ruled.afterSlots
      split
      · exact heard.deliver ..
      · exact heard.deliverForeign ..
    · exact idle

theorem State.Ruled.receiveBytes {s : State} (h : s.Ruled braked) (bytes : List Byte) :
    (s.receiveBytes bytes).Ruled braked := by
  simp only [State.receiveBytes]
  split
  · exact h.receive _
  · exact h.of_frame (by simp)

/-! ### The service link -/

theorem State.Ruled.serviceStop {s : State} (h : s.Ruled braked) (on : Bool) : (serviceStop on s).1.Ruled braked := by
  simp only [Machine.serviceStop]
  split
  · exact h
  · split
    · exact h.awake.raise _
    · exact h.awake.withdraw _

theorem State.Ruled.parkCommand {s : State} (h : s.Ruled braked) : (parkCommand s).1.Ruled braked := by
  simp only [Machine.parkCommand]
  split
  · exact s.parkAll_ruled
  · exact h

theorem State.Ruled.testClipCommand {s : State} (h : s.Ruled braked) (clip : Nat) :
    (testClipCommand clip s).1.Ruled braked := by
  simp only [Machine.testClipCommand]
  split
  · exact h
  · split
    · exact h
    · exact h.awake.of_frame (by simp)

theorem State.Ruled.act {s : State} (h : s.Ruled braked) (c : ServiceCommand) : (c.act s).1.Ruled braked := by
  cases c with
  | clearIncidents => exact h.of_frame ⟨rfl, rfl⟩
  | stopOn => exact h.serviceStop true
  | stopOff => exact h.serviceStop false
  | park => exact h.parkCommand
  | restart =>
    simp only [ServiceCommand.act, Machine.restartCommand]
    split
    · exact h
    · exact h.of_frame (by simp)
  | testClip clip => exact h.testClipCommand clip
  | _ => exact h

theorem State.Ruled.actLine {s : State} (h : s.Ruled braked) (line : String) : (actLine line s).1.Ruled braked := by
  simp only [Machine.actLine]
  split
  · exact h.act _
  · exact h

theorem State.Ruled.replySent {s : State} (h : s.Ruled braked) : s.replySent.Ruled braked := by
  simp only [State.replySent]
  split
  · split
    · exact State.ruled_of_start rfl
    · exact h.of_frame (by simp)
  · exact h

/-! ### Every command -/

theorem State.Ruled.serve {s : State} (h : s.Ruled braked) (act : State → State × Reply) (k : (act s).1.Ruled braked) :
    (s.serve act).Ruled braked := by
  simp only [State.serve]
  split
  · exact k.of_frame (by simp)
  · exact h

theorem State.Ruled.ifPowered {s : State} (h : s.Ruled braked) {act : State → State} (k : (act s).Ruled braked) :
    (s.ifPowered act).Ruled braked := by
  simp only [State.ifPowered]
  split
  · exact k
  · exact h

theorem State.Ruled.onExpiry {s : State} (h : s.Ruled braked) (dt : Nat) (x : Timer) {act : State → State}
    (k : ∀ u : State, u.Ruled braked → (act u).Ruled braked) : (s.onExpiry dt x act).Ruled braked := by
  have now (n : Nat) : (s.setNow n).Ruled braked := h.of_frame ⟨rfl, rfl⟩
  simp only [State.onExpiry]
  split
  · exact k _ (now _)
  · exact now _

theorem State.Ruled.seatSample {s : State} (h : s.Ruled braked) (raw : List SeatInput) :
    (s.seatSample raw).Ruled braked := by
  have sampled : (s.sampled raw).Ruled braked := h.of_frame (by simp)
  simp only [State.seatSample]
  split
  · split
    · exact sampled
    · exact State.wake_ruled _ _
  · exact sampled.seatChanges _

theorem State.Ruled.exec {s t : State} (h : s.Ruled braked) (c : Instr) (hc : exec c s = .next t) : t.Ruled braked := by
  have e (dt : Nat) : (s.elapse dt).Ruled braked := h.of_frame ⟨rfl, rfl⟩
  have frame (dt : Nat) (x : Timer) {act : State → State}
      (hf : ∀ u : State, (act u).dsc = u.dsc ∧ (act u).sau = u.sau) :
      (s.onExpiry dt x act).Ruled braked := h.onExpiry dt x fun u k => k.of_frame (hf u)
  have slots (dt : Nat) (x : Timer) {act : State → State}
      (hf : ∀ u : State, (act u).dsc = u.dsc ∧ (act u).sau = u.sau) :
      (s.onExpiry dt x fun u => (act u).afterSlots u.scu).Ruled braked :=
    h.onExpiry dt x fun u k => (k.of_frame (hf u)).afterSlots _
  cases c <;> cases hc
  case powerOn => exact State.ruled_of_start rfl
  case resetInput dt => exact (e dt).ifPowered (State.ruled_of_start rfl)
  case loadEnd dt memory => exact (e dt).loadEnds memory
  case powerLoss => exact State.ruled_of_start rfl
  case candidateDiscarded dt bytes => exact (e dt).receiveBytes bytes
  case carrierBusy dt => exact (e dt).ifPowered ((e dt).of_frame (by simp))
  case frameTransmit dt => exact h.of_frame (by simp)
  case posPeriodTimerExpiry dt => exact frame dt _ fun u => by simp
  case netSilenceTimerExpiry dt =>
    exact h.onExpiry dt _ fun u k => (k.of_frame (t := u.setNi { u.ni with silence := none }) ⟨rfl, rfl⟩).raise _
  case staleTime dt station => exact slots dt _ fun u => by simp
  case dropTime dt station => exact slots dt _ fun u => by simp
  case claimWindowExpiry dt k => exact slots dt _ fun u => by simp
  case odometerPulse dt =>
    show (if (s.elapse dt).active then (s.elapse dt).pulse else s.elapse dt).Ruled braked
    split
    · exact (e dt).pulse
    · exact e dt
  case markerRead dt id => exact (e dt).markerHeard id
  case dwellTimerExpiry dt => exact h.onExpiry dt _ fun u k => ((k.setRsq _).actOnRelease).afterSlots _
  case controlPeriodExpiry dt coils => exact h.onExpiry dt _ fun u k => State.controlPeriod_ruled k.sound coils
  case sampleTimerExpiry dt raw => exact h.onExpiry dt _ fun u k => k.seatSample raw
  case confirmTimerExpiry dt seat => exact h.onExpiry dt _ fun u k => k.confirmed _
  case contradictionTimerExpiry dt seat => exact h.onExpiry dt _ fun u k => k.contradicted _
  case pendingTimerExpiry dt => exact frame dt _ fun u => by simp
  case cueTimeout dt ref => exact frame dt _ fun u => by simp
  case lateWindowExpiry dt ref => exact frame dt _ fun u => by simp
  case referenceSilent dt => exact frame dt _ fun u => by simp
  case samplePeriod dt => exact (e dt).of_frame (by simp)
  case transferCompletion dt samples => exact (e dt).ifPowered ((e dt).of_frame (by simp))
  case clearIncidents dt => exact (e dt).serve _ ((e dt).act .clearIncidents)
  case serviceStopOn dt => exact (e dt).serve _ ((e dt).serviceStop true)
  case serviceStopOff dt => exact (e dt).serve _ ((e dt).serviceStop false)
  case park dt => exact (e dt).serve _ (e dt).parkCommand
  case restart dt => exact (e dt).serve _ ((e dt).act .restart)
  case testClip dt clip => exact (e dt).serve _ ((e dt).testClipCommand clip)
  case unknownCommand dt line => exact (e dt).serve _ ((e dt).actLine line)
  case serviceReplySent dt => exact (e dt).replySent
  case status dt | readRoute dt | readPeers dt | readSeats dt | readScenes dt | readVoices dt | readClock dt
    | readIncidents dt => exact (e dt).serve _ (e dt)
  case posFrame dt _ _ | stopFrame dt _ _ _ | resumeFrame dt _ | claimFrame dt _ _ | freeFrame dt _ _
    | cueFrame dt _ _ | cuestFrame dt _ _ | syncFrame dt _ _ _ | grantUnlock dt _ _ | grantLock dt _ _
    | grantDispatch dt _ _ | grantPark dt _ _ | grantWake dt _ _ | fixFrame dt _ _ _ _ | clearFrame dt _ _ =>
    exact (e dt).receive _

end Sys2Proof.Machine

open Sys2Proof.Machine in
/-- Settles O52: every entering of a motion state sets brake line and command together, every lowered authority lowers
the command, and a computed one is followed by the ramp of its own period. -/
theorem driveStaysSafe : Obligations.DriveStaysSafe := fun s t h hst =>
  t.driveSafe_iff_ruled.mpr <| step_keeps (P := State.Ruled True) (fun _ _ k => k.of_frame ⟨rfl, rfl⟩)
    (fun c _ _ k hc => k.exec c hc) (s.driveSafe_iff_ruled.mp h) hst

namespace Sys2Proof.Machine

/-! ### The reset state, and loads that fail -/

/-- A load that ends leaves what its image gives, and outside a load the event does nothing (R194; log entry 52). -/
theorem exec_loadEnd (dt : Nat) (memory : List Byte) (s : State) : exec (.loadEnd dt memory) s =
    .next (if s.powered ∧ s.cfs.load = .loading then (s.elapse dt).endLoad memory else s.elapse dt) := rfl

theorem State.endLoad_of_error {memory : List Byte} {code : FaultCode} {item : FaultItem}
    (h : loadImage memory = .error (code, item)) (s : State) : s.endLoad memory = s.configFault code item := by
  simp only [State.endLoad, h]

end Sys2Proof.Machine

open Sys2Proof.Machine in
/-- Settles O8: a failed load ends in `configFault`, and outside a load the event passes its time. -/
theorem loadEndsInConfigFault : Obligations.LoadEndsInConfigFault := by
  unfold Obligations.LoadEndsInConfigFault
  refine ⟨fun dt memory code item s hp hl he => ?fault, fun dt memory s hl => ?outside⟩
  case fault =>
    rw [exec_loadEnd, if_pos ⟨hp, hl⟩, State.endLoad_of_error he]
    rfl
  case outside =>
    rw [exec_loadEnd, if_neg fun h => hl h.2]
    rfl

open Sys2Proof.Machine in
/-- Settles O4: at reset nothing acts, no timer runs, every table is empty, and no configuration is in force. -/
theorem resetMeetsTheInvariants : Obligations.ResetMeetsTheInvariants := by
  obtain ⟨position, dwell, life⟩ : State.reset.Agreed := State.agreed_of_start rfl rfl rfl rfl
  obtain ⟨authority, stops, -⟩ : State.reset.Licensed := State.licensed_of_start rfl rfl rfl rfl rfl rfl
  have release : State.reset.ReleaseSafe := by simp [State.ReleaseSafe, State.reset, Rm.start]
  have peers : State.reset.PeersSound := by simp [State.PeersSound, State.reset]
  have queue : State.reset.QueueSound := by simp [State.QueueSound, State.reset, Ni.start]
  have slots : State.reset.SlotsSound := by simp [State.SlotsSound, State.reset, Scu.start, Slot.free]
  have tracker : State.reset.TrackerSound := by simp [State.TrackerSound, State.reset, Scu.start]
  have voices : State.reset.VoicesSound := by simp [State.VoicesSound, State.reset, Spe.start, Voice.start]
  have config : State.reset.ConfigSound := nofun
  exact ⟨State.reset.driveSafe_iff_ruled.mpr (State.ruled_of_start rfl), authority, position, release, stops, peers, queue,
    slots, tracker, voices, config, life, dwell⟩

namespace Sys2Proof.Machine

/-! ### The latch at a RESUME (R185) -/

/-- The STC after a RESUME: the latched causes are gone, and the latch stands at the level left (R185). -/
def Stc.resumed (station : Nat) (c : Stc) : Stc :=
  let left : Stc := { c with causes := c.causes.filter fun x => !x.latched }
  { left with latch := left.asserted, first := left.firstAfter station left.asserted }

/-- An asserted level above 0 is the level of an active cause (R181). -/
theorem Stc.exists_of_asserted {c : Stc} (h : c.asserted ≠ 0) : ∃ x ∈ c.causes, x.level = c.asserted := by
  have attained (l : List Cause) (hl : l.foldr (fun x m => max x.level m) 0 ≠ 0) :
      ∃ x ∈ l, x.level = l.foldr (fun x m => max x.level m) 0 := by
    induction l with
    | nil => exact absurd rfl hl
    | cons y ys ih =>
      rw [List.foldr_cons] at hl ⊢
      rcases Nat.le_total (ys.foldr (fun x m => max x.level m) 0) y.level with hle | hle
      · exact ⟨y, List.mem_cons_self, (Nat.max_eq_left hle).symm⟩
      · rw [Nat.max_eq_right hle] at hl ⊢
        obtain ⟨x, hx, he⟩ := ih hl
        exact ⟨x, List.mem_cons_of_mem _ hx, he⟩
  exact attained c.causes h

/-- Above latch 0 a RESUME leaves a first cause, of the level of the latch (R185). -/
theorem Stc.resumed_first {station : Nat} {c : Stc} (h : (c.resumed station).latch ≠ 0) :
    ∃ x, (c.resumed station).first = some ⟨.local_ x, station⟩
      ∧ (c.resumed station).causes.find? (fun y => y.level = (c.resumed station).latch) = some x := by
  obtain ⟨x, hx, hlevel⟩ := Stc.exists_of_asserted (c := c.resumed station) h
  have found : ((c.resumed station).causes.find? fun y => y.level = (c.resumed station).latch).isSome = true :=
    List.find?_isSome.mpr ⟨x, hx, decide_eq_true hlevel⟩
  obtain ⟨y, hy⟩ := Option.isSome_iff_exists.mp found
  refine ⟨y, ?_, hy⟩
  have hfirst : (c.resumed station).first = ((c.resumed station).causes.find? fun y =>
      y.level = (c.resumed station).latch).map fun x => ⟨.local_ x, station⟩ := if_neg h
  rw [hfirst, hy]
  rfl

/-- The state in which the fall is told: the latch stands at the level left (R185, R186). -/
def State.unlatched (s : State) : State := s.withdrawLatched.setLatch

theorem State.resume_eq (s : State) : s.resume =
    if s.unlatched.stc.latch < s.stc.latch then s.unlatched.notifyFall s.unlatched.stc.latch else s.unlatched := rfl

theorem State.unlatched_stc (s : State) : s.unlatched.stc = s.stc.resumed s.cfg.opt.station := by
  have hcauses : s.withdrawLatched.stc = { s.stc with causes := s.stc.causes.filter fun c => !c.latched } := by
    simp only [State.withdrawLatched]
    split <;> simp
  have hcfg : s.withdrawLatched.cfg = s.cfg := by simp
  simp only [State.unlatched, State.setLatch, State.setStc_stc, hcauses, hcfg]
  rfl

/-! ### The reactions to a fall (R90, R115, R186) -/

/-- The DSC at a fall of the latch to `level`: at 0 STOPPING goes to RUNNING, and BRAKED at rest to HELD (R90). -/
def Dsc.fallen (level : Nat) (d : Dsc) : Dsc :=
  if level = 0 ∧ d.motion = .stopping then d.enter .running
  else if level = 0 ∧ d.motion = .braked ∧ d.speed = 0 then d.enter .held
  else d

theorem State.enterHeld_dsc {s : State} (h : s.stc.latch ≠ 2) : s.enterHeld.dsc = s.dsc.enter .held := by
  have hd : s.enterHeld = (s.setMotion .held).startDwell := if_neg h
  rw [hd]
  simp [State.setMotion_dsc]

/-- The DSC at a fall that has brought the latch to its level. -/
theorem State.driveFall_dsc {s : State} {level : Nat} (h : s.stc.latch = level) :
    (s.driveFall level).dsc = s.dsc.fallen level := by
  have held (h0 : level = 0) : s.enterHeld.dsc = s.dsc.enter .held := State.enterHeld_dsc (by omega)
  cases hm : s.dsc.motion <;> simp only [State.driveFall, Dsc.fallen, hm]
  case stopping => by_cases h0 : level = 0 <;> simp [h0, State.setMotion_dsc]
  case braked => by_cases h0 : level = 0 <;> by_cases hv : s.dsc.speed = 0 <;> simp [h0, hv, held]
  all_goals simp

theorem State.driveFall_rm (level : Nat) (s : State) :
    (s.driveFall level).rm.vehicle = s.rm.vehicle ∧ (s.driveFall level).rm.seats = s.rm.seats := by
  have held : s.enterHeld.rm.vehicle = s.rm.vehicle ∧ s.enterHeld.rm.seats = s.rm.seats := by
    simp only [State.enterHeld]
    split <;> simp [State.setMotion_rm]
  simp only [State.driveFall]
  split
  case h_1 =>
    split
    · exact s.setMotion_rm _
    · exact ⟨rfl, rfl⟩
  case h_2 =>
    split
    · exact held
    · exact ⟨rfl, rfl⟩
  all_goals exact ⟨rfl, rfl⟩

/-- At a fall to `level` the vehicle recovers from ALARM: every fitted seat is LOCKED and the level is 0 (R115). -/
def Rm.Recovers (level : Nat) (m : Rm) : Prop := m.vehicle = .alarm ∧ m.allLocked = true ∧ level = 0

theorem Rm.allLocked_iff (m : Rm) : m.allLocked = true ↔ ∀ k ∈ m.seats, k.state = .notFitted ∨ k.state = .locked := by
  simp [Rm.allLocked, Seat.fitted]

/-- Going from ALARM to SECURE leaves the authority alone (R75). -/
theorem State.alarmTest_recovers {s : State} {level : Nat} (h : s.rm.Recovers level) :
    (s.alarmTest level).rm.vehicle = .secure ∧ (s.alarmTest level).rm.seats = s.rm.seats
      ∧ (s.alarmTest level).spe = s.spe.announcementEnd ∧ (s.alarmTest level).dsc = s.dsc
      ∧ (s.alarmTest level).sau = s.sau := by
  have he : s.alarmTest level = (s.setVehicle .secure).announcementEnd := if_pos h
  have hv : s.rm.vehicle ≠ .secure := by simp [h.1]
  obtain ⟨kv, ks⟩ := s.setVehicle_rm .secure
  rw [he]
  refine ⟨kv, ks, congrArg Spe.announcementEnd (by simp), ?_, ?_⟩ <;>
    simp [State.announcementEnd, State.setVehicle, h.1]

theorem State.alarmTest_of_not_recovers {s : State} {level : Nat} (h : ¬ s.rm.Recovers level) : s.alarmTest level = s :=
  if_neg h

/-- What no block touches at a fall of the latch, where no entry waits at its end (R186). -/
structure State.FallFrame (s t : State) : Prop where
  stc : t.stc = s.stc
  sau : t.sau = s.sau
  ptb : t.ptb = s.ptb
  slots : s.SameSlots t
  place : t.rsq.place = s.rsq.place
  seats : t.rm.seats = s.rm.seats
  rest : t.sck = s.sck ∧ t.cfg = s.cfg ∧ t.cfs = s.cfs ∧ t.now = s.now ∧ t.powered = s.powered

theorem State.FallFrame.trans {s t u : State} (h : s.FallFrame t) (k : t.FallFrame u) : s.FallFrame u := by
  obtain ⟨hstc, hsau, hptb, hslots, hplace, hseats, hsck, hcfg, hcfs, hnow, hpow⟩ := h
  obtain ⟨kstc, ksau, kptb, kslots, kplace, kseats, ksck, kcfg, kcfs, know, kpow⟩ := k
  exact ⟨kstc.trans hstc, ksau.trans hsau, kptb.trans hptb, hslots.trans kslots, kplace.trans hplace,
    kseats.trans hseats, ksck.trans hsck, kcfg.trans hcfg, kcfs.trans hcfs, know.trans hnow, kpow.trans hpow⟩

/-- How far the blocks have acted on the fall of the latch to `level`: the DSC, and the RM with the SPE. -/
structure State.Falling (level : Nat) (drive alarm : Bool) (s t : State) : Prop extends s.FallFrame t where
  dsc : t.dsc = if drive then s.dsc.fallen level else s.dsc
  recovered : alarm = true → s.rm.Recovers level → t.rm.vehicle = .secure ∧ t.spe = s.spe.announcementEnd
  stands : ¬ (alarm = true ∧ s.rm.Recovers level) → t.rm.vehicle = s.rm.vehicle ∧ t.spe = s.spe

section
variable {level : Nat} {s t : State}

/-- The DSC acts, and the RSQ has nothing to leave (R20, R90). -/
theorem State.Falling.drive {alarm : Bool} (h : s.Falling level false alarm t) (hl : s.stc.latch = level)
    (he : s.rsq.atEnd = false) : s.Falling level true alarm (t.driveAfterFall level) := by
  obtain ⟨hf, hdsc, hr, hs⟩ := h
  have hrides := t.driveFall_rides level
  have hend : (t.driveFall level).rsq.atEnd = false :=
    (hrides.atEnd.trans (congrArg Rsq.atEnd hf.place :)).trans he
  obtain ⟨kv, ks⟩ := t.driveFall_rm level
  have hspe : (t.driveFall level).spe = t.spe := by simp
  have ht : t.driveAfterFall level = t.driveFall level := State.actOnRelease_of_not_atEnd hend
  rw [ht]
  refine ⟨hf.trans ⟨by simp, by simp, by simp, State.sameSlots_of_scu (by simp), hrides.place, ks, by simp⟩, ?_, ?_, ?_⟩
  · rw [State.driveFall_dsc (hf.stc.symm ▸ hl), hdsc]
    rfl
  · rw [kv, hspe]; exact hr
  · rw [kv, hspe]; exact hs

/-- The SCU acts on the chain alone (R135, R137). -/
theorem State.Falling.chain {drive alarm : Bool} (h : s.Falling level drive alarm t) :
    s.Falling level drive alarm (t.chainAfterFall level) := by
  obtain ⟨hf, hdsc, hr, hs⟩ := h
  have slots : t.SameSlots (t.chainAfterFall level) := by
    simp only [State.chainAfterFall]
    split
    · exact t.retryChain_sameSlots _
    · exact .refl t
  refine ⟨hf.trans ⟨by simp, by simp, by simp, slots, by simp, by simp, by simp⟩, ?_, ?_, ?_⟩ <;>
    simp only [State.chainAfterFall_frame]
  · exact hdsc
  · exact hr
  · exact hs

/-- The RM tests ALARM, and hands the announcement end where the vehicle recovers (R115, R116). -/
theorem State.Falling.alarm {drive : Bool} (h : s.Falling level drive false t) :
    s.Falling level drive true (t.alarmTest level) := by
  obtain ⟨hf, hdsc, -, hs⟩ := h
  obtain ⟨hvehicle, hspe⟩ := hs fun h => absurd h.1 Bool.false_ne_true
  have hrec : t.rm.Recovers level ↔ s.rm.Recovers level := by
    simp only [Rm.Recovers, Rm.allLocked, hvehicle, hf.seats]
  by_cases hc : t.rm.Recovers level
  · obtain ⟨kv, ks, kspe, kdsc, ksau⟩ := State.alarmTest_recovers hc
    refine ⟨hf.trans ⟨by simp, ksau, by simp, State.sameSlots_of_scu (by simp), by simp, ks, by simp⟩,
      kdsc.trans hdsc, fun _ _ => ⟨kv, kspe.trans (congrArg _ hspe)⟩, fun h => absurd ⟨rfl, hrec.mp hc⟩ h⟩
  · rw [State.alarmTest_of_not_recovers hc]
    exact ⟨hf, hdsc, fun _ h => absurd (hrec.mpr h) hc, fun _ => ⟨hvehicle, hspe⟩⟩

/-- A fall of the latch, whatever the order of the blocks (R186). -/
theorem State.notifyFall_falling (hl : s.stc.latch = level) (he : s.rsq.atEnd = false) :
    s.Falling level true true (s.notifyFall level) := by
  have h0 : s.Falling level false false s.settled :=
    ⟨⟨rfl, rfl, rfl, ⟨rfl, rfl⟩, rfl, rfl, rfl, rfl, rfl, rfl, rfl⟩, rfl, nofun, fun _ => ⟨rfl, rfl⟩⟩
  exact State.inAnyOrder_of (P := s.Falling level true true) _ _ _ _ (h0.drive hl he).chain.alarm
    (h0.drive hl he).alarm.chain (h0.chain.drive hl he).alarm (h0.chain.alarm.drive hl he)
    (h0.alarm.drive hl he).chain (h0.alarm.chain.drive hl he)

end

/-! ### The reception of a RESUME (R33, R185) -/

/-- What a RESUME leaves of everything but the peer table, in the part's own time `dt` later. -/
structure State.Resumed (dt : Nat) (s t : State) : Prop where
  stc : t.stc = s.stc.resumed s.cfg.opt.station
  dsc : t.dsc = if t.stc.latch < s.stc.latch then s.dsc.fallen t.stc.latch else s.dsc
  recovered : t.stc.latch < s.stc.latch → s.rm.Recovers t.stc.latch →
    t.rm.vehicle = .secure ∧ t.spe = s.spe.announcementEnd
  stands : ¬ (t.stc.latch < s.stc.latch ∧ s.rm.Recovers t.stc.latch) → t.rm.vehicle = s.rm.vehicle ∧ t.spe = s.spe
  sau : t.sau = s.sau
  place : t.rsq.place = s.rsq.place
  seats : t.rm.seats = s.rm.seats
  slots : s.SameSlots t
  rest : t.sck = s.sck ∧ t.cfg = s.cfg ∧ t.cfs = s.cfs ∧ t.now = s.now + dt

theorem Dsc.fallen_acts {level : Nat} {d : Dsc} (h : d.motion ≠ .parked ∧ d.motion ≠ .configFault) :
    (d.fallen level).motion ≠ .parked ∧ (d.fallen level).motion ≠ .configFault := by
  simp only [Dsc.fallen]
  split
  · simp [Dsc.enter]
  · split
    · simp [Dsc.enter]
    · exact h

/-- A RESUME leaves an acting part acting, and the peer table as it stands. -/
theorem State.resume_resumed {s : State} (ha : s.active = true) (he : s.rsq.atEnd = false) :
    s.Resumed 0 s.resume ∧ s.resume.ptb = s.ptb ∧ s.resume.active = true := by
  obtain ⟨hp, hload, hacts⟩ := s.active_iff.mp ha
  have hstc := s.unlatched_stc
  have frame : s.unlatched.dsc = s.dsc ∧ s.unlatched.rm = s.rm ∧ s.unlatched.spe = s.spe ∧ s.unlatched.sau = s.sau
      ∧ s.unlatched.rsq = s.rsq ∧ s.unlatched.scu = s.scu ∧ s.unlatched.ptb = s.ptb ∧ s.unlatched.sck = s.sck
      ∧ s.unlatched.cfg = s.cfg ∧ s.unlatched.cfs = s.cfs ∧ s.unlatched.now = s.now
      ∧ s.unlatched.powered = s.powered := by
    simp [State.unlatched]
  rw [State.resume_eq]
  generalize s.unlatched = u at hstc frame ⊢
  obtain ⟨hdsc, hrm, hspe, hsau, hrsq, hscu, hptb, hsck, hcfg, hcfs, hnow, hpow⟩ := frame
  split
  · next hlt =>
    obtain ⟨⟨kstc, ksau, kptb, kslots, kplace, kseats, ksck, kcfg, kcfs, know, kpow⟩, kdsc, krec, kstands⟩ :=
      State.notifyFall_falling (s := u) rfl (hrsq ▸ he)
    generalize u.notifyFall u.stc.latch = t at *
    have hd : t.dsc = s.dsc.fallen t.stc.latch := by rw [kdsc, if_pos rfl, hdsc, kstc]
    rw [hrm, hspe] at krec kstands
    rw [← kstc] at hlt krec kstands
    refine ⟨⟨kstc.trans hstc, hd.trans (if_pos hlt).symm, fun _ => krec rfl,
      fun h => kstands fun k => h ⟨hlt, k.2⟩, ksau.trans hsau, kplace.trans (by rw [hrsq]), kseats.trans (by rw [hrm]),
      (State.sameSlots_of_scu hscu).trans kslots, ksck.trans hsck, kcfg.trans hcfg, kcfs.trans hcfs, know.trans hnow⟩,
      kptb.trans hptb, t.active_iff.mpr ⟨(kpow.trans hpow).trans hp, ?_, ?_⟩⟩
    · rw [kcfs, hcfs]; exact hload
    · rw [hd]; exact Dsc.fallen_acts hacts
  · next hle =>
    refine ⟨⟨hstc, hdsc.trans (if_neg hle).symm, fun h => absurd h hle, fun _ => ⟨by rw [hrm], hspe⟩, hsau,
      by rw [hrsq], by rw [hrm], State.sameSlots_of_scu hscu, hsck, hcfg, hcfs, hnow⟩, hptb,
      u.active_iff.mpr ⟨hpow.trans hp, ?_, ?_⟩⟩
    · rw [hcfs]; exact hload
    · rw [hdsc]; exact hacts

/-- The RESUME acts before or after the hearing of its sender, with the same outcome (R33). -/
theorem State.Receives.resumed {s : State} {h : Header} (hr : s.Receives ⟨h.src, h.sig, .resume⟩)
    (he : s.rsq.atEnd = false) (dt : Nat) :
    s.Resumed dt ((s.elapse dt).receive ⟨h.src, h.sig, .resume⟩)
      ∧ ((s.elapse dt).receive ⟨h.src, h.sig, .resume⟩).ptb = refreshed h.src ((s.now + dt) / 1000) s.ptb := by
  have resumes (table : List Peer) : s.Resumed dt ((s.heardLast dt).setPtb table).resume
      ∧ ((s.heardLast dt).setPtb table).resume.ptb = table ∧ ((s.heardLast dt).setPtb table).resume.active = true := by
    obtain ⟨⟨stc, dsc, recovered, stands, sau, place, seats, slots, rest⟩, hptb, hact⟩ :=
      State.resume_resumed (s := (s.heardLast dt).setPtb table) hr.1 he
    exact ⟨⟨stc, dsc, recovered, stands, sau, place, seats, slots, rest⟩, hptb, hact⟩
  have unchanged {t : State} (ht : s.Resumed dt t) : t.afterSlots s.scu = t := by
    obtain ⟨h1, h2⟩ := ht.slots
    exact State.afterSlots_of_same _ _ (congrArg Slot.state h1).symm (congrArg Slot.state h2).symm
  refine State.receive_beside (P := fun t => s.Resumed dt t ∧ t.ptb = _) State.resume hr rfl ?first ?last
  case first =>
    obtain ⟨hres, hptb, -⟩ := resumes (refreshed h.src ((s.now + dt) / 1000) s.ptb)
    exact ⟨(unchanged hres).symm ▸ hres, (congrArg State.ptb (unchanged hres)).trans hptb⟩
  case last =>
    obtain ⟨hres, hptb, hact⟩ := resumes s.ptb
    have hhear : (s.heardLast dt).resume.hear h.src = _ := hr.hear_last hact hptb
    obtain ⟨stc, dsc, recovered, stands, sau, place, seats, slots, hsck, hcfg, hcfs, hnow⟩ := hres
    have hms : (s.heardLast dt).resume.ms = (s.now + dt) / 1000 := congrArg (· / 1000) hnow
    rw [hms] at hhear
    rw [hhear]
    have hall : s.Resumed dt { (s.heardLast dt).resume with ptb := refreshed h.src ((s.now + dt) / 1000) s.ptb } :=
      ⟨stc, dsc, recovered, stands, sau, place, seats, slots, hsck, hcfg, hcfs, hnow⟩
    exact ⟨(unchanged hall).symm ▸ hall, congrArg State.ptb (unchanged hall)⟩

/-! ### The announcement end (R179) -/

theorem Spe.announcementEnd_v0 (e : Spe) : Voice.AnnouncementEnded e.v0 e.announcementEnd.v0 := by
  cases hc : e.v0.current with
  | none => simp [Spe.announcementEnd, Voice.AnnouncementEnded, hc]
  | some r =>
    by_cases ho : r.origin = .restraint <;> by_cases hp : e.v0.state = .playing <;>
      simp [Spe.announcementEnd, Voice.AnnouncementEnded, Voice.fadeOut, hc, ho, hp]

theorem Spe.announcementEnd_rest (e : Spe) : { e.announcementEnd with v0 := e.v0 } = e := by
  simp only [Spe.announcementEnd]
  split
  · split <;> rfl
  · rfl

end Sys2Proof.Machine

open Sys2Proof.Machine in
/-- Settles O17: the latch is set before any block acts on its fall, the DSC and the RM each act on fields of their own,
and the hearing beside it refreshes the sender's record alone. -/
theorem resumeSetsTheLatchToTheAssertedLevel : Obligations.ResumeSetsTheLatchToTheAssertedLevel := by
  unfold Obligations.ResumeSetsTheLatchToTheAssertedLevel
  intro dt h s hr he
  obtain ⟨⟨hstc, hdsc, hrecovered, hstands, hsau, hplace, hseats, ⟨h1, h2⟩, hsck, hcfg, hcfs, hnow⟩, hptb⟩ :=
    hr.resumed he dt
  refine ⟨_, rfl, ?_⟩
  generalize (s.elapse dt).receive ⟨h.src, h.sig, .resume⟩ = t at *
  have hentry : t.rsq.entry = s.rsq.entry := (congrArg Rsq.entry hplace :)
  have hdistance : t.rsq.distance = s.rsq.distance := (congrArg Rsq.distance hplace :)
  refine ⟨by rw [hstc]; rfl, by rw [hstc]; rfl, by rw [hstc]; rfl, by rw [hstc]; rfl, fun h0 => ?none, fun hn => ?first,
    fun hlt h0 hm hv => ?held, fun hlt h0 hm => ?running, fun hlt hn => ?above, fun hlt h0 hv hlocked => ?secure,
    fun hno => hstands ?stands, hsau, hptb, hentry, hdistance, hseats, h1, h2, hsck, hcfg, hcfs, hnow⟩
  case none =>
    rw [hstc] at h0 ⊢
    exact if_pos h0
  case first =>
    rw [hstc] at hn ⊢
    exact Stc.resumed_first hn
  case held =>
    rw [hdsc, if_pos hlt, h0]
    simp [Dsc.fallen, Dsc.enter, hm, hv]
  case running =>
    rw [hdsc, if_pos hlt, h0]
    simp [Dsc.fallen, Dsc.enter, hm]
  case above =>
    rw [hdsc, if_pos hlt]
    simp [Dsc.fallen, hn]
  case secure =>
    obtain ⟨kv, kspe⟩ := hrecovered hlt ⟨hv, s.rm.allLocked_iff.mpr hlocked, h0⟩
    rw [kspe]
    exact ⟨kv, s.spe.announcementEnd_v0, s.spe.announcementEnd_rest⟩
  case stands =>
    rintro ⟨hlt, hv, hlocked, h0⟩
    rcases hno with hno | hno | hno | ⟨k, hk, hfit, hopen⟩
    · omega
    · exact hno h0
    · exact hno hv
    · exact (s.rm.allLocked_iff.mp hlocked k hk).elim hfit hopen

namespace Sys2Proof.Machine

/-! ### The steering command (R99) -/

theorem natAbs_moveToward_sub_le (rate : Nat) (previous target : Int) :
    (moveToward rate previous target - previous).natAbs ≤ rate := by
  simp only [moveToward]
  split
  · omega
  · split <;> omega

/-- Between a command within ±`m` and a clamped target the command stays within ±`m`. -/
theorem natAbs_moveToward_clampTo_le {m : Nat} {previous : Int} (h : previous.natAbs ≤ m) (rate : Nat) (x : Int) :
    (moveToward rate previous (clampTo m x)).natAbs ≤ m := by
  have hc : -(m : Int) ≤ clampTo m x ∧ clampTo m x ≤ m := by
    simp only [clampTo]
    omega
  simp only [moveToward]
  split
  · omega
  · split <;> omega

/-! ### Sensing and steering of one expiry (R97 to R101) -/

/-- The DSC after the sample and the steering of an expiry, with the feedforward in force. -/
def Dsc.guided (opt : Options) (coils : Coils) (feedforward : Int) (d : Dsc) : Dsc :=
  ({ d with feedforward := feedforward }.sense opt coils).steer opt

section
variable (opt : Options) (coils : Coils) (feedforward : Int) {d : Dsc}

/-- Without a channel the target is the feedforward (R98, R100). -/
theorem Dsc.guided_unguided (h : d.channel = none) : d.guided opt coils feedforward = { d with
    feedforward := feedforward, guide := .unguided, offset := none
    steering := moveToward opt.steerRate d.steering (clampTo opt.steerMax feedforward) } := by
  simp [Dsc.guided, Dsc.sense, Dsc.steer, Dsc.steeringTarget, h]

/-- Over the wire the offset is added to the feedforward (R98 to R100). -/
theorem Dsc.guided_onWire {n : Nat} (h : d.channel = some n)
    (hc : opt.guideFloor ≤ (Coils.on coils n).left + (Coils.on coils n).right) :
    d.guided opt coils feedforward = { d with
      feedforward := feedforward, guide := .onWire, coils := some (Coils.on coils n)
      offset := some (guideOffset opt.guideSpan (Coils.on coils n))
      steering := moveToward opt.steerRate d.steering (clampTo opt.steerMax
        (feedforward + ((d.gain : Int) * guideOffset opt.guideSpan (Coils.on coils n)).tdiv 16)) } := by
  simp [Dsc.guided, Dsc.sense, Dsc.steer, Dsc.steeringTarget, h, Nat.not_lt.mpr hc]

/-- In a loss HOLD keeps the command (R101). -/
theorem Dsc.guided_hold {n : Nat} (h : d.channel = some n)
    (hc : (Coils.on coils n).left + (Coils.on coils n).right < opt.guideFloor) (hm : d.lossMode = .hold) :
    d.guided opt coils feedforward = { d with
      feedforward := feedforward, guide := .offWire, offset := none, coils := some (Coils.on coils n) } := by
  simp [Dsc.guided, Dsc.sense, Dsc.steer, Dsc.steeringTarget, h, hc, hm]

/-- In a loss CENTER takes the feedforward (R101). -/
theorem Dsc.guided_center {n : Nat} (h : d.channel = some n)
    (hc : (Coils.on coils n).left + (Coils.on coils n).right < opt.guideFloor) (hm : d.lossMode = .center) :
    d.guided opt coils feedforward = { d with
      feedforward := feedforward, guide := .offWire, offset := none, coils := some (Coils.on coils n)
      steering := moveToward opt.steerRate d.steering (clampTo opt.steerMax feedforward) } := by
  simp [Dsc.guided, Dsc.sense, Dsc.steer, Dsc.steeringTarget, h, hc, hm]

/-- Of the DSC an expiry changes feedforward, guide state, sample and steering command alone. -/
theorem Dsc.guided_eq (d : Dsc) : d.guided opt coils feedforward = { d with
    feedforward := feedforward
    guide := (d.guided opt coils feedforward).guide
    offset := (d.guided opt coils feedforward).offset
    coils := (d.guided opt coils feedforward).coils
    steering := (d.guided opt coils feedforward).steering } := by
  simp only [Dsc.guided, Dsc.sense, Dsc.steer]
  (repeat' split) <;> rfl

/-- Sensing and steering leave timer, counts and speed, and the feedforward in force. -/
theorem Dsc.guided_kept (d : Dsc) : (d.guided opt coils feedforward).timer = d.timer
    ∧ (d.guided opt coils feedforward).pulses = d.pulses ∧ (d.guided opt coils feedforward).history = d.history
    ∧ (d.guided opt coils feedforward).speed = d.speed
    ∧ (d.guided opt coils feedforward).feedforward = feedforward := by
  rw [Dsc.guided_eq]
  exact ⟨rfl, rfl, rfl, rfl, rfl⟩

/-- The steering command stays, or moves toward a clamped target (R99, R101). -/
theorem Dsc.guided_moves (d : Dsc) : (d.guided opt coils feedforward).steering = d.steering
    ∨ ∃ x, (d.guided opt coils feedforward).steering = moveToward opt.steerRate d.steering (clampTo opt.steerMax x) := by
  have sensed : ({ d with feedforward := feedforward }.sense opt coils).steering = d.steering := by
    simp only [Dsc.sense]
    split
    · rfl
    · split <;> rfl
  simp only [Dsc.guided, Dsc.steer]
  generalize { d with feedforward := feedforward }.sense opt coils = e at sensed ⊢
  split
  · exact .inl sensed
  · next x _ => exact .inr ⟨x, by rw [sensed]⟩

/-- The steering command moves by at most the rate, and stays within the greatest angle (R99). -/
theorem Dsc.guided_steering (d : Dsc) :
    ((d.guided opt coils feedforward).steering - d.steering).natAbs ≤ opt.steerRate
      ∧ (d.steering.natAbs ≤ opt.steerMax → (d.guided opt coils feedforward).steering.natAbs ≤ opt.steerMax) := by
  rcases d.guided_moves opt coils feedforward with h | ⟨x, h⟩ <;> rw [h]
  · exact ⟨by simp, id⟩
  · exact ⟨natAbs_moveToward_sub_le .., fun hd => natAbs_moveToward_clampTo_le hd ..⟩

end

/-- The feedforward in force (R97; in LOST the one last read, log entry 45). -/
def State.feedforwardNow (s : State) : Int := if s.rsq.known = true then s.entry.feedforward else s.dsc.feedforward

theorem State.guideStep_eq (coils : Coils) (s : State) : s.guideStep coils =
    (s.setDsc (s.dsc.guided s.cfg.opt coils s.feedforwardNow)).regain s.dsc.guide := by
  have hread : s.readFeedforward = s.setDsc { s.dsc with feedforward := s.feedforwardNow } := by
    simp only [State.readFeedforward, State.feedforwardNow]
    split <;> rfl
  rw [State.guideStep, hread]
  rfl

/-- The guide leaves OFF-WIRE between two samples (R102). -/
def GuideState.Regains (before after : GuideState) : Prop := before = .offWire ∧ after ≠ .offWire

theorem State.regain_of {s : State} {before : GuideState} (h : before.Regains s.dsc.guide) :
    s.regain before = (s.setDsc { s.dsc with loss := 0 }).withdraw .guide := if_pos h

theorem State.regain_of_not {s : State} {before : GuideState} (h : ¬ before.Regains s.dsc.guide) :
    s.regain before = s := if_neg h

/-- A guide that has left OFF-WIRE clears the loss counter and withdraws GUIDE, and no other does (R102). -/
theorem State.regain_loss {s : State} (ha : s.active = true) (before : GuideState) :
    (∃ n, (s.regain before).dsc = { s.dsc with loss := n }
      ∧ (before.Regains s.dsc.guide → n = 0) ∧ (¬ before.Regains s.dsc.guide → n = s.dsc.loss))
      ∧ (.guide ∈ (s.regain before).stc.causes ↔ .guide ∈ s.stc.causes ∧ ¬ before.Regains s.dsc.guide) := by
  by_cases h : before.Regains s.dsc.guide
  · have hact : (s.setDsc { s.dsc with loss := 0 }).active = true := ha
    rw [State.regain_of h]
    refine ⟨⟨0, by simp, fun _ => rfl, fun hn => absurd h hn⟩, ?_⟩
    rw [State.withdraw_stc, if_pos hact]
    simp [h]
  · rw [State.regain_of_not h]
    exact ⟨⟨s.dsc.loss, rfl, fun hr => absurd hr h, fun _ => rfl⟩, by simp [h]⟩

/-! ### What the sequencer's acts leave of command and GUIDE -/

/-- The command is not raised, and GUIDE is neither raised nor withdrawn. -/
structure State.Spares (s t : State) : Prop where
  command : t.dsc.command ≤ s.dsc.command
  guide : .guide ∈ t.stc.causes ↔ .guide ∈ s.stc.causes

theorem State.Spares.refl (s : State) : s.Spares s := ⟨Nat.le_refl _, Iff.rfl⟩

theorem State.Spares.trans {s t u : State} (h : s.Spares t) (k : t.Spares u) : s.Spares u :=
  ⟨k.command.trans h.command, k.guide.trans h.guide⟩

theorem State.raise_spares {c : Cause} (hc : c ≠ .guide) (s : State) : s.Spares (s.raise c) :=
  ⟨(s.raise_damps c).command, by simp [State.mem_raise, hc.symm]⟩

theorem State.setRsq_spares (r : Rsq) (s : State) : s.Spares (s.setRsq r) := ⟨Nat.le_refl _, Iff.rfl⟩

theorem State.advance_spares (passed inTime : Bool) (carry : Nat) (s : State) :
    s.Spares (s.advance passed inTime carry) := by
  have left : s.Spares (s.leaving passed inTime) := by
    refine State.Spares.trans (t := if passed then s.raise .overrun else s) ?_ (State.setRsq_spares _ _)
    split
    · exact State.raise_spares (by decide) s
    · exact .refl s
  rw [State.advance_eq]
  exact left.trans ⟨State.enterEntry_command .., (State.enterEntry_stops ..).2 .guide (by decide) (by decide)⟩

theorem State.positionFault_spares (s : State) : s.Spares s.positionFault := by
  have lost : s.Spares s.lostPosition :=
    ⟨by simp [State.lostPosition, State.setMotion_dsc, Dsc.enter], by simp [State.lostPosition]⟩
  exact lost.trans (State.raise_spares (by decide) _)

theorem State.runEnds_spares (n : Nat) (s : State) : s.Spares (s.runEnds n) := by
  induction n generalizing s with
  | zero => exact .refl s
  | succ n ih =>
    simp only [State.runEnds]
    split
    · exact .refl s
    · exact s.setRsq_spares _
    · exact s.positionFault_spares
    · exact (s.advance_spares ..).trans (ih _)

theorem State.actOnRelease_spares (s : State) : s.Spares s.actOnRelease := by
  simp only [State.actOnRelease, State.settleEnds]
  split
  · split
    · exact s.runEnds_spares _
    · exact .refl s
  · exact .refl s

theorem State.afterSlots_spares (u : Scu) (s : State) : s.Spares (s.afterSlots u) := by
  simp only [State.afterSlots]
  split
  · exact State.Spares.trans ⟨by simp, by simp⟩ (State.actOnRelease_spares s.sceneTest)
  · exact .refl s

theorem State.actOnRelease_counts (s : State) : s.Counts s.actOnRelease := by
  simp only [State.actOnRelease]
  split
  · exact s.settleEnds_counts
  · exact .refl s

/-! ### The control period (R83) -/

/-- The state of a control period before the guide is sampled: speed measured, command set (R83). -/
def State.commanded (s : State) : State := s.measured.computeAuthority.periodTransition.setCommand

theorem State.driven_eq (coils : Coils) (s : State) : s.driven coils = s.commanded.guideStep coils := rfl

theorem State.periodTransition_command (s : State) : s.periodTransition.dsc.command ≤ s.dsc.command := by
  have entered (m : Motion) : (s.setMotion m).dsc.command ≤ s.dsc.command := by
    rw [State.setMotion_dsc]
    exact Dsc.enter_command_le ..
  simp only [State.periodTransition]
  split
  case h_1 =>
    split
    · exact entered _
    · exact Nat.le_refl _
  case h_2 | h_3 | h_4 =>
    split
    · simp [State.enterHeld_dsc_command]
    · exact Nat.le_refl _
  all_goals exact Nat.le_refl _

/-- The ramp raises the command by at most its step (R94). -/
theorem Dsc.ramp_command_le (authority step : Nat) (d : Dsc) : (d.ramp authority step).command ≤ d.command + step := by
  simp only [Dsc.ramp]
  split
  · dsimp only
    split <;> omega
  · exact Nat.zero_le _

theorem Dsc.ramp_gauges (authority step : Nat) (d : Dsc) : (d.ramp authority step).gauges = d.gauges := by
  simp only [Dsc.ramp]
  split <;> rfl

/-- After the closing of the count nothing before the guide's sample moves the vehicle or its measured values. -/
theorem State.commanded_rides (s : State) : s.measured.Rides s.commanded := by
  have computed : s.measured.SameRide s.measured.computeAuthority := State.sameRide_of_frame (by simp)
  have ramped (u : State) : u.SameRide u.setCommand := by
    have hm := Dsc.ramp_motion u.sau.authority (rampStep u.cfg.opt.accelLimit) u.dsc
    exact ⟨rfl, rfl, rfl, hm.1, Dsc.ramp_gauges .., rfl, rfl⟩
  exact (computed.rides.trans (State.periodTransition_rides _)).trans (ramped _).rides

/-- The command rises by at most one ramp step (R94). -/
theorem State.commanded_command (s : State) :
    s.commanded.dsc.command ≤ s.dsc.command + rampStep s.cfg.opt.accelLimit := by
  generalize hu : s.measured.computeAuthority.periodTransition = u
  have hle : u.dsc.command ≤ s.dsc.command := by
    have hd : s.measured.computeAuthority.dsc = s.measured.dsc := by simp
    rw [← hu]
    exact (State.periodTransition_command _).trans (congrArg Dsc.command hd).le
  have hcfg : u.cfg = s.cfg := by
    subst hu
    simp [State.measured]
  have hramp : s.commanded.dsc.command ≤ u.dsc.command + rampStep u.cfg.opt.accelLimit := by
    rw [State.commanded, hu]
    exact Dsc.ramp_command_le ..
  rw [hcfg] at hramp
  omega

/-- Nothing before the guide's sample raises a cause, and the removal of a record withdraws FOREIGN at most (R61). -/
theorem State.commanded_eases (s : State) : s.Eases s.commanded := by
  have computed : s.Eases s.measured.computeAuthority :=
    State.Eases.trans (t := s.measured.setSau s.measured.computedSau) (State.eases_of_stc rfl) (State.pin_eases ..)
  exact computed.trans (State.eases_of_stc (by simp [State.commanded]))

/-- A control period leaves of the measured values, of the guide and of steering what the sample of the commanded state
leaves; GUIDE is withdrawn where the guide leaves OFF-WIRE, and otherwise stands as it did (R83, R102). -/
theorem State.controlPeriod_guided {s : State} (ha : s.active = true) (coils : Coils) :
    ∃ d n, d = s.commanded.dsc.guided s.cfg.opt coils s.feedforwardNow
      ∧ (s.controlPeriod coils).dsc.measures = { d with loss := n }.measures
      ∧ (s.dsc.guide.Regains d.guide → n = 0) ∧ (¬ s.dsc.guide.Regains d.guide → n = s.dsc.loss)
      ∧ (.guide ∈ (s.controlPeriod coils).stc.causes ↔ .guide ∈ s.stc.causes ∧ ¬ s.dsc.guide.Regains d.guide)
      ∧ (s.controlPeriod coils).dsc.command ≤ s.commanded.dsc.command := by
  have hrides := s.commanded_rides
  have hguide : s.commanded.dsc.guide = s.dsc.guide := (congrArg Dsc.guide hrides.gauges :)
  have hloss : s.commanded.dsc.loss = s.dsc.loss := (congrArg Dsc.loss hrides.gauges :)
  have hff : s.commanded.dsc.feedforward = s.dsc.feedforward := (congrArg Dsc.feedforward hrides.gauges :)
  have hcfg : s.commanded.cfg = s.cfg := hrides.cfg
  have hnow : s.commanded.feedforwardNow = s.feedforwardNow := by
    rw [State.feedforwardNow, hrides.known, hrides.entry, hff]
    rfl
  have hdriven : s.driven coils = (s.commanded.setDsc
      (s.commanded.dsc.guided s.cfg.opt coils s.feedforwardNow)).regain s.dsc.guide := by
    rw [State.driven_eq, State.guideStep_eq, hcfg, hnow, hguide]
  generalize hd : s.commanded.dsc.guided s.cfg.opt coils s.feedforwardNow = d at hdriven
  have hkept : d.loss = s.dsc.loss := by
    rw [← hd, Dsc.guided_eq]
    exact hloss
  have hact : (s.commanded.setDsc d).active = true := by
    refine State.active_of_ride (hrides.active ha) rfl rfl ?_
    rw [← hd, State.setDsc_dsc, Dsc.guided_eq]
  obtain ⟨⟨n, hn, h0, hs⟩, hcause⟩ := State.regain_loss hact s.dsc.guide
  rw [← hdriven] at hn hcause
  have tail := (State.actOnRelease_spares (s.driven coils)).trans (State.afterSlots_spares s.scu _)
  have counts := (State.actOnRelease_counts (s.driven coils)).trans (State.afterSlots_counts s.scu _)
  refine ⟨d, n, rfl, counts.measures.trans (congrArg Dsc.measures hn), h0, fun h => (hs h).trans hkept, ?_, ?_⟩
  · exact tail.guide.trans (hcause.trans (and_congr_left' (s.commanded_eases.2 .guide (by decide))))
  · refine tail.command.trans (Eq.le ?_)
    rw [State.driven_eq]
    exact congrArg (·.2.1) (State.guideStep_drive coils s.commanded)

theorem exec_controlPeriodExpiry {s : State} {d : Nat} (h : s.dsc.timer = some d) (dt : Nat) (coils : Coils) :
    exec (.controlPeriodExpiry dt coils) s = .next ((s.elapseTo dt (d * 1000)).controlPeriod coils) := by
  show Host.Outcome.next (s.onExpiry dt s.dsc.timer (State.controlPeriod coils)) = _
  rw [h]
  rfl

end Sys2Proof.Machine

namespace Sys2Proof.Machine

/-! ### What a control period leaves (R83) -/

theorem Dsc.fields_of_gauges {d e : Dsc} (h : e.gauges = d.gauges) : e.timer = d.timer ∧ e.pulses = d.pulses
    ∧ e.history = d.history ∧ e.speed = d.speed ∧ e.channel = d.channel ∧ e.gain = d.gain ∧ e.lossMode = d.lossMode
    ∧ e.coils = d.coils ∧ e.steering = d.steering := by
  simp only [Dsc.gauges, Dsc.mk.injEq] at h
  tauto

theorem Dsc.sampled_of_measures {d e : Dsc} (h : d.measures = e.measures) : d.timer = e.timer
    ∧ d.feedforward = e.feedforward ∧ d.guide = e.guide ∧ d.offset = e.offset ∧ d.coils = e.coils := by
  simp only [Dsc.measures, Dsc.gauges, Dsc.mk.injEq] at h
  tauto

/-- The steering command that an expiry sets for a target (R99). -/
def State.steered (x : Int) (s : State) : Int :=
  moveToward s.cfg.opt.steerRate s.dsc.steering (clampTo s.cfg.opt.steerMax x)

/-- The guide state, the sample and the steering command that an expiry leaves (R98 to R101). -/
structure State.SteersTo (coils : Coils) (s t : State) : Prop where
  unguided : s.dsc.channel = none → t.dsc.guide = .unguided ∧ t.dsc.offset = none ∧ t.dsc.coils = s.dsc.coils
    ∧ t.dsc.steering = s.steered s.feedforwardNow
  sample : ∀ n, s.dsc.channel = some n → t.dsc.coils = some (Coils.on coils n)
  offWire : ∀ n, s.dsc.channel = some n →
    (Coils.on coils n).left + (Coils.on coils n).right < s.cfg.opt.guideFloor →
    t.dsc.guide = .offWire ∧ t.dsc.offset = none ∧ (s.dsc.lossMode = .hold → t.dsc.steering = s.dsc.steering)
      ∧ (s.dsc.lossMode = .center → t.dsc.steering = s.steered s.feedforwardNow)
  onWire : ∀ n, s.dsc.channel = some n →
    s.cfg.opt.guideFloor ≤ (Coils.on coils n).left + (Coils.on coils n).right →
    t.dsc.guide = .onWire ∧ t.dsc.offset = some (guideOffset s.cfg.opt.guideSpan (Coils.on coils n))
      ∧ t.dsc.steering = s.steered (s.feedforwardNow
        + ((s.dsc.gain : Int) * guideOffset s.cfg.opt.guideSpan (Coils.on coils n)).tdiv 16)

/-- What a control period leaves of the DSC, of the authority it answers to and of GUIDE (R83). -/
structure State.PeriodTo (coils : Coils) (s t : State) : Prop extends s.SteersTo coils t where
  timer : t.dsc.timer = some (s.ms + 10)
  pulses : t.dsc.pulses = 0
  history : t.dsc.history = (s.dsc.pulses :: s.dsc.history).take 4
  speed : t.dsc.speed = measuredSpeed s.cfg.opt.odometer ((s.dsc.pulses :: s.dsc.history).take 4)
  rate : (t.dsc.steering - s.dsc.steering).natAbs ≤ s.cfg.opt.steerRate
  angle : s.dsc.steering.natAbs ≤ s.cfg.opt.steerMax → t.dsc.steering.natAbs ≤ s.cfg.opt.steerMax
  ramp : t.dsc.command ≤ s.dsc.command + rampStep s.cfg.opt.accelLimit
  within : t.dsc.command ≤ t.sau.authority
  feedforward : t.dsc.feedforward = s.feedforwardNow
  regained : s.dsc.guide.Regains t.dsc.guide → t.dsc.loss = 0
  kept : ¬ s.dsc.guide.Regains t.dsc.guide → t.dsc.loss = s.dsc.loss
  cause : .guide ∈ t.stc.causes ↔ .guide ∈ s.stc.causes ∧ ¬ s.dsc.guide.Regains t.dsc.guide

/-- A state with the sample's values steers as the sample does. -/
theorem Dsc.guided_steersTo {coils : Coils} {s t : State} {e : Dsc}
    (he : e.channel = s.dsc.channel ∧ e.gain = s.dsc.gain ∧ e.lossMode = s.dsc.lossMode ∧ e.coils = s.dsc.coils
      ∧ e.steering = s.dsc.steering)
    (ht : t.dsc.guide = (e.guided s.cfg.opt coils s.feedforwardNow).guide
      ∧ t.dsc.offset = (e.guided s.cfg.opt coils s.feedforwardNow).offset
      ∧ t.dsc.coils = (e.guided s.cfg.opt coils s.feedforwardNow).coils
      ∧ t.dsc.steering = (e.guided s.cfg.opt coils s.feedforwardNow).steering) : s.SteersTo coils t := by
  obtain ⟨hchannel, hgain, hmode, hcoils, hsteering⟩ := he
  obtain ⟨tguide, toffset, tcoils, tsteering⟩ := ht
  have low {n : Nat} (hn : s.dsc.channel = some n)
      (hc : (Coils.on coils n).left + (Coils.on coils n).right < s.cfg.opt.guideFloor) :
      t.dsc.guide = .offWire ∧ t.dsc.offset = none ∧ t.dsc.coils = some (Coils.on coils n)
        ∧ (s.dsc.lossMode = .hold → t.dsc.steering = s.dsc.steering)
        ∧ (s.dsc.lossMode = .center → t.dsc.steering = s.steered s.feedforwardNow) := by
    rw [tguide, toffset, tcoils, tsteering, State.steered, ← hsteering, ← hmode]
    cases hm : e.lossMode with
    | hold => rw [Dsc.guided_hold _ _ _ (hchannel.trans hn) hc hm]; exact ⟨rfl, rfl, rfl, fun _ => rfl, nofun⟩
    | center => rw [Dsc.guided_center _ _ _ (hchannel.trans hn) hc hm]; exact ⟨rfl, rfl, rfl, nofun, fun _ => rfl⟩
  have high {n : Nat} (hn : s.dsc.channel = some n)
      (hc : s.cfg.opt.guideFloor ≤ (Coils.on coils n).left + (Coils.on coils n).right) :
      t.dsc.guide = .onWire ∧ t.dsc.offset = some (guideOffset s.cfg.opt.guideSpan (Coils.on coils n))
        ∧ t.dsc.coils = some (Coils.on coils n)
        ∧ t.dsc.steering = s.steered (s.feedforwardNow
          + ((s.dsc.gain : Int) * guideOffset s.cfg.opt.guideSpan (Coils.on coils n)).tdiv 16) := by
    rw [tguide, toffset, tcoils, tsteering, State.steered, ← hsteering, ← hgain,
      Dsc.guided_onWire _ _ _ (hchannel.trans hn) hc]
    exact ⟨rfl, rfl, rfl, rfl⟩
  refine ⟨fun hn => ?_, fun n hn => ?_, fun n hn hc => ?_, fun n hn hc => ?_⟩
  · rw [tguide, toffset, tcoils, tsteering, State.steered, ← hsteering, ← hcoils,
      Dsc.guided_unguided _ _ _ (hchannel.trans hn)]
    exact ⟨rfl, rfl, rfl, rfl⟩
  · rcases Nat.lt_or_ge ((Coils.on coils n).left + (Coils.on coils n).right) s.cfg.opt.guideFloor with hc | hc
    · obtain ⟨-, -, h, -⟩ := low hn hc
      exact h
    · obtain ⟨-, -, h, -⟩ := high hn hc
      exact h
  · obtain ⟨hg, ho, -, hs⟩ := low hn hc
    exact ⟨hg, ho, hs⟩
  · obtain ⟨hg, ho, -, hs⟩ := high hn hc
    exact ⟨hg, ho, hs⟩

/-- The values after the period are those of the sample, for no act of the sequencer that follows it touches them; the
command is the ramp's, which those acts lower at most. -/
theorem State.controlPeriod_periodTo {s : State} (ha : s.active = true) (coils : Coils) :
    s.PeriodTo coils (s.controlPeriod coils) := by
  obtain ⟨g, n, hg, hmeasures, hzero, hstands, hcause, hcommand⟩ := State.controlPeriod_guided ha coils
  have hwithin := (State.controlPeriod_ruled (braked := False) (s := s) False.elim coils).within
  have hrise := s.commanded_command
  obtain ⟨etimer, epulses, ehistory, espeed, echannel, egain, emode, ecoils, esteering⟩ :=
    Dsc.fields_of_gauges s.commanded_rides.gauges
  generalize s.controlPeriod coils = t at *
  generalize s.commanded.dsc = e at *
  obtain ⟨tpulses, thistory, tspeed, tsteering, tloss⟩ := Dsc.fields_of_measures hmeasures
  obtain ⟨ttimer, tff, tguide, toffset, tcoils⟩ := Dsc.sampled_of_measures hmeasures
  obtain ⟨gtimer, gpulses, ghistory, gspeed, gff⟩ := e.guided_kept s.cfg.opt coils s.feedforwardNow
  obtain ⟨hrate, hangle⟩ := e.guided_steering s.cfg.opt coils s.feedforwardNow
  subst hg
  rw [esteering] at hrate hangle
  rw [← tguide] at hzero hstands hcause
  rw [← tsteering] at hrate hangle
  exact ⟨Dsc.guided_steersTo ⟨echannel, egain, emode, ecoils, esteering⟩ ⟨tguide, toffset, tcoils, tsteering⟩,
    (ttimer.trans gtimer).trans etimer, (tpulses.trans gpulses).trans epulses, (thistory.trans ghistory).trans ehistory,
    (tspeed.trans gspeed).trans espeed, hrate, hangle, hcommand.trans hrise, hwithin, tff.trans gff,
    fun h => tloss.trans (hzero h), fun h => tloss.trans (hstands h), hcause⟩

end Sys2Proof.Machine

open Sys2Proof.Machine in
/-- Settles O33: the expiry's period at the moment of its deadline, read in the terms of its rules. -/
theorem controlPeriodMeasuresAndLimits : Obligations.ControlPeriodMeasuresAndLimits := by
  unfold Obligations.ControlPeriodMeasuresAndLimits
  intro dt d coils s ha ht
  refine ⟨_, exec_controlPeriodExpiry ht dt coils, ?_⟩
  obtain ⟨⟨hunguided, hsample, hoff, hon⟩, htimer, hpulses, hhistory, hspeed, hrate, hangle, hramp, hwithin, hff, hregained,
    hkept, hcause⟩ := State.controlPeriod_periodTo (s := s.elapseTo dt (d * 1000)) ha coils
  have hnow : ((s.elapseTo dt (d * 1000)).controlPeriod coils).now = max (s.now + dt) (d * 1000) := by
    simp [State.elapseTo]
  generalize (s.elapseTo dt (d * 1000)).controlPeriod coils = t at *
  refine ⟨hnow, by rw [hnow]; exact htimer, hpulses, hhistory, hspeed, hrate, hangle, hramp, hwithin, hff, ?steers,
    fun h0 h1 => ⟨hregained ⟨h0, h1⟩, fun h => (hcause.mp h).2 ⟨h0, h1⟩⟩, fun h => ?stands⟩
  case stands =>
    have hno : ¬ s.dsc.guide.Regains t.dsc.guide := fun ⟨h0, h1⟩ => h.elim (fun k => k h0) fun k => h1 k
    exact ⟨hkept hno, hcause.trans (and_iff_left hno)⟩
  case steers =>
    intro toward
    rw [hff]
    refine ⟨hunguided, fun k x hk hx => ?_⟩
    obtain rfl : Coils.on coils k = x := by
      rcases hx with ⟨rfl, rfl⟩ | ⟨rfl, rfl⟩ | ⟨rfl, rfl⟩ | ⟨rfl, rfl⟩ <;> rfl
    exact ⟨hsample k hk, hoff k hk, hon k hk⟩

namespace Sys2Proof.Machine

/-! ### The release output and its four conditions (R120) -/

/-- The release output is what its last evaluation would give now (R120), whether the part acts or not. -/
def State.ReleaseFollows (s : State) : Prop := s.rm.release = s.releaseHolds

theorem State.releaseHolds_iff (s : State) : s.releaseHolds = true ↔
    s.active = true ∧ s.rm.vehicle = .released ∧ (s.dsc.motion = .held ∨ s.dsc.motion = .braked)
      ∧ s.dsc.speed = 0 ∧ s.entry.platform.isSome = true := by
  simp [State.releaseHolds, and_assoc]

theorem State.releaseSafe_iff_follows (s : State) : s.ReleaseSafe ↔ s.ReleaseFollows := by
  rw [State.ReleaseSafe, ← State.releaseHolds_iff]
  exact Bool.eq_iff_iff.symm

/-- A change that leaves the output and what its conditions look at. -/
theorem State.ReleaseFollows.of_frame {s t : State} (h : s.ReleaseFollows) (e : t.powered = s.powered
    ∧ t.cfs.load = s.cfs.load ∧ t.dsc.motion = s.dsc.motion ∧ t.dsc.speed = s.dsc.speed ∧ t.cfg = s.cfg
    ∧ t.rsq.entry = s.rsq.entry ∧ t.rm.vehicle = s.rm.vehicle ∧ t.rm.release = s.rm.release) : t.ReleaseFollows := by
  obtain ⟨hp, hl, hm, hs, hc, he, hv, hr⟩ := e
  simp only [State.ReleaseFollows, State.releaseHolds, State.active, State.entry, hp, hl, hm, hs, hc, he, hv, hr]
  exact h

theorem State.ReleaseFollows.of_blocks {s t : State} (h : s.ReleaseFollows) (e : t.powered = s.powered ∧ t.cfg = s.cfg
    ∧ t.cfs.load = s.cfs.load ∧ t.dsc = s.dsc ∧ t.rm = s.rm ∧ t.rsq = s.rsq) : t.ReleaseFollows := by
  obtain ⟨hp, hc, hl, hd, hm, hr⟩ := e
  exact h.of_frame ⟨hp, hl, by rw [hd], by rw [hd], hc, by rw [hr], by rw [hm], by rw [hm]⟩

/-- An output that is inactive follows its conditions in a part that does not act. -/
theorem State.releaseFollows_of_inactive {s : State} (ha : s.active = false) (hr : s.rm.release = false) :
    s.ReleaseFollows := by
  simp [State.ReleaseFollows, State.releaseHolds, ha, hr]

/-- An output that is inactive follows its conditions at a LOST position. -/
theorem State.releaseFollows_of_lost {s : State} (hm : s.dsc.motion = .lost) (hr : s.rm.release = false) :
    s.ReleaseFollows := by
  simp [State.ReleaseFollows, State.releaseHolds, hm, hr]

theorem State.ReleaseFollows.release_of_inactive {s : State} (h : s.ReleaseFollows) (ha : s.active = false) :
    s.rm.release = false := by
  simpa [State.ReleaseFollows, State.releaseHolds, ha] using h

theorem State.evalRelease_follows (s : State) : s.evalRelease.ReleaseFollows := rfl

/-- A motion state is entered with the output re-evaluated (R120). -/
theorem State.setMotion_follows (m : Motion) (s : State) : (s.setMotion m).ReleaseFollows := State.evalRelease_follows _

theorem State.ReleaseFollows.startDwell {s : State} (h : s.ReleaseFollows) : s.startDwell.ReleaseFollows :=
  h.of_frame (by simp [s.startDwell_rides.entryIndex])

theorem State.enterHeld_follows (s : State) : s.enterHeld.ReleaseFollows := by
  simp only [State.enterHeld]
  split
  · exact State.setMotion_follows ..
  · exact (State.setMotion_follows ..).startDwell

theorem State.ReleaseFollows.driveRise {s : State} (h : s.ReleaseFollows) (level : Nat) :
    (s.driveRise level).ReleaseFollows := by
  simp only [State.driveRise]
  split
  case h_1 =>
    split
    · exact State.setMotion_follows ..
    · split
      · exact State.enterHeld_follows _
      · exact State.setMotion_follows ..
  case h_2 => split <;> exact State.setMotion_follows ..
  case h_3 =>
    split
    · exact State.setMotion_follows ..
    · exact h
  all_goals exact h

theorem State.ReleaseFollows.driveFall {s : State} (h : s.ReleaseFollows) (level : Nat) :
    (s.driveFall level).ReleaseFollows := by
  simp only [State.driveFall]
  split
  case h_1 =>
    split
    · exact State.setMotion_follows ..
    · exact h
  case h_2 =>
    split
    · exact State.enterHeld_follows _
    · exact h
  all_goals exact h

theorem State.ReleaseFollows.periodTransition {s : State} (h : s.ReleaseFollows) : s.periodTransition.ReleaseFollows := by
  simp only [State.periodTransition]
  split
  case h_1 =>
    split
    · exact State.setMotion_follows ..
    · exact h
  case h_2 | h_3 | h_4 =>
    split
    · exact State.enterHeld_follows _
    · exact h
  all_goals exact h

/-! ### Stops -/

theorem State.ReleaseFollows.authorityRise {s : State} (h : s.ReleaseFollows) (was level : Nat) :
    (s.authorityRise was level).ReleaseFollows := by
  have handed (a : Nat) (src : LimitSource) : (s.handAuthority a src).ReleaseFollows :=
    h.of_frame ⟨rfl, rfl, rfl, rfl, rfl, rfl, rfl, rfl⟩
  simp only [State.authorityRise]
  split
  · exact handed ..
  · split
    · exact handed ..
    · exact h

/-- A rise of the latch reaches the output through the motion state alone (R88, R89). -/
theorem State.ReleaseFollows.notifyRise {s : State} (h : s.ReleaseFollows) (was level : Nat) :
    (s.notifyRise was level).ReleaseFollows :=
  ((h.authorityRise was level).driveRise level).of_frame (by simp [State.notifyRise])

theorem State.ReleaseFollows.raiseLatch {s : State} (h : s.ReleaseFollows) (level : Nat) (cause : StopCause)
    (origin : Nat) : (s.raiseLatch level cause origin).ReleaseFollows := by
  rw [State.raiseLatch_eq]
  split
  · exact (h.of_frame (t := s.lifted level cause origin) ⟨rfl, rfl, rfl, rfl, rfl, rfl, rfl, rfl⟩).notifyRise ..
  · exact h

theorem State.ReleaseFollows.frameLevel {s : State} (h : s.ReleaseFollows) (level : Nat) (cause : StopCause)
    (origin : Nat) : (s.frameLevel level cause origin).ReleaseFollows := by
  rw [State.frameLevel_eq]
  split
  · exact (h.of_frame (t := (s.writeIncident cause level origin).lifted level cause origin)
      ⟨rfl, rfl, rfl, rfl, rfl, rfl, rfl, rfl⟩).notifyRise ..
  · exact h

theorem State.ReleaseFollows.raise {s : State} (h : s.ReleaseFollows) (c : Cause) : (s.raise c).ReleaseFollows := by
  have joined : (s.joined c).ReleaseFollows := h.of_frame ⟨rfl, rfl, rfl, rfl, rfl, rfl, rfl, rfl⟩
  rw [State.raise_eq]
  split
  · split
    · have requested : (((s.joined c).putFrame (.stop c.level c.code)).1.requestPos true).ReleaseFollows :=
        joined.of_frame (by simp)
      exact (requested.raiseLatch c.level (.local_ c) s.cfg.opt.station).of_frame
        (by simp [State.levelRises, State.joined])
    · exact joined
  · exact h

theorem State.ReleaseFollows.withdraw {s : State} (h : s.ReleaseFollows) (c : Cause) : (s.withdraw c).ReleaseFollows :=
  h.of_frame (by simp)

/-! ### Hearings -/

theorem State.ReleaseFollows.foreignAfter {s : State} (h : s.ReleaseFollows) (before : Bool) :
    (s.foreignAfter before).ReleaseFollows := by
  simp only [State.foreignAfter]
  split
  · exact h.raise _
  · split
    · exact h.withdraw _
    · exact h

theorem State.ReleaseFollows.tellScu {s : State} (h : s.ReleaseFollows) (station : Nat) :
    (s.tellScu station).ReleaseFollows := h.of_frame (by simp)

theorem State.ReleaseFollows.addPeer {s : State} (h : s.ReleaseFollows) (station : Nat) (foreign : Bool) :
    (s.addPeer station foreign).ReleaseFollows := by
  have room : s.makeRoom.ReleaseFollows := h.of_frame (by simp)
  simp only [State.addPeer]
  split
  · exact (room.of_frame (t := s.makeRoom.setPtb _) (by simp)).foreignAfter _
  · exact room

theorem State.ReleaseFollows.hearForeign {s : State} (h : s.ReleaseFollows) (station : Nat) :
    (s.hearForeign station).ReleaseFollows := by
  have marked (f : Peer → Peer) : ((s.mapPeer station f).foreignAfter s.foreignSeen).ReleaseFollows :=
    (h.of_frame (t := s.mapPeer station f) (by simp)).foreignAfter _
  simp only [State.hearForeign]
  split
  · exact h.addPeer ..
  · split
    · exact (marked _).tellScu _
    · exact marked _

theorem State.ReleaseFollows.posHeard {s : State} (h : s.ReleaseFollows) (src : Nat) (held : List Nat)
    (claiming : Option Nat) (k : SlotId) : (s.posHeard src held claiming k).ReleaseFollows := by
  simp only [State.posHeard]
  split
  · exact h
  · split
    · exact h
    · split
      · exact h.of_frame (by simp)
      · exact h
    · split
      · exact h.of_frame (by simp)
      · exact h
    · split
      · exact (h.of_frame (t := s.freeSlot false k) (by simp)).raise _
      · exact h

theorem State.ReleaseFollows.hearPos {s : State} (h : s.ReleaseFollows) (src : Nat) (b : PosBody) :
    (s.hearPos src b).ReleaseFollows := by
  have own : (s.hearOwn src).ReleaseFollows := h.of_frame (by simp)
  exact ((own.posHeard src b.held b.claiming .one).posHeard src b.held b.claiming .two).of_frame
    ⟨rfl, rfl, rfl, rfl, rfl, rfl, rfl, rfl⟩

/-! ### The restraints -/

/-- A change of the vehicle restraint state ends in a re-evaluation (R111, R120). -/
theorem State.setVehicle_follows {s : State} {x : Restraint} (h : s.rm.vehicle ≠ x) :
    (s.setVehicle x).ReleaseFollows := by
  simp only [State.setVehicle, h, if_false]
  exact State.evalRelease_follows _

theorem State.ReleaseFollows.setVehicle {s : State} (h : s.ReleaseFollows) (x : Restraint) :
    (s.setVehicle x).ReleaseFollows := by
  by_cases hx : s.rm.vehicle = x
  · simpa only [State.setVehicle, hx, if_true] using h
  · exact State.setVehicle_follows hx

theorem State.ReleaseFollows.enterAlarm {s : State} (h : s.ReleaseFollows) : s.enterAlarm.ReleaseFollows :=
  State.inEitherOrder_keeps ((h.setVehicle _).of_frame ⟨rfl, rfl, rfl, rfl, rfl, rfl, rfl, rfl⟩) (fun _ k => k.raise _)
    fun _ k => k.of_frame ⟨rfl, rfl, rfl, rfl, rfl, rfl, rfl, rfl⟩

theorem State.ReleaseFollows.checkingTest {s : State} (h : s.ReleaseFollows) : s.checkingTest.ReleaseFollows := by
  simp only [State.checkingTest]
  split
  · exact h
  · split
    · exact h.setVehicle _
    · split
      · exact h.setVehicle _
      · exact h

theorem State.ReleaseFollows.alarmTest {s : State} (h : s.ReleaseFollows) (level : Nat) :
    (s.alarmTest level).ReleaseFollows := by
  simp only [State.alarmTest]
  split
  · exact (h.setVehicle _).of_frame ⟨rfl, rfl, rfl, rfl, rfl, rfl, rfl, rfl⟩
  · exact h

theorem State.ReleaseFollows.seatTest {s : State} (h : s.ReleaseFollows) : s.seatTest.ReleaseFollows := by
  simp only [State.seatTest]
  split
  · exact h.checkingTest
  · split
    · exact (h.withdraw _).alarmTest _
    · exact h
  all_goals exact h

theorem State.ReleaseFollows.seatLoss {s : State} (h : s.ReleaseFollows) : s.seatLoss.ReleaseFollows := by
  simp only [State.seatLoss]
  split
  · exact h.enterAlarm
  · exact h.raise _
  all_goals exact h

theorem State.ReleaseFollows.setSeat {s : State} (h : s.ReleaseFollows) (i : Nat) (k : Seat) :
    (s.setSeat i k).ReleaseFollows :=
  h.of_frame ⟨rfl, rfl, rfl, rfl, rfl, rfl, rfl, rfl⟩

theorem State.ReleaseFollows.seatChange {s : State} (h : s.ReleaseFollows) (i : Nat) :
    (s.seatChange i).ReleaseFollows := by
  simp only [State.seatChange]
  split
  · exact h
  · split
    · exact (h.setSeat ..).seatTest
    · exact h.setSeat ..
  · split
    · exact h
    · exact (h.setSeat ..).seatTest
  · split
    · exact h
    · exact ((h.setSeat ..).seatLoss).seatTest
  · split
    · exact h.setSeat ..
    · exact h

theorem State.ReleaseFollows.seatChanges {s : State} (h : s.ReleaseFollows) (l : List Nat) :
    (s.seatChanges l).ReleaseFollows := by
  induction l generalizing s with
  | nil => exact h
  | cons i l ih => exact ih (h.seatChange i)

theorem State.ReleaseFollows.confirmed {s : State} (h : s.ReleaseFollows) (i : Nat) : (s.confirmed i).ReleaseFollows := by
  simp only [State.confirmed]
  split
  · exact (h.setSeat ..).seatTest
  · exact h.setSeat ..

theorem State.ReleaseFollows.contradicted {s : State} (h : s.ReleaseFollows) (i : Nat) :
    (s.contradicted i).ReleaseFollows := by
  simp only [State.contradicted]
  split
  · exact (h.setSeat ..).seatTest
  · exact h.setSeat ..

theorem State.releaseVehicle_follows {s : State} (h : s.rm.vehicle ≠ .released) : s.releaseVehicle.ReleaseFollows := by
  have released := State.setVehicle_follows h
  simp only [State.releaseVehicle]
  split
  · exact (released.withdraw .restraint).of_frame ⟨rfl, rfl, rfl, rfl, rfl, rfl, rfl, rfl⟩
  · exact released.of_frame ⟨rfl, rfl, rfl, rfl, rfl, rfl, rfl, rfl⟩

theorem State.ReleaseFollows.grantUnlock {s : State} (h : s.ReleaseFollows) (src : Nat) :
    (s.grantUnlock src).ReleaseFollows := by
  simp only [State.grantUnlock]
  split
  · next hu => exact State.releaseVehicle_follows hu.2
  · exact h

theorem State.ReleaseFollows.grantLock {s : State} (h : s.ReleaseFollows) : s.grantLock.ReleaseFollows := by
  simp only [State.grantLock]
  split
  · exact (h.setVehicle _).checkingTest
  · exact h

/-! ### A living part whose output follows -/

/-- The part acts, its two period timers run, and the release output follows its conditions. -/
structure State.Tended (s : State) : Prop extends s.Lives where
  follows : s.ReleaseFollows

theorem State.Rides.lives {s t : State} (h : s.Rides t) (a : s.Lives) : t.Lives where
  active := h.active a.active
  period := by rw [h.timer]; exact a.period
  sample := by rw [h.sample]; exact a.sample

theorem State.Rides.tended {s t : State} (h : s.Rides t) (k : t.ReleaseFollows) (a : s.Tended) : t.Tended :=
  ⟨h.lives a.toLives, k⟩

theorem State.Tended.of_frame {s t : State} (a : s.Tended) (h : t.powered = s.powered ∧ t.cfg = s.cfg
    ∧ t.cfs.load = s.cfs.load ∧ t.dsc = s.dsc ∧ t.rm = s.rm ∧ t.rsq = s.rsq) : t.Tended :=
  (State.sameRide_of_frame h).rides.tended (a.follows.of_blocks h) a

theorem State.Tended.raise {s : State} (a : s.Tended) (c : Cause) : (s.raise c).Tended :=
  (s.raise_rides c).tended (a.follows.raise c) a

theorem State.Tended.setRsq {s : State} (a : s.Tended) (r : Rsq) (he : r.entry = s.rsq.entry) : (s.setRsq r).Tended :=
  ⟨⟨a.active, a.period, a.sample⟩, a.follows.of_frame ⟨rfl, rfl, rfl, rfl, rfl, he, rfl, rfl⟩⟩

theorem State.Lives.setDsc {s : State} (a : s.Lives) (d : Dsc) (hm : d.motion = s.dsc.motion)
    (ht : d.timer.isSome = true) : (s.setDsc d).Lives :=
  ⟨by simpa [State.active_iff, hm] using a.active, ht, a.sample⟩

theorem State.Tended.setDsc {s : State} (a : s.Tended) (d : Dsc) (hm : d.motion = s.dsc.motion)
    (hs : d.speed = s.dsc.speed) (ht : d.timer.isSome = true) : (s.setDsc d).Tended :=
  ⟨a.toLives.setDsc d hm ht, a.follows.of_frame ⟨rfl, rfl, hm, hs, rfl, rfl, rfl, rfl⟩⟩

/-- A part that takes on a motion state in which it acts is tended, whatever its output was (R120). -/
theorem State.Lives.setMotion {s : State} (a : s.Lives) {m : Motion} (hm : m ≠ .parked ∧ m ≠ .configFault) :
    (s.setMotion m).Tended := by
  obtain ⟨hp, hl, -⟩ := s.active_iff.mp a.active
  refine ⟨⟨?_, ?_, ?_⟩, State.setMotion_follows m s⟩
  · simp [State.active_iff, hp, hl, hm]
  · rw [Dsc.timer_of_gauges (State.setMotion_gauges ..)]; exact a.period
  · rw [State.setMotion_sample]; exact a.sample

/-! ### The route -/

/-- Entering re-evaluates the output with the new entry's platform in place (R120). -/
theorem State.Tended.enterEntry {s : State} (a : s.Tended) (i d : Nat) : (s.enterEntry i d).Tended where
  active := s.enterEntry_active i d a.active
  period := by
    have ht : (s.enterEntry i d).dsc.timer = s.dsc.timer := (congrArg Dsc.timer (s.enterEntry_gauges i d) :)
    rw [ht]; exact a.period
  sample := by
    obtain ⟨-, -, -, -, -, -, -, -, -, ht⟩ := State.entryRest_frame (s.entering i d).soundAction.sceneAction
    obtain ⟨-, -, -, -, -, -, -, -, -, -, hrm⟩ := s.entering_frame i d
    rw [State.enterEntry_eq, ht, (State.actions_damps _).rides.sample, hrm]
    exact a.sample
  follows := State.evalRelease_follows _

theorem State.Tended.advance {s : State} (a : s.Tended) (passed inTime : Bool) (carry : Nat) :
    (s.advance passed inTime carry).Tended := by
  simp only [State.advance]
  apply State.Tended.enterEntry
  refine State.Tended.setRsq ?_ _ rfl
  split
  · exact a.raise _
  · exact a

/-- A position fault enters LOST, where the output is inactive (R21, R91, R120). -/
theorem State.Tended.positionFault {s : State} (a : s.Tended) : s.positionFault.Tended := by
  have lost : (s.setRsq s.rsq.lose).authorityLost.Lives :=
    (State.authorityLost_sameRide _).rides.lives ⟨a.active, a.period, a.sample⟩
  exact (lost.setMotion (m := .lost) (by simp)).raise _

theorem State.Tended.runEnds {s : State} (a : s.Tended) (n : Nat) : (s.runEnds n).Tended := by
  induction n generalizing s with
  | zero => exact a
  | succ n ih =>
    simp only [State.runEnds]
    split
    · exact a
    · exact a.setRsq _ rfl
    · exact a.positionFault
    · exact ih (a.advance ..)

theorem State.Tended.settleEnds {s : State} (a : s.Tended) : s.settleEnds.Tended := by
  simp only [State.settleEnds]
  split
  · exact a.runEnds _
  · exact a

theorem State.Tended.actOnRelease {s : State} (a : s.Tended) : s.actOnRelease.Tended := by
  simp only [State.actOnRelease]
  split
  · exact a.settleEnds
  · exact a

theorem State.Tended.sceneTest {s : State} (a : s.Tended) : s.sceneTest.Tended :=
  s.sceneTest_rides.tended (a.follows.of_frame (by simp [s.sceneTest_rides.entryIndex])) a

theorem State.Tended.afterSlots {s : State} (a : s.Tended) (u : Scu) : (s.afterSlots u).Tended := by
  simp only [State.afterSlots]
  split
  · exact a.sceneTest.actOnRelease
  · exact a

theorem State.Tended.routePulse {s : State} (a : s.Tended) : s.routePulse.Tended := by
  simp only [State.routePulse]
  split
  · exact (a.setRsq _ (by rfl)).settleEnds
  · exact a

theorem State.Tended.chainPulse {s : State} (a : s.Tended) : (if s.rsq.known then s.chainPulse else s).Tended := by
  split
  · exact a.of_frame (by simp)
  · exact a

theorem State.Tended.pulse {s : State} (a : s.Tended) : s.pulse.Tended := by
  obtain ⟨ht, hm⟩ := s.dsc.pulse_timer s.cfg.opt
  obtain ⟨-, -, hs, -⟩ := s.dsc.pulse_fields s.cfg.opt
  have counted := a.setDsc (s.dsc.pulse s.cfg.opt) hm hs (by rw [ht]; exact a.period)
  simp only [State.pulse]
  apply State.Tended.afterSlots
  split
  · have settled : (s.setDsc (s.dsc.pulse s.cfg.opt)).settled.Tended := counted.of_frame (by simp)
    simp only [State.pulseWithLoss]
    split
    · exact (settled.raise _).chainPulse.routePulse
    · exact (settled.chainPulse.raise _).routePulse
    · exact settled.chainPulse.routePulse.raise _
  · exact counted.chainPulse.routePulse

theorem State.Tended.disagreement {s : State} (a : s.Tended) : s.disagreement.Tended := by
  simp only [State.disagreement]
  split
  · exact (a.advance ..).settleEnds
  · exact a.positionFault

theorem State.Tended.inTimeRead {s : State} (a : s.Tended) : s.inTimeRead.Tended := by
  have h := a.setRsq { s.rsq with distance := s.entry.length * 1000 } rfl
  simp only [State.inTimeRead]
  split
  · exact h.setRsq _ rfl
  · exact (h.advance ..).settleEnds

theorem State.Tended.readMarker {s : State} (a : s.Tended) (id : Nat) : (s.readMarker id).Tended := by
  simp only [State.readMarker]
  split
  · split
    · exact a
    · split
      · exact a.inTimeRead
      · exact a.disagreement
  · split
    · exact a
    · split
      · split
        · exact a
        · exact a.positionFault
      · exact a.disagreement

theorem State.Tended.dwellOver {s : State} (a : s.Tended) : s.dwellOver.Tended :=
  ((a.setRsq _ (by rfl)).actOnRelease).afterSlots _

theorem State.Lives.enterHeld {s : State} (a : s.Lives) : s.enterHeld.Tended := by
  have held : (s.setMotion .held).Tended := a.setMotion (by simp)
  simp only [State.enterHeld]
  split
  · exact held.toLives.setMotion (by simp)
  · exact (State.startDwell_rides _).tended held.follows.startDwell held

theorem State.Tended.relocate {s : State} (a : s.Tended) (e d : Nat) : (s.relocate e d).Tended := by
  simp only [State.relocate]
  split
  · refine (State.Tended.enterEntry ?_ ..).settleEnds
    have located : ((s.setRsq { s.rsq with known := true, lastMarker := none }).withdraw .position).Tended :=
      (a.setRsq { s.rsq with known := true, lastMarker := none } rfl).of_frame (by simp)
    simp only [State.driveFix]
    split
    · exact located.toLives.enterHeld
    · exact located
  · exact a

/-! ### Grants and RESUME -/

theorem State.Tended.grantDispatch {s : State} (a : s.Tended) (src : Nat) : (s.grantDispatch src).Tended := by
  simp only [State.grantDispatch]
  split
  · exact (a.setRsq _ (by rfl)).actOnRelease
  · exact a

theorem State.Tended.notifyFall {s : State} (a : s.Tended) (level : Nat) : (s.notifyFall level).Tended := by
  have h0 : s.settled.Tended := a.of_frame (by simp)
  have drive {t : State} (h : t.Tended) : (t.driveAfterFall level).Tended :=
    ((t.driveFall_rides level).tended (h.follows.driveFall level) h).actOnRelease
  have chain {t : State} (h : t.Tended) : (t.chainAfterFall level).Tended := h.of_frame (by simp)
  have alarm {t : State} (h : t.Tended) : (t.alarmTest level).Tended :=
    (t.alarmTest_sameRide level).rides.tended (h.follows.alarmTest level) h
  exact State.inAnyOrder_of (P := State.Tended) _ _ _ _ (alarm (chain (drive h0))) (chain (alarm (drive h0)))
    (alarm (drive (chain h0))) (drive (alarm (chain h0))) (chain (drive (alarm h0))) (drive (chain (alarm h0)))

theorem State.Tended.resume {s : State} (a : s.Tended) : s.resume.Tended := by
  have set : s.withdrawLatched.setLatch.Tended := a.of_frame (by simp)
  simp only [State.resume]
  split
  · exact set.notifyFall _
  · exact set

/-! ### The control period -/

theorem State.Tended.guideStep {s : State} (a : s.Tended) (coils : Coils) : (s.guideStep coils).Tended := by
  have guided : (s.setDsc (s.dsc.guided s.cfg.opt coils s.feedforwardNow)).Tended := by
    rw [Dsc.guided_eq]
    exact a.setDsc _ rfl rfl a.period
  have cleared {t : State} (k : t.Tended) : (t.setDsc { t.dsc with loss := 0 }).Tended := k.setDsc _ rfl rfl k.period
  rw [State.guideStep_eq]
  simp only [State.regain]
  split
  · exact (cleared guided).of_frame (by simp)
  · exact guided

/-- The measured speed of the period is in place when the output is re-evaluated (R84, R120). -/
theorem State.Lives.measured {s : State} (a : s.Lives) : s.measured.Tended := by
  have restarted : s.restartPeriod.Lives := a.setDsc _ rfl rfl
  exact ⟨(State.evalRelease_sameRide _).rides.lives (restarted.setDsc _ rfl restarted.period),
    State.evalRelease_follows _⟩

theorem State.Tended.commanded {s : State} (a : s.Tended) : s.commanded.Tended := by
  have measured := a.toLives.measured
  have computed : s.measured.computeAuthority.Tended := measured.of_frame (by simp)
  refine s.commanded_rides.tended (computed.follows.periodTransition.of_frame ⟨rfl, rfl, ?_, ?_, rfl, rfl, rfl, rfl⟩)
    measured
  · exact (Dsc.ramp_motion ..).1
  · exact (congrArg Dsc.speed (Dsc.ramp_gauges ..) :)

theorem State.Tended.controlPeriod {s : State} (a : s.Tended) (coils : Coils) : (s.controlPeriod coils).Tended := by
  rw [State.controlPeriod_eq, State.driven_eq]
  exact (a.commanded.guideStep coils).actOnRelease.afterSlots _

/-! ### The invariant of the release output -/

/-- The invariant: the release output follows its conditions, and the timers go with the load state. -/
def State.Watched (s : State) : Prop := s.ReleaseFollows ∧ s.LifeSound

/-- While the part acts the invariant says that it is tended. -/
theorem State.watched_iff_tended {s : State} (ha : s.active = true) : s.Watched ↔ s.Tended := by
  obtain ⟨hp, hl, -, hc⟩ := s.active_iff.mp ha
  constructor
  · rintro ⟨hf, -, hper, hsam, -⟩
    exact ⟨⟨ha, hper.mpr ha, hsam.mpr ⟨hp, hl, hc⟩⟩, hf⟩
  · rintro ⟨⟨-, hper, hsam⟩, hf⟩
    exact ⟨hf, by simp [hl], by simp [hper, ha], by simp [hsam, hp, hl, hc], fun _ => ha⟩

theorem State.Tended.watched {s : State} (h : s.Tended) : s.Watched := (State.watched_iff_tended h.active).mpr h

/-- Of the load and the timers of a part that does not act `Agreed` says the same. -/
theorem State.Watched.agreed_of_inactive {s : State} (a : s.Watched) (ha : s.active = false) : s.Agreed :=
  ⟨fun h => by simp [ha] at h, fun h => by simp [ha] at h, a.2⟩

theorem State.Agreed.watched {s : State} (h : s.Agreed) (hf : s.ReleaseFollows) : s.Watched := ⟨hf, h.2.2⟩

/-- A change that leaves ride and timers keeps the invariant where the output follows. -/
theorem State.SameRide.watched {s t : State} (h : s.SameRide t) (k : t.ReleaseFollows) (a : s.Watched) : t.Watched :=
  ⟨k, h.lifeSound a.2⟩

theorem State.Watched.of_frame {s t : State} (a : s.Watched) (h : t.powered = s.powered ∧ t.cfg = s.cfg
    ∧ t.cfs.load = s.cfs.load ∧ t.dsc = s.dsc ∧ t.rm = s.rm ∧ t.rsq = s.rsq) : t.Watched :=
  (State.sameRide_of_frame h).watched (a.1.of_blocks h) a

/-- A change that acts only in an acting part, and keeps that one tended, keeps the invariant. -/
theorem State.Watched.of_tended {s : State} {f : State → State} (a : s.Watched) (hi : s.active = false → f s = s)
    (hs : s.Tended → (f s).Watched) : (f s).Watched := by
  cases h : s.active
  · rwa [hi h]
  · exact hs ((State.watched_iff_tended h).mp a)

theorem State.Watched.afterSlots {s : State} (a : s.Watched) (u : Scu) : (s.afterSlots u).Watched :=
  a.of_tended (f := State.afterSlots u) (fun h => State.afterSlots_of_inactive h u) fun h => (h.afterSlots u).watched

theorem State.Watched.raise {s : State} (a : s.Watched) (c : Cause) : (s.raise c).Watched :=
  a.of_tended (f := State.raise c) (fun h => State.raise_of_inactive h c) fun h => (h.raise c).watched

theorem State.Watched.withdraw {s : State} (a : s.Watched) (c : Cause) : (s.withdraw c).Watched := a.of_frame (by simp)

/-! ### Starts, parking and wakes -/

theorem State.watched_of_start {s : State} (hl : s.cfs.load = .loading) (hd : s.dsc = Dsc.start) (hr : s.rsq = Rsq.start)
    (hm : s.rm = Rm.start) : s.Watched :=
  (State.agreed_of_start hl hd hr hm).watched
    (State.releaseFollows_of_lost (by simp [hd, Dsc.start]) (by simp [hm, Rm.start]))

/-- Parking ends the acting and makes the output inactive (R122, R198). -/
theorem State.Tended.parkAll {s : State} (a : s.Tended) : s.parkAll.Watched := by
  obtain ⟨hp, hl, -⟩ := s.active_iff.mp a.active
  have hm : s.parkAll.dsc.motion = .parked := by simp [State.parkAll, Dsc.park, Dsc.enter]
  have ht : s.parkAll.rm.timer.isSome = true := a.sample
  refine State.Agreed.watched ?_ (State.releaseFollows_of_inactive s.parkAll_inactive rfl)
  rw [State.agreed_iff_of_inactive s.parkAll_inactive]
  refine ⟨by simp [hl], rfl, rfl, ?_⟩
  simp [hm, hp, hl, ht]

/-- A wake starts in LOST with an inactive output (R122, R199). -/
theorem State.Watched.wake {s : State} (a : s.Watched) (hp : s.parked = true) (r : WakeReason) : (s.wake r).Watched :=
  ((a.agreed_of_inactive (State.inactive_of_parked hp)).wake hp r).watched
    (State.releaseFollows_of_lost (by simp [State.wake, Dsc.start]) (by simp [State.wake, Rm.start]))

theorem State.Watched.awake {s : State} (a : s.Watched) : s.awake.Watched := by
  simp only [State.awake]
  split
  · next h => exact a.wake h _
  · exact a

/-- Until the load ends the part has stood in LOST with an inactive output, and CONFIG-FAULT does not act (R85, R121). -/
theorem State.Watched.loadEnds {s : State} (a : s.Watched) (memory : List Byte) : (s.loadEnds memory).Watched := by
  by_cases h : s.powered ∧ s.cfs.load = .loading
  · have ha : s.active = false := by simp [State.active, h.2]
    have hr : s.rm.release = false := a.1.release_of_inactive ha
    obtain ⟨-, hload, -⟩ := id a
    obtain ⟨hlost, -⟩ := hload h.2
    refine ((a.agreed_of_inactive ha).loadEnds memory).watched ?_
    simp only [State.loadEnds, h.1, h.2, and_self, if_true, State.endLoad]
    split
    · refine State.releaseFollows_of_lost ?_ ?_
      · simpa [State.ready] using hlost
      · simpa [State.ready] using hr
    · exact State.releaseFollows_of_inactive (by simp [State.active, State.configFault]) hr
  · simpa [State.loadEnds, h] using a

theorem State.watched_pinStart (s : State) : s.pinStart.Watched := State.watched_of_start rfl rfl rfl rfl

/-! ### Reception -/

theorem State.Tended.hear {s : State} (a : s.Tended) (src : Nat) : (s.hear src).Tended := a.of_frame (by simp)

theorem State.Tended.frameLevel {s : State} (a : s.Tended) (level : Nat) (cause : StopCause) (origin : Nat) :
    (s.frameLevel level cause origin).Tended :=
  (s.frameLevel_rides ..).tended (a.follows.frameLevel ..) a

theorem State.Tended.grant {s : State} (a : s.Tended) (src : Nat) (kind : GrantKind) : (s.grant src kind).Watched := by
  cases kind with
  | unlock => exact ((s.grantUnlock_sameRide src).rides.tended (a.follows.grantUnlock src) a).watched
  | lock => exact (s.grantLock_sameRide.rides.tended a.follows.grantLock a).watched
  | dispatch => exact (a.grantDispatch src).watched
  | wake => exact a.watched
  | park =>
    simp only [State.grant, State.grantPark]
    split
    · exact a.parkAll
    · exact a.watched

/-- A delivered frame leaves an acting part tended, or parked. -/
theorem State.Tended.deliver {s : State} (a : s.Tended) (src : Nat) (b : Body) : (s.deliver src b).Watched := by
  have h0 : s.settled.Tended := a.of_frame (by simp)
  have hear (t : State) (h : t.Tended) : (t.hear src).Tended := h.hear src
  have beside {g : State → State} (hg : ∀ t : State, t.Tended → (g t).Tended) :
      (s.inEitherOrder (State.hear src) g).Watched := (State.inEitherOrder_keeps h0 hear hg).watched
  cases b with
  | pos p =>
    have hp (t : State) (h : t.Tended) : (t.hearPos src p).Tended :=
      (t.hearPos_rides src p).tended (h.follows.hearPos src p) h
    simp only [State.deliver, State.deliverPos]
    split
    · exact (State.inEitherOrder_keeps h0 hp fun t h => h.frameLevel ..).watched
    · exact (hp s a).watched
  | stop level code =>
    simp only [State.deliver, State.deliverStop]
    split
    · exact beside fun t h => h.frameLevel ..
    · exact (a.hear src).watched
  | resume => exact beside fun t h => h.resume
  | claim x => exact beside fun t h => h.of_frame (by simp)
  | free x => exact beside fun t h => h.of_frame (by simp)
  | cue _ => exact (a.hear src).watched
  | cuest c => exact beside fun t h => h.of_frame (by simp)
  | sync time scene =>
    exact (State.inEitherOrder_keeps h0 (fun t h => h.of_frame (t := t.hearSync src) (by simp))
      fun t h => h.of_frame (t := t.handleSync src time scene) (by simp)).watched
  | grant target kind =>
    simp only [State.deliver, State.deliverGrant]
    split
    · exact State.inEitherOrder_of (P := State.Watched) _ _ _ ((h0.hear src).grant src kind)
        ((h0.grant src kind).of_frame (t := State.hear src _) (by simp))
    · exact (a.hear src).watched
  | fix target entry distance =>
    simp only [State.deliver, State.deliverFix]
    split
    · exact beside fun t h => h.relocate entry distance
    · exact (a.hear src).watched
  | clear target => exact (a.of_frame (t := (s.hear src).removePeer target) (by simp)).watched

theorem State.Tended.deliverForeign {s : State} (a : s.Tended) (src : Nat) (b : Body) :
    (s.deliverForeign src b).Tended := by
  have hear (t : State) (h : t.Tended) : (t.hearForeign src).Tended :=
    (t.hearForeign_rides src).tended (h.follows.hearForeign src) h
  cases b with
  | stop level code =>
    simp only [State.deliverForeign]
    split
    · exact State.inEitherOrder_keeps (a.of_frame (by simp)) hear fun t h => h.frameLevel ..
    · exact hear s a
  | _ => exact hear s a

theorem State.Watched.receive {s : State} (a : s.Watched) (f : Frame) : (s.receive f).Watched := by
  have h : s.carrierFalls.Watched := a.of_frame (by simp)
  simp only [State.receive, State.examine]
  split
  · next hp =>
    split
    · exact h.wake hp _
    · exact h
  · split
    · next hv =>
      simp only [Bool.and_eq_true] at hv
      have heard : s.carrierFalls.netHeard.Tended :=
        ((State.watched_iff_tended hv.1).mp h).of_frame (by simp [State.netHeard])
      simp only [State.handleFrame]
      apply State.Watched.afterSlots
      split
      · exact heard.deliver ..
      · exact (heard.deliverForeign ..).watched
    · exact h

theorem State.Watched.receiveBytes {s : State} (a : s.Watched) (bytes : List Byte) : (s.receiveBytes bytes).Watched := by
  simp only [State.receiveBytes]
  split
  · exact a.receive _
  · exact a.of_frame (by simp)

/-! ### The service link -/

theorem State.Watched.serve {s : State} (a : s.Watched) (act : State → State × Reply) (h : (act s).1.Watched) :
    (s.serve act).Watched := by
  simp only [State.serve]
  split
  · exact h.of_frame (by simp)
  · exact a

theorem State.Watched.serviceStop {s : State} (a : s.Watched) (on : Bool) : (serviceStop on s).1.Watched := by
  simp only [Machine.serviceStop]
  split
  · exact a
  · split
    · exact a.awake.raise _
    · exact a.awake.withdraw _

theorem State.active_of_parkAccepted {s : State} (h : s.parkAccepted = true) : s.active = true := by
  simp only [State.parkAccepted, Bool.and_eq_true, Bool.or_eq_true, decide_eq_true_eq] at h
  obtain ⟨⟨hp, hl⟩, hm⟩ := h
  rw [State.active_iff]
  rcases hm with m | m <;> simp [hp, hl, m]

theorem State.Watched.parkCommand {s : State} (a : s.Watched) : (parkCommand s).1.Watched := by
  simp only [Machine.parkCommand]
  split
  · next h => exact ((State.watched_iff_tended (State.active_of_parkAccepted h)).mp a).parkAll
  · exact a

theorem State.Watched.testClipCommand {s : State} (a : s.Watched) (clip : Nat) : (testClipCommand clip s).1.Watched := by
  simp only [Machine.testClipCommand]
  split
  · exact a
  · split
    · exact a
    · exact a.awake.of_frame (by simp)

theorem State.Watched.act {s : State} (a : s.Watched) (c : ServiceCommand) : (c.act s).1.Watched := by
  cases c with
  | clearIncidents => exact a.of_frame (t := (clearIncidentList s).1) (by simp [Machine.clearIncidentList])
  | stopOn => exact a.serviceStop true
  | stopOff => exact a.serviceStop false
  | park => exact a.parkCommand
  | restart =>
    simp only [ServiceCommand.act, Machine.restartCommand]
    split
    · exact a
    · exact a.of_frame (by simp)
  | testClip clip => exact a.testClipCommand clip
  | _ => exact a

theorem State.Watched.actLine {s : State} (a : s.Watched) (line : String) : (actLine line s).1.Watched := by
  simp only [Machine.actLine]
  split
  · exact a.act _
  · exact a

theorem State.Watched.replySent {s : State} (a : s.Watched) : s.replySent.Watched := by
  simp only [State.replySent]
  split
  · split
    · exact s.watched_pinStart
    · exact a.of_frame (by simp)
  · exact a

/-! ### Every command -/

theorem State.Watched.onExpiry {s : State} (a : s.Watched) (dt : Nat) (x : Timer) {act : State → State}
    (h : ∀ u : State, x.isSome = true → s.SameRide u → u.Watched → (act u).Watched) : (s.onExpiry dt x act).Watched := by
  have same (n : Nat) : s.SameRide (s.setNow n) := State.sameRide_of_frame (by simp)
  have now (n : Nat) : (s.setNow n).Watched := a.of_frame (by simp)
  simp only [State.onExpiry]
  split
  · exact h _ rfl (same _) (now _)
  · exact now _

theorem State.Watched.ifPowered {s : State} (a : s.Watched) {act : State → State} (h : (act s).Watched) :
    (s.ifPowered act).Watched := by
  simp only [State.ifPowered]
  split
  · exact h
  · exact a

/-- A running sample timer is restarted, and nothing that the invariant speaks of changes (R106). -/
theorem State.Watched.sampled {s : State} (a : s.Watched) (ht : s.rm.timer.isSome = true) (raw : List SeatInput) :
    (s.sampled raw).Watched := by
  obtain ⟨hfollows, hlife, hperiod, hsample, hdwell⟩ := a
  refine ⟨hfollows.of_frame ⟨rfl, rfl, rfl, rfl, rfl, rfl, rfl, rfl⟩, hlife, hperiod, ?_, hdwell⟩
  exact ⟨fun _ => hsample.mp ht, fun _ => rfl⟩

theorem State.Watched.seatSample {s : State} (a : s.Watched) (ht : s.rm.timer.isSome = true) (raw : List SeatInput) :
    (s.seatSample raw).Watched := by
  have sampled : (s.sampled raw).Watched := a.sampled ht raw
  simp only [State.seatSample]
  split
  · next hp =>
    split
    · exact sampled
    · exact sampled.wake hp _
  · next hp =>
    obtain ⟨-, -, -, hsample, -⟩ := a
    obtain ⟨hpow, hload, hfault⟩ := hsample.mp ht
    have hs : (s.sampled raw).active = true :=
      s.active_iff.mpr ⟨hpow, hload, by simpa [State.parked, hpow, hload] using hp, hfault⟩
    exact ((State.seatChanges_rides _ _).tended (sampled.1.seatChanges _)
      ((State.watched_iff_tended hs).mp sampled)).watched

theorem State.Watched.pulse {s : State} (a : s.Watched) : (if s.active then s.pulse else s).Watched := by
  split
  · next h => exact ((State.watched_iff_tended h).mp a).pulse.watched
  · exact a

theorem State.Watched.markerHeard {s : State} (a : s.Watched) (id : Nat) : (s.markerHeard id).Watched := by
  simp only [State.markerHeard]
  split
  · next h =>
    simp only [Bool.and_eq_true] at h
    exact ((((State.watched_iff_tended h.1).mp a).readMarker id).afterSlots _).watched
  · exact a

/-- Every command keeps the invariant: a timer that it ends runs only while the part acts. -/
theorem State.Watched.exec {s t : State} (a : s.Watched) (c : Instr) (h : exec c s = .next t) : t.Watched := by
  have e (dt : Nat) : (s.elapse dt).Watched := a.of_frame (by simp)
  obtain ⟨-, -, hperiod, -, hdwell⟩ := id a
  have frame (dt : Nat) (x : Timer) {act : State → State} (hf : ∀ u : State, u.Watched → (act u).Watched) :
      (s.onExpiry dt x act).Watched := a.onExpiry dt x fun u _ _ hu => hf u hu
  cases c <;> cases h
  case powerOn => exact State.watched_of_start rfl rfl rfl rfl
  case resetInput dt => exact (e dt).ifPowered (State.watched_pinStart _)
  case loadEnd dt memory => exact (e dt).loadEnds memory
  case powerLoss => exact State.watched_of_start rfl rfl rfl rfl
  case candidateDiscarded dt bytes => exact (e dt).receiveBytes bytes
  case carrierBusy dt => exact (e dt).ifPowered ((e dt).of_frame (by simp))
  case frameTransmit dt => exact a.of_frame (by simp)
  case posPeriodTimerExpiry dt => exact frame dt _ fun u hu => hu.of_frame (by simp)
  case netSilenceTimerExpiry dt =>
    exact frame dt _ fun u hu => (hu.of_frame (t := u.setNi { u.ni with silence := none }) (by simp)).raise _
  case staleTime dt station =>
    exact frame dt _ fun u hu => (hu.of_frame (t := u.staleNow station) (by simp)).afterSlots _
  case dropTime dt station =>
    exact frame dt _ fun u hu => (hu.of_frame (t := u.dropNow station) (by simp)).afterSlots _
  case claimWindowExpiry dt k =>
    exact frame dt _ fun u hu => (hu.of_frame (t := u.windowExpired k) (by simp)).afterSlots _
  case odometerPulse dt => exact (e dt).pulse
  case markerRead dt id => exact (e dt).markerHeard id
  case dwellTimerExpiry dt =>
    refine a.onExpiry dt _ fun u ht hu ua => ?_
    have hs : s.active = true := hdwell ht
    exact ((State.watched_iff_tended (hu.active.trans hs)).mp ua).dwellOver.watched
  case controlPeriodExpiry dt coils =>
    refine a.onExpiry dt _ fun u ht hu ua => ?_
    have hs : s.active = true := hperiod.mp ht
    exact (((State.watched_iff_tended (hu.active.trans hs)).mp ua).controlPeriod coils).watched
  case sampleTimerExpiry dt raw =>
    exact a.onExpiry dt _ fun u ht hu ua => ua.seatSample (by rw [hu.rides.sample]; exact ht) raw
  case confirmTimerExpiry dt seat =>
    exact frame dt _ fun u hu => (u.confirmed_sameRide _).watched (hu.1.confirmed _) hu
  case contradictionTimerExpiry dt seat =>
    exact frame dt _ fun u hu => (u.contradicted_sameRide _).watched (hu.1.contradicted _) hu
  case pendingTimerExpiry dt => exact frame dt _ fun u hu => hu.of_frame (by simp)
  case cueTimeout dt ref => exact frame dt _ fun u hu => hu.of_frame (by simp)
  case lateWindowExpiry dt ref => exact frame dt _ fun u hu => hu.of_frame (by simp)
  case referenceSilent dt => exact frame dt _ fun u hu => hu.of_frame (by simp)
  case samplePeriod dt => exact (e dt).of_frame (by simp)
  case transferCompletion dt samples => exact (e dt).ifPowered ((e dt).of_frame (by simp))
  case clearIncidents dt => exact (e dt).serve _ ((e dt).act .clearIncidents)
  case serviceStopOn dt => exact (e dt).serve _ ((e dt).serviceStop true)
  case serviceStopOff dt => exact (e dt).serve _ ((e dt).serviceStop false)
  case park dt => exact (e dt).serve _ (e dt).parkCommand
  case restart dt => exact (e dt).serve _ ((e dt).act .restart)
  case testClip dt clip => exact (e dt).serve _ ((e dt).testClipCommand clip)
  case unknownCommand dt line => exact (e dt).serve _ ((e dt).actLine line)
  case serviceReplySent dt => exact (e dt).replySent
  case status dt | readRoute dt | readPeers dt | readSeats dt | readScenes dt | readVoices dt | readClock dt
    | readIncidents dt => exact (e dt).serve _ (e dt)
  case posFrame dt _ _ | stopFrame dt _ _ _ | resumeFrame dt _ | claimFrame dt _ _ | freeFrame dt _ _
    | cueFrame dt _ _ | cuestFrame dt _ _ | syncFrame dt _ _ _ | grantUnlock dt _ _ | grantLock dt _ _
    | grantDispatch dt _ _ | grantPark dt _ _ | grantWake dt _ _ | fixFrame dt _ _ _ _ | clearFrame dt _ _ =>
    exact (e dt).receive _

end Sys2Proof.Machine

open Sys2Proof.Machine in
/-- Settles O55: every change of a condition of R120 in an acting part is followed by an evaluation of the output, and
every command that ends the acting leaves it inactive. -/
theorem releaseStaysSafe : Obligations.ReleaseStaysSafe := fun s t ⟨hsafe, hlife⟩ hst =>
  have watched : t.Watched := step_keeps (P := State.Watched) (fun _ _ a => a.of_frame (by simp))
    (fun c _ _ a h => a.exec c h) ⟨s.releaseSafe_iff_follows.mp hsafe, hlife⟩ hst
  ⟨t.releaseSafe_iff_follows.mpr watched.1, watched.2⟩

namespace Sys2Proof.Machine

/-! ### A change of the vehicle restraint state and the drive (R75, R111) -/

theorem State.setVehicle_of_not_secure {s : State} (h : s.rm.vehicle ≠ .secure) (x : Restraint) :
    (s.setVehicle x).sau = s.sau ∧ (s.setVehicle x).dsc = s.dsc := by
  simp only [State.setVehicle]
  split
  · exact ⟨rfl, rfl⟩
  · simp [h]

/-- SECURE is left with authority and command at 0 (R75, R111). -/
theorem State.setVehicle_of_secure {s : State} {x : Restraint} (h : s.rm.vehicle = .secure) (hx : x ≠ .secure) :
    (s.setVehicle x).sau.authority = 0 ∧ (s.setVehicle x).dsc.command = 0 := by
  simp [State.setVehicle, h, hx.symm, State.forceAuthority, State.handAuthority]

/-! ### The release of the vehicle (R117) -/

/-- The conditions of R117, where the vehicle has yet to be released. -/
def State.Unlocks (src : Nat) (s : State) : Prop :=
  s.entry.platform = some src ∧ (s.dsc.motion = .held ∨ s.dsc.motion = .braked) ∧ s.dsc.speed = 0
    ∧ s.rm.vehicle ≠ .released

theorem State.unlocks_iff {src : Nat} {s : State} :
    s.Unlocks src ↔ s.unlockAccepted src ∧ s.rm.vehicle ≠ .released := by
  simp [State.Unlocks, State.unlockAccepted, State.atPlatform, and_assoc]

theorem State.grantUnlock_of {src : Nat} {s : State} (h : s.Unlocks src) : s.grantUnlock src = s.releaseVehicle :=
  if_pos (State.unlocks_iff.mp h)

theorem State.grantUnlock_of_not {src : Nat} {s : State} (h : ¬ s.Unlocks src) : s.grantUnlock src = s :=
  if_neg fun k => h (State.unlocks_iff.mpr k)

/-- The release up to the test of the FAULT seats: from ALARM the cause is withdrawn and the announcement ended. -/
def State.unlocked (s : State) : State :=
  if s.rm.vehicle = .alarm then ((s.setVehicle .released).withdraw .restraint).announcementEnd
  else s.setVehicle .released

theorem State.releaseVehicle_eq (s : State) :
    s.releaseVehicle = s.unlocked.withSeats (s.unlocked.rm.seats.map Seat.clearFault) := rfl

/-- Beside cause and announcement the release is the change of the restraint state. -/
theorem State.unlocked_frame (s : State) : s.unlocked.rm = (s.setVehicle .released).rm
    ∧ s.unlocked.sau = (s.setVehicle .released).sau ∧ s.unlocked.dsc = (s.setVehicle .released).dsc := by
  simp only [State.unlocked]
  split <;> simp

/-- The causes after the release (R117). -/
theorem State.unlocked_stc {s : State} (ha : s.active = true) : s.unlocked.stc =
    if s.rm.vehicle = .alarm then { s.stc with causes := s.stc.causes.filter (· ≠ .restraint) } else s.stc := by
  have hact : (s.setVehicle .released).active = true := (s.setVehicle_sameRide .released).active.trans ha
  simp only [State.unlocked]
  split
  · simp [State.withdraw_stc, hact]
  · simp

/-- What the release of the vehicle leaves (R117). -/
structure State.Released (s t : State) : Prop where
  vehicle : t.rm.vehicle = .released
  release : t.rm.release = true
  seats : t.rm.seats = s.rm.seats.map Seat.clearFault
  stc : t.stc = if s.rm.vehicle = .alarm then { s.stc with causes := s.stc.causes.filter (· ≠ .restraint) } else s.stc
  silent : s.rm.vehicle ≠ .alarm → t.spe = s.spe
  halted : s.rm.vehicle = .secure → t.sau.authority = 0 ∧ t.dsc.command = 0
  stands : s.rm.vehicle ≠ .secure → t.sau = s.sau ∧ t.dsc = s.dsc
  motion : t.dsc.motion = s.dsc.motion
  rest : t.rsq = s.rsq ∧ t.scu = s.scu ∧ t.sck = s.sck ∧ t.cfg = s.cfg ∧ t.cfs = s.cfs

/-- The output follows the release because the conditions of R117 are those of R120. -/
theorem State.releaseVehicle_released {src : Nat} {s : State} (ha : s.active = true) (h : s.Unlocks src) :
    s.Released s.releaseVehicle := by
  obtain ⟨hplatform, hmotion, hspeed, hv⟩ := h
  obtain ⟨hrm, hsau, hdsc⟩ := s.unlocked_frame
  obtain ⟨kvehicle, kseats⟩ := s.setVehicle_rm .released
  have hact := s.releaseVehicle_sameRide.active.trans ha
  obtain ⟨-, hcfg, -, tmotion, tgauges, -, trsq⟩ := s.releaseVehicle_sameRide
  have tspeed : s.releaseVehicle.dsc.speed = s.dsc.speed := (congrArg Dsc.speed tgauges :)
  have tentry : s.releaseVehicle.entry = s.entry := by rw [State.entry, hcfg, trsq]; rfl
  have tvehicle : s.releaseVehicle.rm.vehicle = .released := (congrArg Rm.vehicle hrm).trans kvehicle
  refine ⟨tvehicle, ?release, ?seats, State.unlocked_stc ha, fun hn => ?silent, fun hs => ?halted, fun hn => ?stands,
    tmotion, by simp⟩
  case release =>
    rw [State.releaseVehicle_follows hv, State.releaseHolds_iff, tmotion, tspeed, tentry, hplatform]
    exact ⟨hact, tvehicle, hmotion, hspeed, rfl⟩
  case seats => exact congrArg (List.map Seat.clearFault) ((congrArg Rm.seats hrm).trans kseats)
  case silent =>
    rw [State.releaseVehicle_eq, State.unlocked, if_neg hn]
    exact (by simp : (s.setVehicle .released).spe = s.spe)
  case halted =>
    obtain ⟨h0, hc⟩ := State.setVehicle_of_secure hs (x := .released) nofun
    exact ⟨(congrArg Sau.authority hsau).trans h0, (congrArg Dsc.command hdsc).trans hc⟩
  case stands =>
    obtain ⟨ksau, kdsc⟩ := State.setVehicle_of_not_secure hn .released
    exact ⟨hsau.trans ksau, hdsc.trans kdsc⟩

/-! ### A grant to the restraints beside the hearing of its sender (R33) -/

/-- A GRANT that leaves table, slots and time acts before or after the hearing of its sender, with the same outcome: what
it leaves, the table with the sender's record refreshed, and the time passed. -/
theorem State.Receives.grant_beside {P : State → Prop} {s : State} {h : Header} {k : GrantKind}
    (hr : s.Receives ⟨h.src, h.sig, .grant s.cfg.opt.station k⟩) (dt : Nat)
    (acts : ∀ table : List Peer, P (State.grant h.src k ((s.heardLast dt).setPtb table)))
    (active : ∀ u : State, (u.grant h.src k).active = u.active)
    (frame : ∀ u : State, (u.grant h.src k).ptb = u.ptb ∧ (u.grant h.src k).scu = u.scu
      ∧ (u.grant h.src k).now = u.now)
    (table : ∀ (t : State) (p : List Peer), P t → P (t.setPtb p)) :
    P ((s.elapse dt).receive ⟨h.src, h.sig, .grant s.cfg.opt.station k⟩)
      ∧ ((s.elapse dt).receive ⟨h.src, h.sig, .grant s.cfg.opt.station k⟩).ptb
        = refreshed h.src ((s.now + dt) / 1000) s.ptb
      ∧ ((s.elapse dt).receive ⟨h.src, h.sig, .grant s.cfg.opt.station k⟩).now = s.now + dt := by
  refine State.receive_beside (f := ⟨h.src, h.sig, .grant s.cfg.opt.station k⟩)
    (P := fun t => P t ∧ t.ptb = refreshed h.src ((s.now + dt) / 1000) s.ptb ∧ t.now = s.now + dt)
    (State.grant h.src k) hr (State.deliver_grant dt h.src k) ?first ?last
  case first =>
    obtain ⟨hptb, hscu, hnow⟩ := frame (s.heardFirst dt h.src)
    rw [State.afterSlots_of_same _ _ (by rw [hscu]; rfl) (by rw [hscu]; rfl)]
    exact ⟨acts (refreshed h.src ((s.now + dt) / 1000) s.ptb), hptb, hnow⟩
  case last =>
    obtain ⟨hptb, hscu, hnow⟩ := frame (s.heardLast dt)
    have hact : ((s.heardLast dt).grant h.src k).active = true := (active _).trans hr.1
    have hms : ((s.heardLast dt).grant h.src k).ms = (s.now + dt) / 1000 := congrArg (· / 1000) hnow
    rw [hr.hear_last hact hptb, hms, State.afterSlots_of_same _ _ (by rw [hscu]; rfl) (by rw [hscu]; rfl)]
    exact ⟨table _ _ (acts s.ptb), rfl, hnow⟩

end Sys2Proof.Machine

open Sys2Proof.Machine in
/-- Settles O22: an accepted UNLOCK is `releaseVehicle` before or after the hearing, and one not accepted is none. -/
theorem unlockReleasesTheVehicle : Obligations.UnlockReleasesTheVehicle := by
  unfold Obligations.UnlockReleasesTheVehicle
  refine ⟨fun dt h s hr hp hm hv hn => ?accepted, fun dt h s hr hn => ?ignored⟩
  case accepted =>
    have acts (table : List Peer) : s.Released (State.grant h.src .unlock ((s.heardLast dt).setPtb table)) := by
      have hu : ((s.heardLast dt).setPtb table).Unlocks h.src := ⟨hp, hm, hv, hn⟩
      obtain ⟨vehicle, release, seats, stc, silent, halted, stands, motion, rest⟩ :=
        State.releaseVehicle_released (s := (s.heardLast dt).setPtb table) hr.1 hu
      rw [State.grant, State.grantUnlock_of hu]
      exact ⟨vehicle, release, seats, stc, silent, halted, stands, motion, rest⟩
    obtain ⟨⟨vehicle, release, seats, stc, silent, halted, stands, motion, rsq, scu, sck, cfg, cfs⟩, ptb, now⟩ :=
      hr.grant_beside dt acts (fun u => (u.grantUnlock_sameRide h.src).active) (fun u => by simp [State.grant])
        fun t p ⟨vehicle, release, seats, stc, silent, halted, stands, motion, rest⟩ =>
          ⟨vehicle, release, seats, stc, silent, halted, stands, motion, rest⟩
    refine ⟨_, rfl, ?_⟩
    generalize (s.elapse dt).receive ⟨h.src, h.sig, .grant s.cfg.opt.station .unlock⟩ = t at *
    refine ⟨vehicle, release, seats, fun ha => ?_, fun ha => ⟨stc.trans (if_neg ha), silent ha⟩, ?_, ?_, halted, stands,
      motion, rsq, scu, sck, ptb, cfg, cfs, now⟩
    · rw [stc, if_pos ha]
    · rw [stc]; split <;> rfl
    · rw [stc]; split <;> rfl
  case ignored =>
    have refused (u : State) (he : u.entry = s.entry) (hd : u.dsc = s.dsc) (hm : u.rm = s.rm) : ¬ u.Unlocks h.src := by
      rw [State.Unlocks, he, hd, hm]
      tauto
    exact congrArg Host.Outcome.next (State.receive_grant_ignored dt h .unlock s hr
      (State.grantUnlock_of_not (refused _ rfl rfl rfl)) (State.grantUnlock_of_not (refused _ rfl rfl rfl)))

namespace Sys2Proof.Machine

/-! ### The test of CHECKING (R112) -/

theorem Rm.anyFault_iff (m : Rm) : m.anyFault = true ↔ ∃ k ∈ m.seats, k.state = .fault := by
  simp [Rm.anyFault]

/-- A test of CHECKING takes the vehicle to SECURE or to FAULT where the seats say so (R112), and moves nothing else but
the POS request and the release output. -/
theorem State.checkingTest_checked {s : State} (hv : s.rm.vehicle = .checking) :
    s.checkingTest.rm.vehicle = (if (∀ k ∈ s.rm.seats, k.state = .notFitted ∨ k.state = .locked) then .secure
      else if (∃ k ∈ s.rm.seats, k.state = .fault) then .fault else .checking)
      ∧ s.checkingTest.rm.seats = s.rm.seats ∧ s.checkingTest.dsc = s.dsc ∧ s.checkingTest.sau = s.sau := by
  have moved (x : Restraint) : (s.setVehicle x).rm.vehicle = x ∧ (s.setVehicle x).rm.seats = s.rm.seats
      ∧ (s.setVehicle x).dsc = s.dsc ∧ (s.setVehicle x).sau = s.sau := by
    obtain ⟨hvehicle, hseats⟩ := s.setVehicle_rm x
    obtain ⟨hsau, hdsc⟩ := State.setVehicle_of_not_secure (s := s) (by simp [hv]) x
    exact ⟨hvehicle, hseats, hdsc, hsau⟩
  simp only [State.checkingTest, hv, ne_eq, not_true_eq_false, if_false, Rm.allLocked_iff, Rm.anyFault_iff]
  split
  · exact moved _
  · split
    · exact moved _
    · exact ⟨hv, rfl, rfl, rfl⟩

/-! ### The lock of the vehicle (R118) -/

theorem State.ReleaseFollows.release_of_vehicle {s : State} (h : s.ReleaseFollows) (hv : s.rm.vehicle ≠ .released) :
    s.rm.release = false := by
  simpa [State.ReleaseFollows, State.releaseHolds, hv] using h

/-- What the lock of the vehicle leaves (R118, R112). -/
structure State.Checked (s t : State) : Prop where
  vehicle : t.rm.vehicle = (if (∀ k ∈ s.rm.seats, k.state = .notFitted ∨ k.state = .locked) then .secure
      else if (∃ k ∈ s.rm.seats, k.state = .fault) then .fault else .checking)
  release : t.rm.release = false
  seats : t.rm.seats = s.rm.seats
  drive : t.dsc = s.dsc ∧ t.sau = s.sau
  rest : t.rsq = s.rsq ∧ t.scu = s.scu ∧ t.sck = s.sck ∧ t.spe = s.spe ∧ t.stc = s.stc ∧ t.cfg = s.cfg ∧ t.cfs = s.cfs

theorem State.grantLock_checked {s : State} (hv : s.rm.vehicle = .released) : s.Checked s.grantLock := by
  have hne : s.rm.vehicle ≠ .checking := by simp [hv]
  obtain ⟨kvehicle, kseats⟩ := s.setVehicle_rm .checking
  obtain ⟨ksau, kdsc⟩ := State.setVehicle_of_not_secure (s := s) (by simp [hv]) .checking
  obtain ⟨hvehicle, hseats, hdsc, hsau⟩ := State.checkingTest_checked kvehicle
  have hlock : s.grantLock = (s.setVehicle .checking).checkingTest := if_pos hv
  have hreleased : s.grantLock.rm.vehicle ≠ .released := by
    rw [hlock, hvehicle]
    split
    · nofun
    · split <;> nofun
  refine ⟨?_, ?_, ?_, ?_, by simp⟩
  · rw [hlock, hvehicle, kseats]
  · refine State.ReleaseFollows.release_of_vehicle ?_ hreleased
    rw [hlock]
    exact (State.setVehicle_follows hne).checkingTest
  · rw [hlock]; exact hseats.trans kseats
  · rw [hlock]; exact ⟨hdsc.trans kdsc, hsau.trans ksau⟩

end Sys2Proof.Machine

open Sys2Proof.Machine in
/-- Settles O23: a LOCK in RELEASED enters CHECKING and tests it, before or after the hearing, and any other is none. -/
theorem lockChecksTheSeats : Obligations.LockChecksTheSeats := by
  unfold Obligations.LockChecksTheSeats
  refine ⟨fun dt h s hr hv => ?accepted, fun dt h s hr hv => ?ignored⟩
  case accepted =>
    have acts (table : List Peer) : s.Checked (State.grant h.src .lock ((s.heardLast dt).setPtb table)) := by
      obtain ⟨vehicle, release, seats, drive, rest⟩ :=
        State.grantLock_checked (s := (s.heardLast dt).setPtb table) hv
      exact ⟨vehicle, release, seats, drive, rest⟩
    obtain ⟨⟨vehicle, release, seats, ⟨dsc, sau⟩, rsq, scu, sck, spe, stc, cfg, cfs⟩, ptb, now⟩ :=
      hr.grant_beside dt acts (fun u => u.grantLock_sameRide.active) (fun u => by simp [State.grant])
        fun t p ⟨vehicle, release, seats, drive, rest⟩ => ⟨vehicle, release, seats, drive, rest⟩
    exact ⟨_, rfl, vehicle, release, seats, dsc, sau, rsq, scu, sck, spe, stc, ptb, cfg, cfs, now⟩
  case ignored =>
    exact congrArg Host.Outcome.next (State.receive_grant_ignored dt h .lock s hr (if_neg hv) (if_neg hv))

namespace Sys2Proof.Machine

/-! ### The vehicle at a change of a seat (R112, R114, R115) -/

theorem Rm.allLocked_eq_false {m : Rm} {k : Seat} (hk : k ∈ m.seats) (hfit : k.state ≠ .notFitted)
    (hopen : k.state ≠ .locked) : m.allLocked = false :=
  Bool.eq_false_iff.mpr fun h => (m.allLocked_iff.mp h k hk).elim hfit hopen

theorem State.seatTest_of_checking {s : State} (hv : s.rm.vehicle = .checking) : s.seatTest = s.checkingTest := by
  simp only [State.seatTest, hv]

/-- While a fitted seat is not LOCKED, and in CHECKING none is in FAULT, the vehicle stays as it is. -/
theorem State.seatTest_of_open {s : State} {k : Seat} (hk : k ∈ s.rm.seats) (hfit : k.state ≠ .notFitted)
    (hopen : k.state ≠ .locked) (hfault : s.rm.vehicle = .checking → ∀ q ∈ s.rm.seats, q.state ≠ .fault) :
    s.seatTest = s := by
  have hall : s.rm.allLocked = false := Rm.allLocked_eq_false hk hfit hopen
  cases hv : s.rm.vehicle with
  | checking =>
    have hno : s.rm.anyFault = false :=
      Bool.eq_false_iff.mpr fun h => have ⟨q, hq, hf⟩ := s.rm.anyFault_iff.mp h; hfault hv q hq hf
    simp [State.seatTest, State.checkingTest, hv, hall, hno]
  | alarm => simp [State.seatTest, hv, hall]
  | released | secure | fault => simp [State.seatTest, hv]

/-- The last fitted seat to lock in ALARM withdraws RESTRAINT (R114), and at latch 0 the vehicle recovers (R115, R116). -/
theorem State.seatTest_of_alarm {s : State} (ha : s.active = true) (hv : s.rm.vehicle = .alarm)
    (hall : s.rm.allLocked = true) : s.seatTest.rm.seats = s.rm.seats ∧ s.seatTest.dsc = s.dsc ∧ s.seatTest.sau = s.sau
      ∧ s.seatTest.stc = { s.stc with causes := s.stc.causes.filter (· ≠ .restraint) }
      ∧ (s.stc.latch ≠ 0 → s.seatTest.rm.vehicle = .alarm ∧ s.seatTest.spe = s.spe)
      ∧ (s.stc.latch = 0 → s.seatTest.rm.vehicle = .secure ∧ s.seatTest.spe = s.spe.announcementEnd) := by
  have htest : s.seatTest = (s.withdraw .restraint).alarmTest s.stc.latch := by
    simp only [State.seatTest, hv, hall, if_true]
  obtain ⟨hrm, hdsc, hsau, hspe⟩ : (s.withdraw .restraint).rm = s.rm ∧ (s.withdraw .restraint).dsc = s.dsc
      ∧ (s.withdraw .restraint).sau = s.sau ∧ (s.withdraw .restraint).spe = s.spe := by simp
  have hstc : ((s.withdraw .restraint).alarmTest s.stc.latch).stc
      = { s.stc with causes := s.stc.causes.filter (· ≠ .restraint) } := by
    simp [State.withdraw_stc, ha]
  rw [htest]
  by_cases h0 : s.stc.latch = 0
  · have hrec : (s.withdraw .restraint).rm.Recovers s.stc.latch := by rw [hrm]; exact ⟨hv, hall, h0⟩
    obtain ⟨kvehicle, kseats, kspe, kdsc, ksau⟩ := State.alarmTest_recovers hrec
    exact ⟨by rw [kseats, hrm], kdsc.trans hdsc, ksau.trans hsau, hstc, fun h => absurd h0 h,
      fun _ => ⟨kvehicle, by rw [kspe, hspe]⟩⟩
  · rw [State.alarmTest_of_not_recovers fun ⟨_, _, h⟩ => h0 h] at hstc ⊢
    exact ⟨by rw [hrm], hdsc, hsau, hstc, fun _ => ⟨by rw [hrm, hv], hspe⟩, fun h => absurd h h0⟩

/-! ### The seat timers (R107, R108) -/

theorem State.seatTimer_of {s : State} {pick : Seat → Timer} {n : Nat} {k : Seat} (h1 : 1 ≤ n) (h8 : n ≤ 8)
    (hk : s.rm.seats[n - 1]? = some k) : s.seatTimer pick n = pick k := by
  rw [State.seatTimer, if_pos ⟨h1, h8⟩, State.seat_of_getElem? hk]

theorem State.confirmed_of_closing {s : State} {i : Nat} {k : Seat} (hk : s.rm.seats[i]? = some k)
    (hs : k.state = .closing) (hl : k.lk = true) (hb : k.bd = true) :
    s.confirmed i = (s.setSeat i { k with state := .locked, confirm := none }).seatTest := by
  simp [State.confirmed, State.seat_of_getElem? hk, hs, hl, hb]

theorem State.contradicted_of_opened {s : State} {i : Nat} {k : Seat} (hk : s.rm.seats[i]? = some k)
    (hs : k.state = .opened) :
    s.contradicted i = (s.setSeat i { k with state := .fault, contra := none }).seatTest := by
  simp [State.contradicted, State.seat_of_getElem? hk, hs]

/-- A running confirm timer of a CLOSING seat expires: the seat locks, and the vehicle is tested (R108). -/
theorem exec_confirmTimerExpiry {s : State} {n d : Nat} {k : Seat} (h1 : 1 ≤ n) (h8 : n ≤ 8)
    (hk : s.rm.seats[n - 1]? = some k) (hs : k.state = .closing) (hl : k.lk = true) (hb : k.bd = true)
    (ht : k.confirm = some d) (dt : Nat) : exec (.confirmTimerExpiry dt n) s = .next
      (((s.elapseTo dt (d * 1000)).setSeat (n - 1) { k with state := .locked, confirm := none }).seatTest) := by
  have hx : s.onExpiry dt (s.seatTimer Seat.confirm n) (State.confirmed (n - 1))
      = (s.elapseTo dt (d * 1000)).confirmed (n - 1) := by
    rw [State.seatTimer_of h1 h8 hk, ht]
    rfl
  exact congrArg Host.Outcome.next (hx.trans (State.confirmed_of_closing hk hs hl hb))

/-- A running contradiction timer of an OPEN seat expires: the seat goes to FAULT, and the vehicle is tested (R107). -/
theorem exec_contradictionTimerExpiry {s : State} {n d : Nat} {k : Seat} (h1 : 1 ≤ n) (h8 : n ≤ 8)
    (hk : s.rm.seats[n - 1]? = some k) (hs : k.state = .opened) (ht : k.contra = some d) (dt : Nat) :
    exec (.contradictionTimerExpiry dt n) s = .next
      (((s.elapseTo dt (d * 1000)).setSeat (n - 1) { k with state := .fault, contra := none }).seatTest) := by
  have hx : s.onExpiry dt (s.seatTimer Seat.contra n) (State.contradicted (n - 1))
      = (s.elapseTo dt (d * 1000)).contradicted (n - 1) := by
    rw [State.seatTimer_of h1 h8 hk, ht]
    rfl
  exact congrArg Host.Outcome.next (hx.trans (State.contradicted_of_opened hk hs))

end Sys2Proof.Machine

open Sys2Proof.Machine in
/-- Settles O41: an expiry moves its seat, and the test of the vehicle that follows decides by the seats as they are
then. -/
theorem seatTimersLockAndFaultTheSeat : Obligations.SeatTimersLockAndFaultTheSeat := by
  unfold Obligations.SeatTimersLockAndFaultTheSeat
  refine ⟨fun dt d n k s h1 h8 hk hs hl hb ht hv hfault => ?checking, fun dt d n k s h1 h8 hk hs ht => ?contradiction,
    fun dt d n k s ha h1 h8 hk hs hl hb ht hv => ?alarm⟩
  case checking =>
    refine ⟨_, exec_confirmTimerExpiry h1 h8 hk hs hl hb ht dt, ?_⟩
    generalize hu : (s.elapseTo dt (d * 1000)).setSeat (n - 1) { k with state := .locked, confirm := none } = u
    have huv : u.rm.vehicle = .checking := by subst hu; exact hv
    have hno : ¬ ∃ q ∈ u.rm.seats, q.state = .fault := by
      rintro ⟨q, hq, hf⟩
      subst hu
      rcases List.mem_or_eq_of_mem_set hq with hq | rfl
      · exact hfault q hq hf
      · exact absurd hf nofun
    obtain ⟨hvehicle, hseats, hdsc, hsau⟩ := State.checkingTest_checked huv
    rw [if_neg hno] at hvehicle
    rw [State.seatTest_of_checking huv]
    refine ⟨by simp [← hu, State.elapseTo], ?_, ?_, ?_⟩
    · rw [hseats, ← hu]; rfl
    · rw [hvehicle, hseats]
    · rw [hdsc, hsau, ← hu]
      simp [State.elapseTo]
  case contradiction =>
    refine ⟨_, exec_contradictionTimerExpiry h1 h8 hk hs ht dt, ?_⟩
    generalize hf : ({ k with state := .fault, contra := none } : Seat) = f
    generalize hu : (s.elapseTo dt (d * 1000)).setSeat (n - 1) f = u
    have hmem : f ∈ u.rm.seats := by
      obtain ⟨hlt, -⟩ := List.getElem?_eq_some_iff.mp hk
      subst hu
      exact List.mem_set hlt f
    have hstate : f.state = .fault := by subst hf; rfl
    have huv : u.rm.vehicle = s.rm.vehicle := by subst hu; rfl
    by_cases hv : s.rm.vehicle = .checking
    · obtain ⟨hvehicle, hseats, hdsc, hsau⟩ := State.checkingTest_checked (huv.trans hv)
      rw [if_neg fun h => (h f hmem).elim (by simp [hstate]) (by simp [hstate]), if_pos ⟨f, hmem, hstate⟩] at hvehicle
      rw [State.seatTest_of_checking (huv.trans hv), if_pos hv]
      refine ⟨by simp [← hu, State.elapseTo], ?_, hvehicle, ?_⟩
      · rw [hseats, ← hu]; rfl
      · rw [hdsc, hsau, ← hu]
        simp [State.elapseTo]
    · rw [State.seatTest_of_open hmem (by simp [hstate]) (by simp [hstate]) fun h => absurd (huv.symm.trans h) hv,
        if_neg hv]
      subst hu
      exact ⟨rfl, rfl, rfl, rfl, rfl, rfl, rfl, rfl, rfl, rfl, rfl, rfl, rfl⟩
  case alarm =>
    refine ⟨_, exec_confirmTimerExpiry h1 h8 hk hs hl hb ht dt, ?_⟩
    generalize hu : (s.elapseTo dt (d * 1000)).setSeat (n - 1) { k with state := .locked, confirm := none } = u
    have hua : u.active = true := by subst hu; exact ha
    have huv : u.rm.vehicle = .alarm := by subst hu; exact hv
    by_cases hall : u.rm.allLocked = true
    · obtain ⟨hseats, hdsc, hsau, hstc, habove, hzero⟩ := State.seatTest_of_alarm hua huv hall
      have hlocked := u.rm.allLocked_iff.mp hall
      obtain ⟨-, hnow, -, hcfg, hcfs, hptb, hrsq, hscu, hsck, -⟩ := u.seatTest_frame
      generalize u.seatTest = t at *
      subst hu
      refine ⟨hnow, hseats, fun ⟨q, hq, hfit, hlock⟩ => ?_, fun _ => ⟨hstc, habove, fun h0 => ?_⟩, hdsc, hsau, hrsq, hscu,
        hsck, hptb, hcfg, hcfs⟩
      · exact ((hlocked q (hseats ▸ hq)).elim hfit hlock).elim
      · obtain ⟨hvehicle, hspe⟩ := hzero h0
        rw [hspe]
        exact ⟨hvehicle, s.spe.announcementEnd_v0, s.spe.announcementEnd_rest⟩
    · have hopen : ∃ q ∈ u.rm.seats, q.state ≠ .notFitted ∧ q.state ≠ .locked := by
        simpa [u.rm.allLocked_iff] using hall
      obtain ⟨q, hq, hfit, hlock⟩ := hopen
      rw [State.seatTest_of_open hq hfit hlock fun h => absurd (huv.symm.trans h) nofun]
      subst hu
      exact ⟨rfl, rfl, fun _ => ⟨hv, rfl, rfl⟩, fun h => ((h q hq).elim hfit hlock).elim, rfl, rfl, rfl, rfl, rfl, rfl,
        rfl, rfl⟩

namespace Sys2Proof.Machine

/-! ### The debounce of a sample (R106) -/

theorem Seat.sample_eq (time : Nat) (x : SeatInput) (k : Seat) : k.sample time x = { k with
    rawLk := some x.lk, rawBd := some x.bd
    runLk := if k.rawLk = some x.lk then min 100 (k.runLk + 5) else 0
    runBd := if k.rawBd = some x.bd then min 100 (k.runBd + 5) else 0
    lk := (k.sample time x).lk, bd := (k.sample time x).bd } := rfl

theorem Seat.changedFrom_eq_false {k m : Seat} : k.changedFrom m = false ↔ k.lk = m.lk ∧ k.bd = m.bd := by
  simp [Seat.changedFrom]

/-- A sample that changes no debounced input takes the raw values and run times alone. -/
theorem Seat.sample_of_unchanged {time : Nat} {x : SeatInput} {k : Seat}
    (h : k.changedFrom (k.sample time x) = false) : k.sample time x = { k with
      rawLk := some x.lk, rawBd := some x.bd
      runLk := if k.rawLk = some x.lk then min 100 (k.runLk + 5) else 0
      runBd := if k.rawBd = some x.bd then min 100 (k.runBd + 5) else 0 } := by
  obtain ⟨hl, hb⟩ := Seat.changedFrom_eq_false.mp h
  rw [Seat.sample_eq, ← hl, ← hb]

/-- One seat after a sample: an input that is not fitted is not read (R105). -/
def Seat.sampled (time : Nat) (x : SeatInput) (k : Seat) : Seat := if k.fitted = true then k.sample time x else k

theorem sampleSeats_getElem? (time : Nat) (raw : List SeatInput) (seats : List Seat) (i : Nat) :
    (sampleSeats time raw seats)[i]? = seats[i]?.map (Seat.sampled time (inputAt raw i)) := by
  simp only [sampleSeats, List.getElem?_mapIdx]
  rfl

theorem sampleSeats_length (time : Nat) (raw : List SeatInput) (seats : List Seat) :
    (sampleSeats time raw seats).length = seats.length := by
  simp [sampleSeats]

theorem Seat.sampled_state (time : Nat) (x : SeatInput) (k : Seat) : (k.sampled time x).state = k.state := by
  simp only [Seat.sampled]
  split <;> rfl

/-- A sample moves no seat to another state. -/
theorem sampleSeats_state {time : Nat} {raw : List SeatInput} {seats : List Seat} {q : Seat}
    (h : q ∈ sampleSeats time raw seats) : ∃ p ∈ seats, q.state = p.state := by
  obtain ⟨i, hi⟩ := List.mem_iff_getElem?.mp h
  rw [sampleSeats_getElem?, Option.map_eq_some_iff] at hi
  obtain ⟨p, hp, rfl⟩ := hi
  exact ⟨p, List.mem_of_getElem? hp, Seat.sampled_state ..⟩

/-- The seat in place `i` is among those whose debounced inputs a sample changes. -/
def SeatChanges (time : Nat) (raw : List SeatInput) (seats : List Seat) (i : Nat) : Prop :=
  ∃ k, seats[i]? = some k ∧ k.changedFrom (k.sampled time (inputAt raw i)) = true

theorem mem_changedSeats_sampleSeats {time : Nat} {raw : List SeatInput} {seats : List Seat} {i : Nat} :
    i ∈ changedSeats seats (sampleSeats time raw seats) ↔ i < 8 ∧ SeatChanges time raw seats i := by
  simp only [changedSeats, List.mem_filter, List.mem_range, sampleSeats_getElem?, SeatChanges]
  cases seats[i]? <;> simp

/-- A seat that is not fitted, and one whose sample changes no debounced input, does not change. -/
theorem Seat.sampled_unchanged {time : Nat} {x : SeatInput} {k : Seat}
    (h : k.fitted = true → k.changedFrom (k.sample time x) = false) : k.changedFrom (k.sampled time x) = false := by
  simp only [Seat.sampled]
  split
  · next hf => exact h hf
  · exact Seat.changedFrom_eq_false.mpr ⟨rfl, rfl⟩

theorem changedSeats_eq_nil {time : Nat} {raw : List SeatInput} {seats : List Seat}
    (h : ∀ i, ¬ SeatChanges time raw seats i) : changedSeats seats (sampleSeats time raw seats) = [] :=
  List.eq_nil_iff_forall_not_mem.mpr fun i hi => h i (mem_changedSeats_sampleSeats.mp hi).2

theorem changedSeats_eq_singleton {time : Nat} {raw : List SeatInput} {seats : List Seat} {i : Nat} (h8 : i < 8)
    (hi : SeatChanges time raw seats i) (hj : ∀ j, j ≠ i → ¬ SeatChanges time raw seats j) :
    changedSeats seats (sampleSeats time raw seats) = [i] := by
  have hnodup : (changedSeats seats (sampleSeats time raw seats)).Nodup := List.nodup_range.filter _
  refine List.perm_singleton.mp ((List.perm_ext_iff_of_nodup hnodup (List.nodup_singleton i)).mpr fun j => ?_)
  rw [mem_changedSeats_sampleSeats, List.mem_singleton]
  refine ⟨fun ⟨_, hc⟩ => ?_, fun h => h ▸ ⟨h8, hi⟩⟩
  by_contra hne
  exact hj j hne hc

/-! ### The change of an OPEN or a CLOSING seat (R107, R108) -/

/-- An OPEN or CLOSING seat acts on its new pair at the given ms (R107, R108). -/
def Seat.acted (now : Nat) (opt : Options) (m : Seat) : Seat :=
  if m.state = .opened then
    if m.lk && m.bd then m.enterClosing now opt.confirmTime else m.stayOpen now opt.contraTime
  else if m.lk && m.bd then m
  else m.enterOpen now opt.contraTime

theorem Seat.acted_state {m : Seat} (h : m.state = .opened ∨ m.state = .closing) (now : Nat) (opt : Options) :
    (m.acted now opt).state = .opened ∨ (m.acted now opt).state = .closing := by
  rcases h with h | h <;> cases hb : m.lk && m.bd <;>
    simp [Seat.acted, h, hb, Seat.enterClosing, Seat.stayOpen, Seat.enterOpen]

/-- An acting seat moves alone: no vehicle takes note of an OPEN or CLOSING seat. -/
theorem State.seatChange_acted {s : State} {i : Nat} {m : Seat} (hm : s.rm.seats[i]? = some m)
    (hs : m.state = .opened ∨ m.state = .closing)
    (hfault : s.rm.vehicle = .checking → ∀ q ∈ s.rm.seats, q.state ≠ .fault) :
    s.seatChange i = s.setSeat i (m.acted s.ms s.cfg.opt) := by
  obtain ⟨hlt, hget⟩ := List.getElem?_eq_some_iff.mp hm
  have tested {k : Seat} (hk : k.state = .opened ∨ k.state = .closing) : (s.setSeat i k).seatTest = s.setSeat i k := by
    refine State.seatTest_of_open (List.mem_set hlt k) ?_ ?_ fun hv q hq => ?_
    · rcases hk with h | h <;> simp [h]
    · rcases hk with h | h <;> simp [h]
    · rcases List.mem_or_eq_of_mem_set hq with hq | rfl
      · exact hfault hv q hq
      · rcases hk with h | h <;> simp [h]
  have same : s.setSeat i m = s := by
    simp only [State.setSeat, ← hget, List.set_getElem_self]
    rfl
  have hacted := tested (Seat.acted_state hs s.ms s.cfg.opt)
  rcases hs with h | h <;> cases hb : m.lk && m.bd <;>
    simp only [State.seatChange, State.seat_of_getElem? hm, Seat.acted, h, hb, if_true] at hacted ⊢
  · rfl
  · exact hacted
  · exact hacted
  · exact same.symm

theorem Seat.acted_opened {m : Seat} (h : m.state = .opened) (now : Nat) (opt : Options) : m.acted now opt =
    if m.lk = true ∧ m.bd = true then
      { m with state := .closing, confirm := some (now + opt.confirmTime), contra := none }
    else if m.lk = true then { m with contra := some (m.contra.getD (now + opt.contraTime)) }
    else { m with contra := none } := by
  cases hl : m.lk <;> cases hb : m.bd <;> simp [Seat.acted, h, hl, hb, Seat.enterClosing, Seat.stayOpen]

theorem Seat.acted_closing {m : Seat} (h : m.state = .closing) (now : Nat) (opt : Options) : m.acted now opt =
    if m.lk = true ∧ m.bd = true then m
    else { m with
      state := .opened, confirm := none, contra := if m.lk = true then some (now + opt.contraTime) else none } := by
  cases hl : m.lk <;> cases hb : m.bd <;> simp [Seat.acted, h, hl, hb, Seat.enterOpen]

/-! ### The sample (R106, R122) -/

theorem exec_sampleTimerExpiry {s : State} {d : Nat} (h : s.rm.timer = some d) (dt : Nat) (raw : List SeatInput) :
    exec (.sampleTimerExpiry dt raw) s = .next ((s.elapseTo dt (d * 1000)).seatSample raw) := by
  show Host.Outcome.next (s.onExpiry dt s.rm.timer (State.seatSample raw)) = _
  rw [h]
  rfl

/-- A sample without a change restarts its timer and takes the raw values, parked or not. -/
theorem State.seatSample_of_unchanged {s : State} {raw : List SeatInput}
    (h : changedSeats s.rm.seats (s.sampled raw).rm.seats = []) : s.seatSample raw = s.sampled raw := by
  simp only [State.seatSample, h]
  split <;> rfl

theorem State.seatSample_of_singleton {s : State} {raw : List SeatInput} {i : Nat} (hp : s.parked = false)
    (h : changedSeats s.rm.seats (s.sampled raw).rm.seats = [i]) : s.seatSample raw = (s.sampled raw).seatChange i := by
  simp [State.seatSample, h, hp, State.seatChanges]

/-- A changed input of a fitted seat wakes a parked part (R122). -/
theorem State.seatSample_wakes {s : State} {raw : List SeatInput} {i : Nat} (hp : s.parked = true)
    (h : i ∈ changedSeats s.rm.seats (s.sampled raw).rm.seats) :
    s.seatSample raw = ((s.sampled raw).woken .restraint).netBegins := by
  have hne : (changedSeats s.rm.seats (s.sampled raw).rm.seats).isEmpty = false := by
    rw [List.isEmpty_eq_false_iff]
    exact List.ne_nil_of_mem h
  simp only [State.seatSample, hp, hne, if_true, Bool.false_eq_true, if_false, State.wake_eq]

end Sys2Proof.Machine

open Sys2Proof.Machine in
/-- Settles O39: the places of the changed seats decide: none, one seat that acts alone, or the wake of a parked part. -/
theorem samplesRunTheDebounce : Obligations.SamplesRunTheDebounce := by
  unfold Obligations.SamplesRunTheDebounce
  refine ⟨fun time x k => rfl, fun dt d raw s ht hlen hsame => ?unchanged,
    fun dt d i raw k s hp ht hlen hk hs hfault hc hsame => ?seat, fun dt d i raw k s hp ht h8 hk hfit hc => ?wakes⟩
  case unchanged =>
    have hnone : changedSeats s.rm.seats (sampleSeats s.cfg.opt.debounce raw s.rm.seats) = [] :=
      changedSeats_eq_nil fun i ⟨k, hk, hc⟩ => by simp [Seat.sampled_unchanged (hsame i k hk)] at hc
    refine ⟨_, (exec_sampleTimerExpiry ht dt raw).trans
      (congrArg Host.Outcome.next (State.seatSample_of_unchanged (s := s.elapseTo dt (d * 1000)) hnone)), rfl, rfl, rfl,
      rfl, fun i k hk => ?_, (sampleSeats_length ..).trans hlen, rfl⟩
    have hget := sampleSeats_getElem? s.cfg.opt.debounce raw s.rm.seats i
    rw [hk] at hget
    refine hget.trans (congrArg some ?_)
    simp only [Seat.sampled]
    split
    · next hf => exact Seat.sample_of_unchanged (hsame i k hk hf)
    · rfl
  case seat =>
    obtain ⟨hlt, -⟩ := List.getElem?_eq_some_iff.mp hk
    have hfit : k.fitted = true := by rcases hs with h | h <;> simp [Seat.fitted, h]
    have hsampled : k.sampled s.cfg.opt.debounce (inputAt raw i) = k.sample s.cfg.opt.debounce (inputAt raw i) :=
      if_pos hfit
    have hone : changedSeats s.rm.seats (sampleSeats s.cfg.opt.debounce raw s.rm.seats) = [i] :=
      changedSeats_eq_singleton (hlen ▸ hlt) ⟨k, hk, by rw [hsampled]; exact hc⟩ fun j hj ⟨q, hq, hcq⟩ => by
        simp [Seat.sampled_unchanged (hsame j q hq hj)] at hcq
    have hget (j : Nat) : (State.sampled raw (s.elapseTo dt (d * 1000))).rm.seats[j]?
        = s.rm.seats[j]?.map (Seat.sampled s.cfg.opt.debounce (inputAt raw j)) := sampleSeats_getElem? ..
    generalize hm : k.sample s.cfg.opt.debounce (inputAt raw i) = m at *
    have hmstate : m.state = k.state := by subst hm; rfl
    have hmcontra : m.contra = k.contra := by subst hm; rfl
    have hmget : (State.sampled raw (s.elapseTo dt (d * 1000))).rm.seats[i]? = some m := by
      rw [hget, hk, ← hsampled]
      rfl
    have hacts := State.seatChange_acted hmget (hmstate ▸ hs) fun hv q hq =>
      have ⟨p, hp, he⟩ := sampleSeats_state hq
      he ▸ hfault hv p hp
    have hexec := (exec_sampleTimerExpiry ht dt raw).trans (congrArg Host.Outcome.next
      ((State.seatSample_of_singleton (s := s.elapseTo dt (d * 1000)) hp hone).trans hacts))
    refine ⟨_, hexec, rfl, rfl, rfl, rfl, fun j q hq hj => ?other, ?moved, ?_, rfl⟩
    case other =>
      have hother := hget j
      rw [hq] at hother
      exact (List.getElem?_set_ne hj.symm).trans hother
    case moved =>
      refine (List.getElem?_set_self ((sampleSeats_length ..).symm ▸ hlt)).trans (congrArg some ?_)
      rcases hs with h | h
      · rw [Seat.acted_opened (hmstate.trans h), hmcontra, if_pos h]
        rfl
      · have hne : k.state ≠ .opened := by simp [h]
        rw [Seat.acted_closing (hmstate.trans h), if_neg hne]
        rfl
    · exact List.length_set.trans ((sampleSeats_length ..).trans hlen)
  case wakes =>
    have hchange : i ∈ changedSeats s.rm.seats (sampleSeats s.cfg.opt.debounce raw s.rm.seats) :=
      mem_changedSeats_sampleSeats.mpr ⟨h8, k, hk, by simpa [Seat.sampled, hfit] using hc⟩
    have hexec := (exec_sampleTimerExpiry ht dt raw).trans
      (congrArg Host.Outcome.next (State.seatSample_wakes (s := s.elapseTo dt (d * 1000)) hp hchange))
    obtain ⟨hsilence, -, -, hsending, hqueue⟩ :=
      ((State.sampled raw (s.elapseTo dt (d * 1000))).woken .restraint).netBegins_net
    exact ⟨_, hexec, rfl, rfl, rfl, rfl, rfl, rfl, rfl, rfl, hqueue, hsending, hsilence, rfl, rfl, rfl,
      Sck.begins_reading _, rfl, rfl, rfl, rfl⟩

namespace Sys2Proof.Machine

/-! ### The slots and the cue tracker (R123, R138) -/

/-- The slots and the tracker are sound (R123, R138). -/
def State.ScuSound (s : State) : Prop := s.SlotsSound ∧ s.TrackerSound

/-- A change that leaves sound slots and a sound tracker sound. -/
structure State.KeepsScu (s t : State) : Prop where
  sound : s.ScuSound → t.ScuSound

theorem State.KeepsScu.refl (s : State) : s.KeepsScu s := ⟨id⟩

theorem State.KeepsScu.trans {s t u : State} (h : s.KeepsScu t) (k : t.KeepsScu u) : s.KeepsScu u :=
  ⟨k.sound ∘ h.sound⟩

theorem State.keepsScu_of_scu {s t : State} (h : t.scu = s.scu) : s.KeepsScu t := by
  constructor
  simp only [State.ScuSound, State.SlotsSound, State.TrackerSound, h]
  exact id

/-- A start, parking and a wake leave the slots FREE and the tracker empty (R144). -/
theorem State.keepsScu_of_fresh {s t : State} (h1 : t.scu.slot1 = Slot.free) (h2 : t.scu.slot2 = Slot.free)
    (ht : t.scu.tracker = []) : s.KeepsScu t := ⟨fun _ => by
  simp [State.ScuSound, State.SlotsSound, State.TrackerSound, h1, h2, ht, Slot.free]⟩

theorem State.settled_keepsScu (s : State) : s.KeepsScu s.settled := State.keepsScu_of_scu rfl

theorem State.inEitherOrder_keepsScu {f g : State → State} (hf : ∀ t : State, t.KeepsScu (f t))
    (hg : ∀ t : State, t.KeepsScu (g t)) (s : State) : s.KeepsScu (s.inEitherOrder f g) :=
  State.inEitherOrder_keeps (P := s.KeepsScu) s.settled_keepsScu (fun t h => h.trans (hf t)) fun t h => h.trans (hg t)

theorem State.inAnyOrder_keepsScu {f g h : State → State} (hf : ∀ t : State, t.KeepsScu (f t))
    (hg : ∀ t : State, t.KeepsScu (g t)) (hh : ∀ t : State, t.KeepsScu (h t)) (s : State) :
    s.KeepsScu (s.inAnyOrder f g h) := by
  have order {a b c : State → State} (ha : ∀ t : State, t.KeepsScu (a t)) (hb : ∀ t : State, t.KeepsScu (b t))
      (hc : ∀ t : State, t.KeepsScu (c t)) : s.KeepsScu (c (b (a s.settled))) :=
    ((s.settled_keepsScu.trans (ha _)).trans (hb _)).trans (hc _)
  exact State.inAnyOrder_of (P := s.KeepsScu) f g h s (order hf hg hh) (order hf hh hg) (order hg hf hh)
    (order hg hh hf) (order hh hf hg) (order hh hg hf)

/-! ### The tracker loses records, and an issue adds one -/

/-- The pairs of scene and cue number that have a record, in tracker order. -/
def Scu.pairs (u : Scu) : List (Nat × Nat) := u.tracker.map fun t => (t.scene, t.cue)

theorem State.trackerSound_iff (s : State) : s.TrackerSound ↔ s.scu.pairs.length ≤ 8 ∧ s.scu.pairs.Nodup := by
  simp [State.TrackerSound, Scu.pairs]

theorem State.SameSlots.sound {s t : State} (h : s.SameSlots t) (hs : s.SlotsSound) : t.SlotsSound := by
  simpa only [State.SlotsSound, h.1, h.2] using hs

/-- Records may leave the tracker or change their state, and the slots stand. -/
theorem State.keepsScu_of_pairs {s t : State} (h : s.SameSlots t) (ht : t.scu.pairs.Sublist s.scu.pairs) :
    s.KeepsScu t := by
  constructor
  rintro ⟨hslots, htracker⟩
  rw [State.trackerSound_iff] at htracker
  exact ⟨h.sound hslots, t.trackerSound_iff.mpr ⟨ht.length_le.trans htracker.1, ht.nodup htracker.2⟩⟩

theorem State.keepsScu_of_tracker {s t : State} (h : s.SameSlots t) (ht : t.scu.tracker = s.scu.tracker) :
    s.KeepsScu t := State.keepsScu_of_pairs h (by rw [Scu.pairs, ht]; exact .refl _)

theorem Scu.freeRecord_pairs (ref : Nat) (o : WatchedOutcome) (u : Scu) :
    (u.freeRecord ref o).pairs.Sublist u.pairs := List.filter_sublist.map _

theorem Scu.dropReport_pairs (ref : Nat) (u : Scu) : (u.dropReport ref).pairs.Sublist u.pairs := by
  simp only [Scu.dropReport]
  split
  · split
    · exact u.freeRecord_pairs ref .other
    · exact .refl _
  · exact .refl _

/-- A record that changes in place keeps its pair. -/
theorem pairs_map {f : Track → Track} (hf : ∀ t, ((f t).scene, (f t).cue) = (t.scene, t.cue)) (l : List Track) :
    (l.map f).map (fun t => (t.scene, t.cue)) = l.map fun t => (t.scene, t.cue) := by
  simp only [List.map_map]
  exact List.map_congr_left fun t _ => hf t

theorem Scu.sentReport_pairs (ref ms timeout : Nat) (u : Scu) : (u.sentReport ref ms timeout).pairs = u.pairs :=
  pairs_map (fun t => by split <;> rfl) _

theorem Scu.timeOut_pairs (ref ms late : Nat) (u : Scu) : (u.timeOut ref ms late).pairs = u.pairs :=
  pairs_map (fun t => by split <;> rfl) _

theorem Scu.mem_pairs_iff {u : Scu} {scene cue : Nat} :
    (scene, cue) ∈ u.pairs ↔ (u.recordOf scene cue).isSome = true := by
  simp [Scu.pairs, Scu.recordOf]

/-- A superseded record leaves room for the new one, and none of its pair (R138). -/
theorem Scu.supersede_pairs {u : Scu} {w : CueWord} (hu : u.pairs.Nodup) (hlen : u.pairs.length ≤ 8)
    (hroom : ¬ (8 ≤ u.tracker.length ∧ (u.recordOf w.scene w.cue).isNone = true)) :
    (u.supersede w).pairs.length < 8 ∧ (u.supersede w).pairs.Nodup ∧ (w.scene, w.cue) ∉ (u.supersede w).pairs := by
  simp only [Scu.supersede]
  split
  · next r hr =>
    have hmem : r ∈ u.tracker := List.mem_of_find?_eq_some hr
    have hpair : r.scene = w.scene ∧ r.cue = w.cue := by simpa using List.find?_some hr
    have hsub := u.freeRecord_pairs r.ref .other
    refine ⟨?_, hsub.nodup hu, fun h => ?_⟩
    · have : (u.tracker.filter fun t => t.ref ≠ r.ref).length < u.tracker.length := by
        rw [List.length_filter_lt_length_iff_exists]
        exact ⟨r, hmem, by simp⟩
      simp only [Scu.pairs, Scu.freeRecord, List.length_map] at hlen ⊢
      omega
    · obtain ⟨q, hq, he⟩ := List.mem_map.mp h
      obtain ⟨hq, hne⟩ := List.mem_filter.mp hq
      have hsame : q = r := List.inj_on_of_nodup_map hu hq hmem (by simp_all)
      simp [hsame] at hne
  · next hr =>
    have hnone : (u.recordOf w.scene w.cue).isNone = true := by simp [hr]
    refine ⟨?_, hu, fun h => ?_⟩
    · rw [Scu.pairs, List.length_map]
      exact Nat.not_le.mp fun h => hroom ⟨h, hnone⟩
    · simp [Scu.mem_pairs_iff, hr] at h

/-- An issue adds a record of a pair that has none, to at most seven others (R138, R139). -/
theorem State.issue_keepsScu {w : CueWord} {s : State}
    (hroom : ¬ (8 ≤ s.scu.tracker.length ∧ (s.scu.recordOf w.scene w.cue).isNone = true)) :
    s.KeepsScu (s.issue w) := by
  constructor
  rintro ⟨hslots, htracker⟩
  rw [State.trackerSound_iff] at htracker
  obtain ⟨hlen, hnodup, hnew⟩ := Scu.supersede_pairs htracker.2 htracker.1 hroom
  have happend : ((s.scu.supersede w).appendRecord w s.ms).pairs = (s.scu.supersede w).pairs ++ [(w.scene, w.cue)] := by
    simp [Scu.pairs, Scu.appendRecord]
  have hsub : (s.issue w).scu.pairs.Sublist ((s.scu.supersede w).appendRecord w s.ms).pairs := by
    simp only [State.issue]
    split
    · simpa using Scu.dropReport_pairs ..
    · simp
  rw [happend] at hsub
  refine ⟨(s.issue_sameSlots w).sound hslots, (State.trackerSound_iff _).mpr ⟨hsub.length_le.trans ?_, hsub.nodup ?_⟩⟩
  · simpa using hlen
  · exact hnodup.append (List.nodup_singleton _) (by simpa using hnew)

/-! ### Chains -/

theorem State.setChain_keepsScu (c : Chain) (s : State) : s.KeepsScu (s.setChain c) :=
  State.keepsScu_of_tracker ⟨rfl, rfl⟩ rfl

theorem State.abandonChain_keepsScu (e : ChainEnd) (s : State) : s.KeepsScu (s.abandonChain e) := by
  refine State.keepsScu_of_tracker (s.abandonChain_sameSlots e) ?_
  simp only [State.abandonChain]
  split <;> rfl

theorem State.nextPending_keepsScu (i : Nat) (s : State) : s.KeepsScu (s.nextPending i) := by
  refine State.keepsScu_of_tracker (s.nextPending_sameSlots i) ?_
  simp only [State.nextPending]
  split <;> rfl

theorem State.runChain_keepsScu (n : Nat) (met : Bool) (s : State) : s.KeepsScu (s.runChain n met) := by
  induction n generalizing met s with
  | zero => exact .refl s
  | succ n ih =>
    simp only [State.runChain]
    split
    · exact .refl s
    · next i _ =>
      split
      · exact s.abandonChain_keepsScu _
      · split
        · exact .refl s
        · split
          · exact s.setChain_keepsScu _
          · split
            · have hskip : s.KeepsScu (s.setScu s.scu.skipWord) := State.keepsScu_of_tracker ⟨rfl, rfl⟩ rfl
              exact (hskip.trans (State.nextPending_keepsScu i _)).trans (ih false _)
            · split
              · exact s.setChain_keepsScu _
              · next hroom => exact ((State.issue_keepsScu hroom).trans (State.nextPending_keepsScu i _)).trans (ih false _)

theorem State.testChain_keepsScu (s : State) : s.KeepsScu s.testChain := by
  simp only [State.testChain]
  split
  · exact s.runChain_keepsScu ..
  · exact .refl s

theorem State.retryChain_keepsScu (r : WaitReason) (s : State) : s.KeepsScu (s.retryChain r) := by
  simp only [State.retryChain]
  split
  · exact s.runChain_keepsScu ..
  · exact .refl s

theorem State.recordFreed_keepsScu (s : State) : s.KeepsScu s.recordFreed := by
  simp only [State.recordFreed]
  split
  · exact s.retryChain_keepsScu _
  · exact s.testChain_keepsScu

theorem State.chainPulse_keepsScu (s : State) : s.KeepsScu s.chainPulse := by
  simp only [State.chainPulse]
  split
  · exact (s.setChain_keepsScu _).trans (State.testChain_keepsScu _)
  · exact .refl s

theorem State.startChain_keepsScu (i : Nat) (s : State) : s.KeepsScu (s.startChain i) :=
  (((s.abandonChain_keepsScu _).trans (State.setChain_keepsScu ..)).trans (State.setChain_keepsScu ..)).trans
    (State.testChain_keepsScu _)

theorem State.chainAction_keepsScu (s : State) : s.KeepsScu s.chainAction := by
  simp only [State.chainAction]
  split
  · exact (s.startChain_keepsScu _).trans (State.keepsScu_of_scu rfl)
  · exact .refl s

theorem State.reportDropped_keepsScu (f : Option Waiting) (s : State) : s.KeepsScu (s.reportDropped f) := by
  simp only [State.reportDropped]
  split
  · next r _ =>
    exact (State.keepsScu_of_pairs (t := s.setScu _) (s.scu.dropReport_slots r) (s.scu.dropReport_pairs r)).trans
      (State.recordFreed_keepsScu _)
  · exact .refl s

theorem State.requestFrame_keepsScu (f : Waiting) (s : State) : s.KeepsScu (s.requestFrame f) :=
  (State.keepsScu_of_scu (by simp)).trans (State.reportDropped_keepsScu ..)

/-! ### Stops -/

theorem State.setStc_keepsScu (c : Stc) (s : State) : s.KeepsScu (s.setStc c) := State.keepsScu_of_scu rfl

theorem State.notifyRise_keepsScu (was level : Nat) (s : State) : s.KeepsScu (s.notifyRise was level) := by
  have h : s.KeepsScu ((s.authorityRise was level).driveRise level) := State.keepsScu_of_scu (by simp)
  exact (h.trans (State.abandonChain_keepsScu ..)).trans (State.keepsScu_of_scu rfl)

theorem State.raiseLatch_keepsScu (level : Nat) (cause : StopCause) (origin : Nat) (s : State) :
    s.KeepsScu (s.raiseLatch level cause origin) := by
  simp only [State.raiseLatch]
  split
  · exact (s.setStc_keepsScu _).trans (State.notifyRise_keepsScu ..)
  · exact .refl s

theorem State.frameLevel_keepsScu (level : Nat) (cause : StopCause) (origin : Nat) (s : State) :
    s.KeepsScu (s.frameLevel level cause origin) := by
  simp only [State.frameLevel]
  split
  · exact (s.setStc_keepsScu _).trans (State.raiseLatch_keepsScu ..)
  · exact .refl s

theorem State.levelRises_keepsScu (c : Cause) (s : State) : s.KeepsScu (s.levelRises c) := by
  have h : s.KeepsScu ((s.putFrame (.stop c.level c.code)).1.requestPos true) := State.keepsScu_of_scu (by simp)
  exact (h.trans (State.raiseLatch_keepsScu ..)).trans (State.reportDropped_keepsScu ..)

theorem State.raise_keepsScu (c : Cause) (s : State) : s.KeepsScu (s.raise c) := by
  have hj : s.KeepsScu (s.joined c) := State.keepsScu_of_scu rfl
  rw [State.raise_eq]
  split
  · split
    · exact hj.trans (State.levelRises_keepsScu ..)
    · exact hj
  · exact .refl s

theorem State.withdraw_keepsScu (c : Cause) (s : State) : s.KeepsScu (s.withdraw c) :=
  State.keepsScu_of_scu (by simp)

theorem State.foreignAfter_keepsScu (before : Bool) (s : State) : s.KeepsScu (s.foreignAfter before) := by
  simp only [State.foreignAfter]
  split
  · exact s.raise_keepsScu _
  · split
    · exact s.withdraw_keepsScu _
    · exact .refl s

theorem State.setPtb_keepsScu (t : List Peer) (s : State) : s.KeepsScu (s.setPtb t) := State.keepsScu_of_scu rfl

/-! ### The slots change one at a time (R123) -/

/-- A slot holds a scene exactly outside FREE. -/
def Slot.Filled (k : Slot) : Prop := k.state = .free ↔ k.scene = none

/-- The soundness of the slots, seen from either of them. -/
theorem State.slotsSound_iff (k : SlotId) (s : State) : s.SlotsSound ↔
    (s.scu.slot k).Filled ∧ (s.scu.slot (otherSlot k)).Filled
      ∧ ((s.scu.slot k).scene = (s.scu.slot (otherSlot k)).scene → (s.scu.slot k).scene = none) := by
  cases k with
  | one => exact .rfl
  | two =>
    simp only [State.SlotsSound, Slot.Filled, Scu.slot, otherSlot]
    constructor
    · rintro ⟨h1, h2, hd⟩
      exact ⟨h2, h1, fun h => h.trans (hd h.symm)⟩
    · rintro ⟨h2, h1, hd⟩
      exact ⟨h1, h2, fun h => h.trans (hd h.symm)⟩

/-- A slot takes the scene `x` and the state of the other one stands: the two stay sound where the other one does not
have that scene (R123). -/
theorem State.keepsScu_of_slot {s t : State} {k : SlotId} (ht : t.scu.tracker = s.scu.tracker)
    (hk : (t.scu.slot k).Filled)
    (ho : (t.scu.slot (otherSlot k)).state = (s.scu.slot (otherSlot k)).state
      ∧ (t.scu.slot (otherSlot k)).scene = (s.scu.slot (otherSlot k)).scene)
    (hd : s.SlotsSound → (t.scu.slot k).scene = (s.scu.slot (otherSlot k)).scene → (t.scu.slot k).scene = none) :
    s.KeepsScu t := by
  constructor
  rintro ⟨hslots, htracker⟩
  obtain ⟨-, hother, -⟩ := (s.slotsSound_iff k).mp hslots
  refine ⟨(t.slotsSound_iff k).mpr ⟨hk, ?_, ?_⟩, ?_⟩
  · rw [Slot.Filled, ho.1, ho.2]; exact hother
  · rw [ho.2]; exact hd hslots
  · simpa only [State.TrackerSound, ht] using htracker

theorem State.moveSlot_keepsScu {k : SlotId} {v : Slot} {s : State} (hv : v.Filled)
    (hd : s.SlotsSound → v.scene = (s.scu.slot (otherSlot k)).scene → v.scene = none) :
    s.KeepsScu (s.setScu (s.scu.moveSlot k v)) := by
  have hk := s.scu.slot_moveSlot k v
  refine State.keepsScu_of_slot (k := k) (s.scu.moveSlot_rest k v).2.1 ?_ (s.scu.other_moveSlot k v) ?_
  · rw [State.setScu_scu, hk]; exact hv
  · rw [State.setScu_scu, hk]; exact hd

/-- Scene `x` is not in the slot beside slot `k`. -/
def State.NotBeside (k : SlotId) (x : Nat) (s : State) : Prop := (s.scu.slot (otherSlot k)).scene ≠ some x

/-- The scene of a slot is not in the other one (R123). -/
theorem State.SlotsSound.notBeside {s : State} (h : s.SlotsSound) {k : SlotId} {x : Nat}
    (hx : (s.scu.slot k).scene = some x) : s.NotBeside k x := fun ho => by
  obtain ⟨-, -, hd⟩ := (s.slotsSound_iff k).mp h
  have := hd (hx.trans ho.symm)
  rw [hx] at this
  cases this

theorem State.moveSlot_scene_keepsScu {k : SlotId} {v : Slot} {x : Nat} {s : State} (hs : v.state ≠ .free)
    (hv : v.scene = some x) (hd : s.SlotsSound → s.NotBeside k x) : s.KeepsScu (s.setScu (s.scu.moveSlot k v)) :=
  State.moveSlot_keepsScu (by simp [Slot.Filled, hs, hv]) fun hsound he => absurd (he.symm.trans hv) (hd hsound)

theorem State.slotNotice_keepsScu (s : State) : s.KeepsScu s.slotNotice := State.keepsScu_of_scu (by simp)

theorem State.enterClaiming_keepsScu {k : SlotId} {x : Nat} {s : State} (hd : s.SlotsSound → s.NotBeside k x) :
    s.KeepsScu (s.enterClaiming k x) :=
  ((State.moveSlot_scene_keepsScu (by simp) rfl hd).trans (State.requestFrame_keepsScu ..)).trans
    (State.slotNotice_keepsScu _)

section
variable {tell : Nat → State → State} (htell : ∀ n t, State.KeepsScu t (tell n t))
include htell

theorem State.removeWith_keepsScu (station : Nat) (s : State) : s.KeepsScu (s.removeWith tell station) := by
  have h (t : List Peer) := (s.setPtb_keepsScu t).trans (State.foreignAfter_keepsScu s.foreignSeen _)
  simp only [State.removeWith]
  split
  · exact .refl s
  · split
    · exact (h _).trans (htell ..)
    · exact h _

theorem State.pinWith_keepsScu (f : Pin) (station : Option Nat) (s : State) :
    s.KeepsScu (s.pinWith tell f station) := by
  have h := s.setPtb_keepsScu (namePin f station s.ptb)
  simp only [State.pinWith]
  split
  · exact h
  · split
    · exact h
    · split
      · exact h.trans (State.removeWith_keepsScu htell ..)
      · exact h

/-- A lifted slot keeps its scene and waits anew or re-claims (R128). -/
theorem State.liftWith_keepsScu {k : SlotId} {s : State} (hw : (s.scu.slot k).state ≠ .free) :
    s.KeepsScu (s.liftWith tell k) := by
  simp only [State.liftWith]
  split
  · exact .refl s
  · next x hx =>
    have hd (h : s.SlotsSound) : s.NotBeside k x := h.notBeside hx
    split
    · next y _ =>
      refine State.KeepsScu.trans (State.keepsScu_of_slot (k := k) ?_ ?_ ?_ ?_) (State.pinWith_keepsScu htell ..)
      · cases k <;> rfl
      · cases k <;> simp_all [Slot.Filled, Scu.setSlot, Scu.slot]
      · cases k <;> exact ⟨rfl, rfl⟩
      · intro hsound he
        refine absurd (he.symm.trans ?_) (hd hsound)
        cases k <;> exact hx
    · exact (State.enterClaiming_keepsScu hd).trans (State.pinWith_keepsScu htell ..)

end

theorem Slot.ne_free_of_waitsOn {v : Slot} {station : Nat} (h : v.waitsOn station = true) : v.state ≠ .free := by
  simp only [Slot.waitsOn, Bool.and_eq_true, decide_eq_true_eq] at h
  simp [h.1]

theorem State.tellGone_keepsScu (n station : Nat) (s : State) : s.KeepsScu (s.tellGone n station) := by
  induction n generalizing station s with
  | zero => exact .refl s
  | succ n ih =>
    have lift (k : SlotId) (t : State) : t.KeepsScu (if (t.scu.slot k).waitsOn station then
        t.liftWith (State.tellGone n) k else t) := by
      split
      · next hw => exact State.liftWith_keepsScu ih (Slot.ne_free_of_waitsOn hw)
      · exact .refl t
    exact (lift .one s).trans (lift .two _)

theorem State.tellScu_keepsScu (station : Nat) (s : State) : s.KeepsScu (s.tellScu station) := s.tellGone_keepsScu ..

theorem State.removePeer_keepsScu (station : Nat) (s : State) : s.KeepsScu (s.removePeer station) :=
  State.removeWith_keepsScu State.tellScu_keepsScu station s

theorem State.pin_keepsScu (f : Pin) (station : Option Nat) (s : State) : s.KeepsScu (s.pin f station) :=
  State.pinWith_keepsScu State.tellScu_keepsScu f station s

theorem State.liftBlock_keepsScu {k : SlotId} {s : State} (hw : (s.scu.slot k).state ≠ .free) :
    s.KeepsScu (s.liftBlock k) := State.liftWith_keepsScu State.tellScu_keepsScu hw

theorem State.enterWaiting_keepsScu {k : SlotId} {x : Nat} {s : State} (station : Nat)
    (hd : s.SlotsSound → s.NotBeside k x) : s.KeepsScu (s.enterWaiting k x station) := by
  generalize hv : (⟨some x, .waiting, none, some station, none⟩ : Slot) = v
  have h : s.KeepsScu (s.setScu (s.scu.moveSlot k v)).slotNotice :=
    (State.moveSlot_scene_keepsScu (by simp [← hv]) (by simp [← hv]) hd).trans (State.slotNotice_keepsScu _)
  have hw : ((s.setScu (s.scu.moveSlot k v)).slotNotice.scu.slot k).state ≠ .free := by
    simp [Scu.slot_moveSlot, ← hv]
  simp only [State.enterWaiting, hv]
  split
  · exact h.trans (State.pin_keepsScu ..)
  · exact h.trans (State.liftBlock_keepsScu hw)

theorem State.freeSlot_keepsScu (frame : Bool) (k : SlotId) (s : State) : s.KeepsScu (s.freeSlot frame k) := by
  have hs : s.KeepsScu (s.setScu (s.scu.moveSlot k Slot.free)) :=
    State.moveSlot_keepsScu (by simp [Slot.Filled, Slot.free]) fun _ _ => rfl
  have notice (u : State) (h : s.KeepsScu u) : s.KeepsScu (if (s.scu.slot k).state = .waiting then
      u.slotNotice.pin (.slot k) none else u.slotNotice) := by
    split
    · exact (h.trans (State.slotNotice_keepsScu _)).trans (State.pin_keepsScu ..)
    · exact h.trans (State.slotNotice_keepsScu _)
  refine notice _ ?_
  split
  · exact hs.trans (State.requestFrame_keepsScu ..)
  · exact hs

/-- A CLAIM action takes a slot only for a scene that neither slot has (R126). -/
theorem State.claimAction_keepsScu (x : Nat) (s : State) : s.KeepsScu (s.claimAction x) := by
  simp only [State.claimAction]
  split
  · exact .refl s
  · next hx =>
    obtain ⟨h1, h2⟩ := not_or.mp hx
    have hd (k : SlotId) (_ : s.SlotsSound) : s.NotBeside k x := by
      cases k
      · exact h2
      · exact h1
    split
    · exact s.raise_keepsScu _
    · split
      · exact State.enterWaiting_keepsScu _ (hd _)
      · exact State.enterClaiming_keepsScu (hd _)

theorem State.freeAction_keepsScu (x : Nat) (s : State) : s.KeepsScu (s.freeAction x) := by
  simp only [State.freeAction]
  split
  · exact s.freeSlot_keepsScu ..
  · split
    · exact s.freeSlot_keepsScu ..
    · exact .refl s

theorem State.claimHeard_keepsScu (src x : Nat) (k : SlotId) (s : State) : s.KeepsScu (s.claimHeard src x k) := by
  simp only [State.claimHeard]
  split
  · next h => exact State.enterWaiting_keepsScu _ fun hs => hs.notBeside h.2.1
  · exact .refl s

theorem State.freeHeard_keepsScu (src x : Nat) (k : SlotId) (s : State) : s.KeepsScu (s.freeHeard src x k) := by
  simp only [State.freeHeard]
  split
  · next h => exact State.liftBlock_keepsScu (Slot.ne_free_of_waitsOn h.1)
  · exact .refl s

theorem State.posHeard_keepsScu (src : Nat) (held : List Nat) (claiming : Option Nat) (k : SlotId) (s : State) :
    s.KeepsScu (s.posHeard src held claiming k) := by
  simp only [State.posHeard]
  split
  · exact .refl s
  · next x hx =>
    split
    · exact .refl s
    · split
      · exact State.enterWaiting_keepsScu _ fun hs => hs.notBeside hx
      · exact .refl s
    · next hw =>
      split
      · exact State.liftBlock_keepsScu (by simp [hw])
      · exact .refl s
    · split
      · exact (s.freeSlot_keepsScu ..).trans (State.raise_keepsScu ..)
      · exact .refl s

theorem State.windowExpired_keepsScu (k : SlotId) (s : State) : s.KeepsScu (s.windowExpired k) := by
  simp only [State.windowExpired]
  split
  · exact .refl s
  · next x hx =>
    have hd (h : s.SlotsSound) : s.NotBeside k x := h.notBeside hx
    split
    · exact State.enterWaiting_keepsScu _ hd
    · exact (State.moveSlot_scene_keepsScu (by simp) rfl hd).trans (State.slotNotice_keepsScu _)

/-! ### Hearings -/

theorem State.makeRoom_keepsScu (s : State) : s.KeepsScu s.makeRoom := by
  simp only [State.makeRoom]
  split
  · exact .refl s
  · split
    · exact s.removePeer_keepsScu _
    · exact .refl s

theorem State.addPeer_keepsScu (station : Nat) (foreign : Bool) (s : State) : s.KeepsScu (s.addPeer station foreign) := by
  simp only [State.addPeer]
  split
  · exact (s.makeRoom_keepsScu.trans (State.setPtb_keepsScu ..)).trans (State.foreignAfter_keepsScu ..)
  · exact s.makeRoom_keepsScu

theorem State.mapPeer_keepsScu (station : Nat) (f : Peer → Peer) (s : State) : s.KeepsScu (s.mapPeer station f) :=
  s.setPtb_keepsScu _

theorem State.hearOwn_keepsScu (station : Nat) (s : State) : s.KeepsScu (s.hearOwn station) := by
  simp only [State.hearOwn]
  split
  · exact (s.mapPeer_keepsScu ..).trans (State.foreignAfter_keepsScu ..)
  · exact s.addPeer_keepsScu ..

theorem State.hearForeign_keepsScu (station : Nat) (s : State) : s.KeepsScu (s.hearForeign station) := by
  simp only [State.hearForeign]
  split
  · exact s.addPeer_keepsScu ..
  · split
    · exact ((s.mapPeer_keepsScu ..).trans (State.foreignAfter_keepsScu ..)).trans (State.tellScu_keepsScu ..)
    · exact (s.mapPeer_keepsScu ..).trans (State.foreignAfter_keepsScu ..)

theorem State.hear_keepsScu (src : Nat) (s : State) : s.KeepsScu (s.hear src) := by
  simp only [State.hear]
  split
  · exact s.hearOwn_keepsScu src
  · exact .refl s

theorem State.hearPos_keepsScu (src : Nat) (b : PosBody) (s : State) : s.KeepsScu (s.hearPos src b) :=
  (((s.hearOwn_keepsScu src).trans (State.posHeard_keepsScu ..)).trans (State.posHeard_keepsScu ..)).trans
    (State.mapPeer_keepsScu ..)

theorem State.hearSync_keepsScu (src : Nat) (s : State) : s.KeepsScu (s.hearSync src) :=
  (s.hearOwn_keepsScu src).trans (State.mapPeer_keepsScu ..)

theorem State.staleNow_keepsScu (station : Nat) (s : State) : s.KeepsScu (s.staleNow station) := by
  simp only [State.staleNow]
  split
  · exact .refl s
  · split
    · exact s.removePeer_keepsScu _
    · exact s.mapPeer_keepsScu ..

theorem State.dropNow_keepsScu (station : Nat) (s : State) : s.KeepsScu (s.dropNow station) := by
  simp only [State.dropNow]
  split
  · exact .refl s
  · split
    · exact .refl s
    · exact s.removePeer_keepsScu _


/-! ### The route -/

theorem State.setRsq_keepsScu (r : Rsq) (s : State) : s.KeepsScu (s.setRsq r) := State.keepsScu_of_scu rfl

theorem State.sceneAction_keepsScu (s : State) : s.KeepsScu s.sceneAction := by
  simp only [State.sceneAction]
  split
  · exact s.claimAction_keepsScu _
  · exact s.freeAction_keepsScu _
  · exact .refl s

theorem State.enterEntry_keepsScu (i d : Nat) (s : State) : s.KeepsScu (s.enterEntry i d) := by
  have before : s.KeepsScu (s.entering i d).soundAction := State.keepsScu_of_scu (by simp [State.entering])
  have rest (t : State) : t.KeepsScu t.entryRest :=
    t.chainAction_keepsScu.trans (State.keepsScu_of_scu (by simp [State.entryRest]))
  rw [State.enterEntry_eq]
  exact (before.trans (State.sceneAction_keepsScu _)).trans (rest _)

theorem State.advance_keepsScu (passed inTime : Bool) (carry : Nat) (s : State) :
    s.KeepsScu (s.advance passed inTime carry) := by
  have h : s.KeepsScu (if passed then s.raise .overrun else s) := by
    split
    · exact s.raise_keepsScu _
    · exact .refl s
  exact (h.trans (State.setRsq_keepsScu ..)).trans (State.enterEntry_keepsScu ..)

theorem State.positionFault_keepsScu (s : State) : s.KeepsScu s.positionFault := by
  have h : s.KeepsScu ((s.setRsq s.rsq.lose).authorityLost.setMotion .lost) := State.keepsScu_of_scu (by simp)
  exact h.trans (State.raise_keepsScu ..)

theorem State.runEnds_keepsScu (n : Nat) (s : State) : s.KeepsScu (s.runEnds n) := by
  induction n generalizing s with
  | zero => exact .refl s
  | succ n ih =>
    simp only [State.runEnds]
    split
    · exact .refl s
    · exact s.setRsq_keepsScu _
    · exact s.positionFault_keepsScu
    · exact (s.advance_keepsScu ..).trans (ih _)

theorem State.settleEnds_keepsScu (s : State) : s.KeepsScu s.settleEnds := by
  simp only [State.settleEnds]
  split
  · exact s.runEnds_keepsScu _
  · exact .refl s

theorem State.actOnRelease_keepsScu (s : State) : s.KeepsScu s.actOnRelease := by
  simp only [State.actOnRelease]
  split
  · exact s.settleEnds_keepsScu
  · exact .refl s

theorem State.afterSlots_keepsScu (before : Scu) (s : State) : s.KeepsScu (s.afterSlots before) := by
  have h : s.KeepsScu s.sceneTest := State.keepsScu_of_scu (by simp)
  simp only [State.afterSlots]
  split
  · exact h.trans (State.actOnRelease_keepsScu _)
  · exact .refl s

theorem State.routePulse_keepsScu (s : State) : s.KeepsScu s.routePulse := by
  simp only [State.routePulse]
  split
  · exact (s.setRsq_keepsScu _).trans (State.settleEnds_keepsScu _)
  · exact .refl s

/-- The chain's part of a pulse, at a KNOWN position alone (R134). -/
theorem State.countedPulse_keepsScu (s : State) : s.KeepsScu (if s.rsq.known then s.chainPulse else s) := by
  split
  · exact s.chainPulse_keepsScu
  · exact .refl s

theorem State.chainAndRoute_keepsScu (s : State) : s.KeepsScu s.chainAndRoute :=
  s.countedPulse_keepsScu.trans (State.routePulse_keepsScu _)

theorem State.pulseWithLoss_keepsScu (s : State) : s.KeepsScu s.pulseWithLoss := by
  have h := s.settled_keepsScu
  simp only [State.pulseWithLoss]
  split
  · exact (h.trans (State.raise_keepsScu ..)).trans (State.chainAndRoute_keepsScu _)
  · exact ((h.trans (State.countedPulse_keepsScu _)).trans (State.raise_keepsScu ..)).trans (State.routePulse_keepsScu _)
  · exact (h.trans (State.chainAndRoute_keepsScu _)).trans (State.raise_keepsScu ..)

theorem State.pulse_keepsScu (s : State) : s.KeepsScu s.pulse := by
  have h : s.KeepsScu (s.setDsc (s.dsc.pulse s.cfg.opt)) := State.keepsScu_of_scu rfl
  simp only [State.pulse]
  split
  · exact (h.trans (State.pulseWithLoss_keepsScu _)).trans (State.afterSlots_keepsScu ..)
  · exact (h.trans (State.chainAndRoute_keepsScu _)).trans (State.afterSlots_keepsScu ..)

theorem State.disagreement_keepsScu (s : State) : s.KeepsScu s.disagreement := by
  simp only [State.disagreement]
  split
  · exact (s.advance_keepsScu ..).trans (State.settleEnds_keepsScu _)
  · exact s.positionFault_keepsScu

theorem State.inTimeRead_keepsScu (s : State) : s.KeepsScu s.inTimeRead := by
  simp only [State.inTimeRead]
  split
  · exact State.keepsScu_of_scu rfl
  · exact ((s.setRsq_keepsScu _).trans (State.advance_keepsScu ..)).trans (State.settleEnds_keepsScu _)

theorem State.readMarker_keepsScu (id : Nat) (s : State) : s.KeepsScu (s.readMarker id) := by
  simp only [State.readMarker]
  split
  · split
    · exact .refl s
    · split
      · exact s.inTimeRead_keepsScu
      · exact s.disagreement_keepsScu
  · split
    · exact .refl s
    · split
      · split
        · exact .refl s
        · exact s.positionFault_keepsScu
      · exact s.disagreement_keepsScu

theorem State.markerHeard_keepsScu (id : Nat) (s : State) : s.KeepsScu (s.markerHeard id) := by
  simp only [State.markerHeard]
  split
  · exact (s.readMarker_keepsScu id).trans (State.afterSlots_keepsScu ..)
  · exact .refl s

theorem State.relocate_keepsScu (e d : Nat) (s : State) : s.KeepsScu (s.relocate e d) := by
  have h : s.KeepsScu ((s.setRsq { s.rsq with known := true, lastMarker := none }).withdraw .position).driveFix :=
    State.keepsScu_of_scu (by simp)
  simp only [State.relocate]
  split
  · exact (h.trans (State.enterEntry_keepsScu ..)).trans (State.settleEnds_keepsScu _)
  · exact .refl s

theorem State.dwellOver_keepsScu (s : State) : s.KeepsScu s.dwellOver :=
  ((s.setRsq_keepsScu _).trans (State.actOnRelease_keepsScu _)).trans (State.afterSlots_keepsScu ..)

/-- At a control period the AHEAD pin may move, and a released entry may be left (R57, R63, R20). -/
theorem State.controlPeriod_keepsScu (coils : Coils) (s : State) : s.KeepsScu (s.controlPeriod coils) := by
  have count : s.KeepsScu s.restartPeriod.closeCount := State.keepsScu_of_scu (by simp)
  have limits (t : State) (u : Sau) : t.KeepsScu (t.setSau u) := State.keepsScu_of_scu rfl
  have ahead (t : State) : t.KeepsScu t.computeAuthority := (limits t _).trans (State.pin_keepsScu ..)
  have drive (t : State) : t.KeepsScu (t.periodTransition.setCommand.guideStep coils) :=
    State.keepsScu_of_scu (by simp)
  exact (((count.trans (ahead _)).trans (drive _)).trans (State.actOnRelease_keepsScu _)).trans
    (State.afterSlots_keepsScu ..)

/-! ### Seats and grants -/

theorem State.seatTest_keepsScu (s : State) : s.KeepsScu s.seatTest := State.keepsScu_of_scu (by simp)

theorem State.setSeat_keepsScu (i : Nat) (k : Seat) (s : State) : s.KeepsScu (s.setSeat i k) :=
  State.keepsScu_of_scu rfl

theorem State.seatLoss_keepsScu (s : State) : s.KeepsScu s.seatLoss := by
  simp only [State.seatLoss]
  split
  case h_1 =>
    exact (State.keepsScu_of_scu (by simp)).trans
      (State.inEitherOrder_keepsScu (State.raise_keepsScu .restraint) (fun t => State.keepsScu_of_scu (by simp)) _)
  case h_2 => exact s.raise_keepsScu _
  all_goals exact .refl s

/-- Only a seat loss of a SECURE or ALARM vehicle reaches beyond the RM (R113, R114). -/
theorem State.seatChange_keepsScu (i : Nat) (s : State) : s.KeepsScu (s.seatChange i) := by
  have tested (k : Seat) : s.KeepsScu (s.setSeat i k).seatTest :=
    (s.setSeat_keepsScu i k).trans (State.seatTest_keepsScu _)
  simp only [State.seatChange]
  split
  case h_1 => exact .refl s
  case h_2 =>
    split
    · exact tested _
    · exact s.setSeat_keepsScu ..
  case h_3 =>
    split
    · exact .refl s
    · exact tested _
  case h_4 =>
    split
    · exact .refl s
    · exact ((s.setSeat_keepsScu ..).trans (State.seatLoss_keepsScu _)).trans (State.seatTest_keepsScu _)
  case h_5 =>
    split
    · exact s.setSeat_keepsScu ..
    · exact .refl s

theorem State.seatChanges_keepsScu (l : List Nat) (s : State) : s.KeepsScu (s.seatChanges l) := by
  induction l generalizing s with
  | nil => exact .refl s
  | cons i is ih => exact (s.seatChange_keepsScu i).trans (ih _)

theorem State.parkAll_keepsScu (s : State) : s.KeepsScu s.parkAll := State.keepsScu_of_fresh rfl rfl rfl

theorem State.grant_keepsScu (src : Nat) (kind : GrantKind) (s : State) : s.KeepsScu (s.grant src kind) := by
  cases kind with
  | unlock => exact State.keepsScu_of_scu (by simp [State.grant])
  | lock => exact State.keepsScu_of_scu (by simp [State.grant])
  | wake => exact .refl s
  | dispatch =>
    simp only [State.grant, State.grantDispatch]
    split
    · exact (s.setRsq_keepsScu _).trans (State.actOnRelease_keepsScu _)
    · exact .refl s
  | park =>
    simp only [State.grant, State.grantPark]
    split
    · exact s.parkAll_keepsScu
    · exact .refl s

/-! ### RESUME and the statuses of cues -/

theorem State.notifyFall_keepsScu (level : Nat) (s : State) : s.KeepsScu (s.notifyFall level) := by
  refine State.inAnyOrder_keepsScu (fun t => ?drive) (fun t => ?chain) (fun t => State.keepsScu_of_scu (by simp)) s
  case drive => exact (State.keepsScu_of_scu (by simp)).trans (State.actOnRelease_keepsScu _)
  case chain =>
    simp only [State.chainAfterFall]
    split
    · exact t.retryChain_keepsScu _
    · exact .refl t

theorem State.resume_keepsScu (s : State) : s.KeepsScu s.resume := by
  have h : s.KeepsScu s.withdrawLatched.setLatch := State.keepsScu_of_scu (by simp)
  simp only [State.resume]
  split
  · exact h.trans (State.notifyFall_keepsScu ..)
  · exact h

theorem State.freed_keepsScu (ref : Nat) (o : WatchedOutcome) (s : State) :
    s.KeepsScu (s.setScu (s.scu.freeRecord ref o)) :=
  State.keepsScu_of_pairs ⟨rfl, rfl⟩ (s.scu.freeRecord_pairs ref o)

/-- A status frees its record, and the chain goes on (R140). -/
theorem State.cueStatus_keepsScu (src : Nat) (b : CuestBody) (s : State) : s.KeepsScu (s.cueStatus src b) := by
  simp only [State.cueStatus]
  split
  · split
    · exact .refl s
    · next r _ =>
      split
      · exact .refl s
      · have freed : s.KeepsScu (s.setScu (s.scu.sentDone b r)) :=
          State.keepsScu_of_pairs ⟨rfl, rfl⟩ (s.scu.freeRecord_pairs r.ref .other)
        exact (freed.trans (State.keepsScu_of_scu (by simp))).trans (State.recordFreed_keepsScu _)
      · have freed : s.KeepsScu (s.setScu (s.scu.lateDone r)) :=
          State.keepsScu_of_pairs ⟨rfl, rfl⟩ (s.scu.freeRecord_pairs r.ref .other)
        exact freed.trans (State.recordFreed_keepsScu _)
  · exact .refl s

theorem State.lateOver_keepsScu (ref : Nat) (s : State) : s.KeepsScu (s.lateOver ref) :=
  (s.freed_keepsScu ref .other).trans (State.recordFreed_keepsScu _)

theorem State.cueTimedOut_keepsScu (ref : Nat) (s : State) : s.KeepsScu (s.cueTimedOut ref) := by
  have late : s.KeepsScu (s.setScu (s.scu.timeOut ref s.ms s.cfg.opt.lateWindow)) :=
    State.keepsScu_of_pairs ⟨rfl, rfl⟩ (by rw [State.setScu_scu, Scu.timeOut_pairs])
  simp only [State.cueTimedOut]
  split
  · exact late.trans (State.lateOver_keepsScu ref _)
  · exact late.trans (State.testChain_keepsScu _)

theorem State.pendingDue_keepsScu (s : State) : s.KeepsScu s.pendingDue :=
  (s.setChain_keepsScu _).trans (State.testChain_keepsScu _)

/-- A CUE that is sent becomes SENT in its place (R139). -/
theorem State.reportSent_keepsScu (f : Waiting) (s : State) : s.KeepsScu (s.reportSent f) := by
  simp only [State.reportSent]
  split
  · exact State.keepsScu_of_pairs ⟨rfl, rfl⟩ (by rw [State.setScu_scu, Scu.sentReport_pairs])
  · exact .refl s

theorem State.transmit_keepsScu (dt : Nat) (s : State) : s.KeepsScu (s.transmit dt) := by
  have leaves (now : Nat) (n : Ni) : s.KeepsScu ((s.setNow now).setNi n) := State.keepsScu_of_scu rfl
  simp only [State.transmit]
  split
  · exact (leaves _ _).trans (State.reportSent_keepsScu ..)
  · exact State.keepsScu_of_scu rfl
  · exact State.keepsScu_of_scu rfl

/-! ### Receptions -/

theorem State.deliver_keepsScu (src : Nat) (b : Body) (s : State) : s.KeepsScu (s.deliver src b) := by
  have hear := State.hear_keepsScu src
  cases b with
  | pos p =>
    simp only [State.deliver, State.deliverPos]
    split
    · exact State.inEitherOrder_keepsScu (State.hearPos_keepsScu src p) (State.frameLevel_keepsScu _ _ _) s
    · exact s.hearPos_keepsScu src p
  | stop level code =>
    simp only [State.deliver, State.deliverStop]
    split
    · exact State.inEitherOrder_keepsScu hear (State.frameLevel_keepsScu _ _ _) s
    · exact hear s
  | resume => exact State.inEitherOrder_keepsScu hear State.resume_keepsScu s
  | claim x =>
    exact State.inEitherOrder_keepsScu hear
      (fun t => (t.claimHeard_keepsScu ..).trans (State.claimHeard_keepsScu ..)) s
  | free x =>
    exact State.inEitherOrder_keepsScu hear (fun t => (t.freeHeard_keepsScu ..).trans (State.freeHeard_keepsScu ..)) s
  | cue _ => exact hear s
  | cuest c => exact State.inEitherOrder_keepsScu hear (State.cueStatus_keepsScu src c) s
  | sync time scene =>
    exact State.inEitherOrder_keepsScu (State.hearSync_keepsScu src) (fun t => State.keepsScu_of_scu (by simp)) s
  | grant target kind =>
    simp only [State.deliver, State.deliverGrant]
    split
    · exact State.inEitherOrder_keepsScu hear (State.grant_keepsScu src kind) s
    · exact hear s
  | fix target entry distance =>
    simp only [State.deliver, State.deliverFix]
    split
    · exact State.inEitherOrder_keepsScu hear (State.relocate_keepsScu entry distance) s
    · exact hear s
  | clear target => exact (hear s).trans (State.removePeer_keepsScu ..)

theorem State.deliverForeign_keepsScu (src : Nat) (b : Body) (s : State) : s.KeepsScu (s.deliverForeign src b) := by
  cases b with
  | stop level code =>
    simp only [State.deliverForeign]
    split
    · exact State.inEitherOrder_keepsScu (State.hearForeign_keepsScu src) (State.frameLevel_keepsScu _ _ _) s
    · exact s.hearForeign_keepsScu src
  | _ => exact s.hearForeign_keepsScu src

theorem State.wake_keepsScu (r : WakeReason) (s : State) : s.KeepsScu (s.wake r) := by
  have h : (s.wake r).scu = { Scu.start with counters := s.scu.counters } := by rw [State.wake_eq]; simp [State.woken]
  exact State.keepsScu_of_fresh (by rw [h]; rfl) (by rw [h]; rfl) (by rw [h]; rfl)

theorem State.receive_keepsScu (f : Frame) (s : State) : s.KeepsScu (s.receive f) := by
  have carrier : s.KeepsScu s.carrierFalls := State.keepsScu_of_scu (by simp)
  have net : s.KeepsScu s.carrierFalls.netHeard := State.keepsScu_of_scu (by simp)
  simp only [State.receive, State.examine]
  split
  · split
    · exact carrier.trans (State.wake_keepsScu ..)
    · exact carrier
  · split
    · simp only [State.handleFrame]
      refine State.KeepsScu.trans ?_ (State.afterSlots_keepsScu ..)
      split
      · exact net.trans (State.deliver_keepsScu ..)
      · exact net.trans (State.deliverForeign_keepsScu ..)
    · exact carrier

theorem State.receiveBytes_keepsScu (bytes : List Byte) (s : State) : s.KeepsScu (s.receiveBytes bytes) := by
  simp only [State.receiveBytes]
  split
  · exact s.receive_keepsScu _
  · exact State.keepsScu_of_scu (by simp)

/-! ### Starts, wakes and the service link -/

theorem State.pinStart_keepsScu (s : State) : s.KeepsScu s.pinStart := State.keepsScu_of_fresh rfl rfl rfl

theorem State.loadEnds_keepsScu (memory : List Byte) (s : State) : s.KeepsScu (s.loadEnds memory) := by
  simp only [State.loadEnds, State.endLoad]
  split
  · split
    · exact State.keepsScu_of_scu (by rw [State.ready_eq]; simp [State.configured])
    · exact State.keepsScu_of_scu (by simp)
  · exact .refl s

theorem State.seatSample_keepsScu (raw : List SeatInput) (s : State) : s.KeepsScu (s.seatSample raw) := by
  have h : s.KeepsScu (s.sampled raw) := State.keepsScu_of_scu rfl
  simp only [State.seatSample]
  split
  · split
    · exact h
    · exact h.trans (State.wake_keepsScu ..)
  · exact h.trans (State.seatChanges_keepsScu ..)

theorem State.netSilent_keepsScu (s : State) : s.KeepsScu s.netSilent := by
  have h (n : Ni) : s.KeepsScu (s.setNi n) := State.keepsScu_of_scu rfl
  exact (h _).trans (State.raise_keepsScu ..)

theorem State.serve_keepsScu {act : State → State × Reply} (h : ∀ s : State, s.KeepsScu (act s).1) (s : State) :
    s.KeepsScu (s.serve act) := by
  simp only [State.serve]
  split
  · exact (h s).trans (State.keepsScu_of_scu rfl)
  · exact .refl s

theorem State.awake_keepsScu (s : State) : s.KeepsScu s.awake := by
  simp only [State.awake]
  split
  · exact s.wake_keepsScu _
  · exact .refl s

theorem serviceStop_keepsScu (on : Bool) (s : State) : s.KeepsScu (serviceStop on s).1 := by
  simp only [serviceStop]
  split
  · exact .refl s
  · split
    · exact s.awake_keepsScu.trans (State.raise_keepsScu ..)
    · exact s.awake_keepsScu.trans (State.withdraw_keepsScu ..)

theorem parkCommand_keepsScu (s : State) : s.KeepsScu (parkCommand s).1 := by
  simp only [parkCommand]
  split
  · exact s.parkAll_keepsScu
  · exact .refl s

theorem restartCommand_keepsScu (s : State) : s.KeepsScu (restartCommand s).1 := by
  simp only [restartCommand]
  split
  · exact .refl s
  · exact State.keepsScu_of_scu rfl

theorem testClipCommand_keepsScu (clip : Nat) (s : State) : s.KeepsScu (testClipCommand clip s).1 := by
  simp only [testClipCommand]
  split
  · exact .refl s
  · split
    · exact .refl s
    · exact s.awake_keepsScu.trans (State.keepsScu_of_scu (by simp))

theorem ServiceCommand.act_keepsScu (c : ServiceCommand) (s : State) : s.KeepsScu (c.act s).1 := by
  cases c with
  | clearIncidents => exact s.setStc_keepsScu _
  | stopOn => exact serviceStop_keepsScu true s
  | stopOff => exact serviceStop_keepsScu false s
  | park => exact parkCommand_keepsScu s
  | restart => exact restartCommand_keepsScu s
  | testClip clip => exact testClipCommand_keepsScu clip s
  | _ => exact .refl s

theorem actLine_keepsScu (line : String) (s : State) : s.KeepsScu (actLine line s).1 := by
  simp only [actLine]
  split
  · exact ServiceCommand.act_keepsScu _ s
  · exact .refl s

theorem State.replySent_keepsScu (s : State) : s.KeepsScu s.replySent := by
  simp only [State.replySent]
  split
  · split
    · exact s.pinStart_keepsScu
    · exact State.keepsScu_of_scu rfl
  · exact .refl s

/-! ### Every command -/

theorem State.setNow_keepsScu (now : Nat) (s : State) : s.KeepsScu (s.setNow now) := State.keepsScu_of_scu rfl

theorem State.ifPowered_keepsScu {act : State → State} (h : ∀ s : State, s.KeepsScu (act s)) (s : State) :
    s.KeepsScu (s.ifPowered act) := by
  simp only [State.ifPowered]
  split
  · exact h s
  · exact .refl s

theorem State.onExpiry_keepsScu (dt : Nat) (x : Timer) {act : State → State} (h : ∀ s : State, s.KeepsScu (act s))
    (s : State) : s.KeepsScu (s.onExpiry dt x act) := by
  simp only [State.onExpiry]
  split
  · exact (s.setNow_keepsScu _).trans (h _)
  · exact s.setNow_keepsScu _

/-- Every command keeps the slots and the tracker sound. -/
theorem exec_keepsScu {s t : State} (c : Instr) (h : exec c s = .next t) : s.KeepsScu t := by
  have e (dt : Nat) {f : State → State} (hf : ∀ u : State, u.KeepsScu (f u)) : s.KeepsScu (f (s.elapse dt)) :=
    (s.setNow_keepsScu _).trans (hf (s.elapse dt))
  have expiry (dt : Nat) (x : Timer) {act : State → State} (hact : ∀ u : State, u.KeepsScu (act u)) :
      s.KeepsScu (s.onExpiry dt x act) := s.onExpiry_keepsScu dt x hact
  have slots {f : State → State} (hf : ∀ u : State, u.KeepsScu (f u)) (u : State) :
      u.KeepsScu ((f u).afterSlots u.scu) := (hf u).trans (State.afterSlots_keepsScu ..)
  cases c <;> cases h
  case powerOn | powerLoss => exact State.keepsScu_of_fresh rfl rfl rfl
  case resetInput dt => exact e dt (State.ifPowered_keepsScu State.pinStart_keepsScu)
  case loadEnd dt memory => exact e dt (State.loadEnds_keepsScu memory)
  case candidateDiscarded dt bytes => exact e dt (State.receiveBytes_keepsScu bytes)
  case carrierBusy dt => exact e dt (State.ifPowered_keepsScu fun u => State.keepsScu_of_scu rfl)
  case frameTransmit dt => exact s.transmit_keepsScu dt
  case posPeriodTimerExpiry dt => exact expiry dt _ fun u => State.keepsScu_of_scu (by simp)
  case netSilenceTimerExpiry dt => exact expiry dt _ State.netSilent_keepsScu
  case staleTime dt station => exact expiry dt _ (slots (State.staleNow_keepsScu station))
  case dropTime dt station => exact expiry dt _ (slots (State.dropNow_keepsScu station))
  case claimWindowExpiry dt k => exact expiry dt _ (slots (State.windowExpired_keepsScu k))
  case odometerPulse dt =>
    refine e dt (f := fun u => if u.active then u.pulse else u) fun u => ?_
    split
    · exact u.pulse_keepsScu
    · exact .refl u
  case markerRead dt id => exact e dt (State.markerHeard_keepsScu id)
  case dwellTimerExpiry dt => exact expiry dt _ State.dwellOver_keepsScu
  case controlPeriodExpiry dt coils => exact expiry dt _ (State.controlPeriod_keepsScu coils)
  case sampleTimerExpiry dt raw => exact expiry dt _ (State.seatSample_keepsScu raw)
  case confirmTimerExpiry dt seat => exact expiry dt _ fun u => State.keepsScu_of_scu (by simp)
  case contradictionTimerExpiry dt seat => exact expiry dt _ fun u => State.keepsScu_of_scu (by simp)
  case pendingTimerExpiry dt => exact expiry dt _ State.pendingDue_keepsScu
  case cueTimeout dt ref => exact expiry dt _ (State.cueTimedOut_keepsScu ref)
  case lateWindowExpiry dt ref => exact expiry dt _ (State.lateOver_keepsScu ref)
  case referenceSilent dt => exact expiry dt _ fun u => State.keepsScu_of_scu (by simp)
  case samplePeriod dt => exact e dt (f := State.soundPeriod) fun u => State.keepsScu_of_scu (by simp)
  case transferCompletion dt samples => exact e dt (State.ifPowered_keepsScu fun u => State.keepsScu_of_scu rfl)
  case clearIncidents dt => exact e dt (State.serve_keepsScu fun u => u.setStc_keepsScu _)
  case serviceStopOn dt => exact e dt (State.serve_keepsScu (serviceStop_keepsScu true))
  case serviceStopOff dt => exact e dt (State.serve_keepsScu (serviceStop_keepsScu false))
  case park dt => exact e dt (State.serve_keepsScu parkCommand_keepsScu)
  case restart dt => exact e dt (State.serve_keepsScu restartCommand_keepsScu)
  case testClip dt clip => exact e dt (State.serve_keepsScu (testClipCommand_keepsScu clip))
  case unknownCommand dt line => exact e dt (State.serve_keepsScu (actLine_keepsScu line))
  case serviceReplySent dt => exact e dt State.replySent_keepsScu
  case status dt | readRoute dt | readPeers dt | readSeats dt | readScenes dt | readVoices dt | readClock dt
    | readIncidents dt => exact e dt (State.serve_keepsScu .refl)
  case posFrame dt _ _ | stopFrame dt _ _ _ | resumeFrame dt _ | claimFrame dt _ _ | freeFrame dt _ _
    | cueFrame dt _ _ | cuestFrame dt _ _ | syncFrame dt _ _ _ | grantUnlock dt _ _ | grantLock dt _ _
    | grantDispatch dt _ _ | grantPark dt _ _ | grantWake dt _ _ | fixFrame dt _ _ _ _ | clearFrame dt _ _ =>
    exact e dt (State.receive_keepsScu _)

end Sys2Proof.Machine

open Sys2Proof.Machine in
/-- Settles O59: a slot takes a scene only where the other one does not have it, and an issue makes its record's place
in the tracker free first. -/
theorem slotsAndTrackerStaySound : Obligations.SlotsAndTrackerStaySound := fun _ _ h hst =>
  step_keeps (P := State.ScuSound) (fun _ _ h => h) (fun c _ _ h he => (exec_keepsScu c he).sound h) h hst

namespace Sys2Proof.Machine

/-! ### The timers of the cue tracker (R141) -/

theorem State.trackTimer_eq {s : State} {ref : Nat} {r : Track} {st : CueState} (hr : s.scu.recordRef ref = some r)
    (hs : r.state = st) : s.trackTimer st ref = r.timer := by
  simp [State.trackTimer, hr, hs]

theorem exec_cueTimeout {s : State} {ref d : Nat} {r : Track} (hr : s.scu.recordRef ref = some r)
    (hs : r.state = .sent) (hd : r.timer = some d) (dt : Nat) :
    exec (.cueTimeout dt ref) s = .next ((s.elapseTo dt (d * 1000)).cueTimedOut ref) := by
  change Host.Outcome.next (s.onExpiry dt (s.trackTimer .sent ref) (State.cueTimedOut ref)) = _
  rw [State.trackTimer_eq hr hs, hd]
  rfl

theorem exec_lateWindowExpiry {s : State} {ref d : Nat} {r : Track} (hr : s.scu.recordRef ref = some r)
    (hs : r.state = .timedOut) (hd : r.timer = some d) (dt : Nat) :
    exec (.lateWindowExpiry dt ref) s = .next ((s.elapseTo dt (d * 1000)).lateOver ref) := by
  change Host.Outcome.next (s.onExpiry dt (s.trackTimer .timedOut ref) (State.lateOver ref)) = _
  rw [State.trackTimer_eq hr hs, hd]
  rfl

@[simp] theorem Chain.watch_running (ref : Nat) (o : WatchedOutcome) (c : Chain) :
    (c.watch ref o).running = c.running := by
  simp only [Chain.watch]; split <;> rfl

/-- A record that is freed as it times out leaves no trace of its late window (R141). -/
theorem Scu.freeRecord_timeOut_tracker (ref ms late : Nat) (o : WatchedOutcome) (u : Scu) :
    ((u.timeOut ref ms late).freeRecord ref o).tracker = u.tracker.filter fun q => q.ref ≠ ref := by
  simp only [Scu.freeRecord, Scu.timeOut]
  induction u.tracker with
  | nil => rfl
  | cons t l ih =>
    rw [List.map_cons, List.filter_cons, List.filter_cons, ih]
    by_cases h : t.ref = ref <;> simp [h]

/-- The SCU after the timeout of a SENT record (R141). -/
def State.timedOutScu (ref : Nat) (s : State) : Scu :=
  if s.cfg.opt.lateWindow = 0 then (s.scu.timeOut ref s.ms s.cfg.opt.lateWindow).freeRecord ref .other
  else s.scu.timeOut ref s.ms s.cfg.opt.lateWindow

/-- The timeout changes the SCU, and the chain goes on where it waits for the record or for its place (R136, R141). -/
theorem State.cueTimedOut_eq (ref : Nat) (s : State) : s.cueTimedOut ref =
    if s.cfg.opt.lateWindow = 0 then (s.setScu (s.timedOutScu ref)).recordFreed
    else (s.setScu (s.timedOutScu ref)).testChain := by
  simp only [State.cueTimedOut, State.timedOutScu]
  split <;> rfl

theorem State.testChain_of_idle {s : State} (h : s.scu.chain.running = false) : s.testChain = s := by
  simp [State.testChain, h]

theorem State.cueTimedOut_of_idle {s : State} (h : s.scu.chain.running = false) (ref : Nat) :
    s.cueTimedOut ref = s.setScu (s.timedOutScu ref) := by
  have hidle : (s.setScu (s.timedOutScu ref)).scu.chain.running = false := by
    simp only [State.setScu_scu, State.timedOutScu]
    split <;> simpa [Scu.freeRecord, Scu.timeOut] using h
  rw [State.cueTimedOut_eq, State.recordFreed_of_idle hidle, State.testChain_of_idle hidle, ite_self]

theorem State.lateOver_of_idle {s : State} (h : s.scu.chain.running = false) (ref : Nat) :
    s.lateOver ref = s.setScu (s.scu.freeRecord ref .other) :=
  State.recordFreed_of_idle (s := s.setScu _) (by simpa [Scu.freeRecord] using h)

theorem State.timedOutScu_tracker (ref : Nat) (s : State) : (s.timedOutScu ref).tracker =
    if s.cfg.opt.lateWindow = 0 then s.scu.tracker.filter fun q => q.ref ≠ ref
    else s.scu.tracker.map fun q => if q.ref = ref then
      { q with state := .timedOut, timer := some (s.ms + s.cfg.opt.lateWindow) } else q := by
  simp only [State.timedOutScu]
  split
  · exact Scu.freeRecord_timeOut_tracker ..
  · rfl

theorem State.timedOutScu_rest (ref : Nat) (s : State) :
    (s.timedOutScu ref).counters = { s.scu.counters with timedOut := bump s.scu.counters.timedOut }
      ∧ (s.timedOutScu ref).slot1 = s.scu.slot1 ∧ (s.timedOutScu ref).slot2 = s.scu.slot2 := by
  simp only [State.timedOutScu]
  split <;> exact ⟨rfl, rfl, rfl⟩

end Sys2Proof.Machine

open Sys2Proof.Machine in
/-- Settles O44: without a running chain the two expiries change the record and its counter alone. -/
theorem cuesTimeOutAndAreFreed : Obligations.CuesTimeOutAndAreFreed := by
  unfold Obligations.CuesTimeOutAndAreFreed
  refine ⟨fun dt d ref r s hidle hr hs hd => ⟨_, exec_cueTimeout hr hs hd dt, ?timeout⟩,
    fun dt d ref r s hidle hr hs hd => ⟨_, exec_lateWindowExpiry hr hs hd dt, ?late⟩⟩
  case timeout =>
    obtain ⟨hcounters, h1, h2⟩ := (s.elapseTo dt (d * 1000)).timedOutScu_rest ref
    rw [State.cueTimedOut_of_idle (s := s.elapseTo dt (d * 1000)) hidle]
    exact ⟨rfl, State.timedOutScu_tracker .., hcounters, h1, h2, rfl⟩
  case late =>
    rw [State.lateOver_of_idle (s := s.elapseTo dt (d * 1000)) hidle]
    exact ⟨rfl, rfl, rfl, rfl, rfl, rfl⟩

namespace Sys2Proof.Machine

/-! ### A pending word that is acted on (R134, R135) -/

/-- The state after word `i` has been acted on (R135) and the word after it, if any, has become pending. -/
def State.wordActed (i : Nat) (s : State) : State :=
  if 0 < s.stc.latch then s.setChain { s.scu.chain with reason := .stopped }
  else if s.scu.holdsScene (s.cfg.word i).scene = false then (s.setScu s.scu.skipWord).nextPending i
  else if 8 ≤ s.scu.tracker.length ∧ s.scu.recordOf (s.cfg.word i).scene (s.cfg.word i).cue = none then
    s.setChain { s.scu.chain with reason := .trackerFull }
  else (s.issue (s.cfg.word i)).nextPending i

/-- A chain rests after its last word, and at an AFTER-TIME word until its timer expires (R133, R134). -/
theorem State.runChain_nextPending {s : State} {i : Nat} (h : s.cfg.LastOrTimed i) (n : Nat) :
    (s.nextPending i).runChain n false = s.nextPending i := by
  cases n with
  | zero => rfl
  | succ n =>
    rcases h with h | ⟨j, ms, h, ht, hms⟩
    · simp [State.nextPending, h, State.runChain, State.setChain, Chain.finish]
    · simp [State.nextPending, h, State.runChain, State.becomePending, State.setChain, State.chainBroken,
        State.triggerMet, ht, Nat.ne_of_gt hms]

/-- A pending word whose trigger is met, or that is not tested again, is acted on (R134, R135). -/
theorem State.runChain_acts {s : State} {i : Nat} {met : Bool} (hp : s.scu.chain.pending = some i)
    (hmet : met = true ∨ s.chainBroken (s.cfg.word i) = false ∧ s.triggerMet (s.cfg.word i) = true)
    (h : s.cfg.LastOrTimed i) (n : Nat) : s.runChain (n + 1) met = s.wordActed i := by
  have hb : (!met && s.chainBroken (s.cfg.word i)) = false := by rcases hmet with hm | ⟨hm, -⟩ <;> simp [hm]
  have ht : (!met && !s.triggerMet (s.cfg.word i)) = false := by rcases hmet with hm | ⟨-, hm⟩ <;> simp [hm]
  simp only [State.runChain, hp, hb, ht, State.wordActed, Bool.not_eq_true', Option.isNone_iff_eq_none,
    Bool.false_eq_true, if_false]
  split
  · rfl
  · split
    · exact State.runChain_nextPending (s := s.setScu s.scu.skipWord) h n
    · split
      · rfl
      · exact State.runChain_nextPending (s := s.issue _) (by simpa using h) n

theorem State.testChain_acts {s : State} {i : Nat} (hr : s.scu.chain.running = true)
    (hw : s.scu.chain.reason = .trigger) (hp : s.scu.chain.pending = some i)
    (hb : s.chainBroken (s.cfg.word i) = false) (hm : s.triggerMet (s.cfg.word i) = true)
    (h : s.cfg.LastOrTimed i) : s.testChain = s.wordActed i := by
  rw [State.testChain, hr, hw]
  exact State.runChain_acts hp (.inr ⟨hb, hm⟩) h 128

theorem State.retryChain_acts {s : State} {i : Nat} {r : WaitReason} (hr : s.scu.chain.running = true)
    (hw : s.scu.chain.reason = r) (hp : s.scu.chain.pending = some i) (h : s.cfg.LastOrTimed i) :
    s.retryChain r = s.wordActed i := by
  rw [State.retryChain, hr, decide_eq_true hw]
  exact State.runChain_acts hp (.inl rfl) h 128

theorem State.recordFreed_of_trigger {s : State} (h : s.scu.chain.reason = .trigger) : s.recordFreed = s.testChain := by
  simp [State.recordFreed, h]

/-- At its last word a chain that waits for DONE is broken by any other outcome (R136). -/
theorem State.testChain_breaks {s : State} {i : Nat} (hr : s.scu.chain.running = true)
    (hw : s.scu.chain.reason = .trigger) (hp : s.scu.chain.pending = some i)
    (ht : (s.cfg.word i).trigger = .onDone) (ho : s.scu.chain.outcome = .other) :
    s.testChain = s.abandonChain .broken := by
  simp [State.testChain, hr, hw, State.runChain, hp, State.chainBroken, ht, ho]

theorem State.abandonChain_broken {s : State} {i : Nat} (hr : s.scu.chain.running = true)
    (hp : s.scu.chain.pending = some i) (hn : s.cfg.nextWord i = none) :
    (s.abandonChain .broken).scu.tracker = s.scu.tracker ∧ Scu.Broken s.scu (s.abandonChain .broken).scu := by
  simp [State.abandonChain, hr, Scu.Broken, Chain.finish, State.wordsLeft, hp, Configuration.chainLength, hn,
    Counters.abandon]

/-! ### What the acting on a word leaves (R133, R135, R138) -/

/-- Of the SCU the passing to the next word changes the chain alone. -/
theorem State.nextPending_scu (i : Nat) (s : State) :
    (s.nextPending i).scu = { s.scu with chain := (s.nextPending i).scu.chain } := by
  simp only [State.nextPending]
  split <;> rfl

theorem State.wordActed_frame (i : Nat) (s : State) :
    (s.wordActed i).powered = s.powered ∧ (s.wordActed i).now = s.now ∧ (s.wordActed i).cfg = s.cfg
      ∧ (s.wordActed i).cfs = s.cfs ∧ (s.wordActed i).ptb = s.ptb ∧ (s.wordActed i).sau = s.sau
      ∧ (s.wordActed i).dsc = s.dsc ∧ (s.wordActed i).rm = s.rm ∧ (s.wordActed i).rsq = s.rsq
      ∧ (s.wordActed i).sck = s.sck ∧ (s.wordActed i).spe = s.spe ∧ (s.wordActed i).stc = s.stc := by
  simp only [State.wordActed]
  split
  · simp
  · split
    · simp
    · split
      · simp
      · simp

theorem State.wordActed_sameSlots (i : Nat) (s : State) : s.SameSlots (s.wordActed i) := by
  simp only [State.wordActed]
  split
  · exact ⟨rfl, rfl⟩
  · split
    · exact .trans (t := s.setScu s.scu.skipWord) ⟨rfl, rfl⟩ (State.nextPending_sameSlots ..)
    · split
      · exact ⟨rfl, rfl⟩
      · exact (s.issue_sameSlots _).trans (State.nextPending_sameSlots ..)

/-- Above latch 0 the word waits with STOPPED (R135). -/
theorem State.wordActed_of_latched {s : State} (h : 0 < s.stc.latch) (i : Nat) :
    (s.wordActed i).scu = { s.scu with chain := { s.scu.chain with reason := .stopped } } :=
  congrArg State.scu (if_pos h)

theorem State.wordActed_of_full {s : State} {i : Nat} (hl : s.stc.latch = 0)
    (hh : s.scu.holdsScene (s.cfg.word i).scene = true) (hf : 8 ≤ s.scu.tracker.length)
    (hr : s.scu.recordOf (s.cfg.word i).scene (s.cfg.word i).cue = none) :
    (s.wordActed i).scu = { s.scu with chain := { s.scu.chain with reason := .trackerFull } } := by
  simp [State.wordActed, hl, hh, hf, hr, State.setChain]

/-- After word `i` the chain is complete, or its AFTER-TIME successor is pending (R133, R134). -/
theorem State.nextPending_passed {s t : State} {u : Scu} {i : Nat} {watched : Option Nat} {outcome : WatchedOutcome}
    (hc : t.scu.chain = { u.chain with watched := watched, outcome := outcome }) (hcfg : t.cfg = s.cfg) :
    s.WordPassed i watched outcome u (t.nextPending i) := by
  refine ⟨fun hn => ?_, fun j ms hn ht hms => ?_⟩
  · simp [State.nextPending, hcfg, hn, State.setChain, Chain.finish, hc]
  · simp [State.nextPending, hcfg, hn, State.becomePending, State.setChain, ht, Nat.ne_of_gt hms, hc, State.ms]

/-- A word whose scene is not HELD is skipped (R135, R136). -/
theorem State.wordActed_of_not_held {s : State} {i : Nat} (hl : s.stc.latch = 0)
    (hh : s.scu.holdsScene (s.cfg.word i).scene = false) :
    (s.wordActed i).scu.tracker = s.scu.tracker ∧ (s.wordActed i).scu.nextRef = s.scu.nextRef
      ∧ (s.wordActed i).scu.counters = { s.scu.counters with notHeld := bump s.scu.counters.notHeld }
      ∧ s.WordPassed i none .other s.scu (s.wordActed i) := by
  have he : s.wordActed i = (s.setScu s.scu.skipWord).nextPending i := by simp [State.wordActed, hl, hh]
  rw [he, State.nextPending_scu]
  exact ⟨rfl, rfl, rfl, State.nextPending_passed (s := s) (t := s.setScu s.scu.skipWord) rfl rfl⟩

/-- A superseded record is freed and counted (R138). -/
theorem Scu.supersede_tracker (w : CueWord) (u : Scu) : (u.supersede w).tracker =
    match u.recordOf w.scene w.cue with
    | some r => u.tracker.filter fun q => q.ref ≠ r.ref
    | none => u.tracker := by
  cases h : u.recordOf w.scene w.cue <;> simp [Scu.supersede, h, Scu.freeRecord]

theorem Scu.supersede_counters (w : CueWord) (u : Scu) : (u.supersede w).counters =
    match u.recordOf w.scene w.cue with
    | some _ => { u.counters with superseded := bump u.counters.superseded }
    | none => u.counters := by
  cases h : u.recordOf w.scene w.cue <;> simp [Scu.supersede, h]

theorem Scu.supersede_of_none {w : CueWord} {u : Scu} (h : u.recordOf w.scene w.cue = none) : u.supersede w = u := by
  simp [Scu.supersede, h]

/-- An issue leaves of the chain everything but what it watches (R136). -/
theorem Scu.supersede_chain (w : CueWord) (u : Scu) : (u.supersede w).nextRef = u.nextRef
    ∧ ∀ a o, { (u.supersede w).chain with watched := a, outcome := o } = { u.chain with watched := a, outcome := o } := by
  simp only [Scu.supersede]
  split
  · refine ⟨rfl, fun a o => ?_⟩
    simp only [Scu.freeRecord, Chain.watch]
    split <;> rfl
  · exact ⟨rfl, fun _ _ => rfl⟩

/-- An issue at a queue with room has its record and its CUE (R138, R36). -/
theorem State.issue_of_room {s : State} (w : CueWord) (h : s.ni.queue.length < 6) :
    (s.issue w).scu = (s.scu.supersede w).appendRecord w s.ms
      ∧ .cue ⟨w.scene, w.cue, s.dsc.speed, s.showTime⟩ s.scu.nextRef ∈ (s.issue w).ni.queue := by
  generalize hf : Waiting.cue ⟨w.scene, w.cue, s.dsc.speed, s.showTime⟩ s.scu.nextRef = f
  have hj : joinQueue f s.ni.queue = (insertFrame f s.ni.queue, none) := by simp [joinQueue, h]
  have hi : s.issue w = ((s.setScu ((s.scu.supersede w).appendRecord w s.ms)).putFrame f).1 := by
    simp only [State.issue, hf]
    split
    · next hd => simp [State.putFrame, hj, cueRef] at hd
    · rfl
  rw [hi]
  refine ⟨by simp, ?_⟩
  rw [State.putFrame_queue, State.setScu_ni, hj]
  exact mem_insertFrame.mpr (.inl rfl)

/-- A word is issued where its scene is HELD and the tracker has room or a record of its pair (R135, R138). -/
theorem State.wordActed_of_room {s : State} {i : Nat} (hl : s.stc.latch = 0)
    (hh : s.scu.holdsScene (s.cfg.word i).scene = true)
    (hr : s.scu.tracker.length < 8 ∨ (s.scu.recordOf (s.cfg.word i).scene (s.cfg.word i).cue).isSome = true)
    (hq : s.ni.queue.length < 6) :
    (s.wordActed i).scu.tracker = (s.scu.supersede (s.cfg.word i)).tracker ++
        [⟨s.scu.nextRef, (s.cfg.word i).scene, (s.cfg.word i).cue, .queued, s.ms, none, (s.cfg.word i).suppressLate,
          (s.cfg.word i).link, none⟩]
      ∧ (s.wordActed i).scu.counters = (s.scu.supersede (s.cfg.word i)).counters
      ∧ (s.wordActed i).scu.nextRef = (s.scu.nextRef + 1) % 65536
      ∧ .cue ⟨(s.cfg.word i).scene, (s.cfg.word i).cue, s.dsc.speed, s.showTime⟩ s.scu.nextRef
        ∈ (s.wordActed i).ni.queue
      ∧ s.WordPassed i (some s.scu.nextRef) .pending s.scu (s.wordActed i) := by
  have hroom : ¬ (8 ≤ s.scu.tracker.length
      ∧ s.scu.recordOf (s.cfg.word i).scene (s.cfg.word i).cue = none) := by
    rintro ⟨hf, hn⟩
    rcases hr with hr | hr
    · omega
    · simp [hn] at hr
  have he : s.wordActed i = (s.issue (s.cfg.word i)).nextPending i := by simp [State.wordActed, hl, hh, hroom]
  obtain ⟨hscu, hcue⟩ := State.issue_of_room (s.cfg.word i) hq
  obtain ⟨hnext, hchain⟩ := s.scu.supersede_chain (s.cfg.word i)
  rw [he, State.nextPending_scu, hscu]
  refine ⟨?_, rfl, ?_, by simpa using hcue, State.nextPending_passed ?_ (by simp)⟩
  · simp only [Scu.appendRecord, hnext]
  · simp only [Scu.appendRecord, hnext]
  · rw [hscu]
    simp only [Scu.appendRecord, hnext]
    exact hchain ..

/-- Word `i` is acted on in state `v` of an event that began in `s` and ends in `t`: what the event does before is no
matter to the word, and what it does after leaves the SCU and the CUE alone. -/
structure State.ActsOnWord (i : Nat) (s v t : State) : Prop where
  cfg : v.cfg = s.cfg
  latch : v.stc.latch = s.stc.latch
  speed : v.dsc.speed = s.dsc.speed
  room : s.ni.queue.length < 5 → v.ni.queue.length < 6
  scu : t.scu = (v.wordActed i).scu
  now : t.now = v.now
  sck : t.sck = v.sck
  cues : ∀ b ref, .cue b ref ∈ (v.wordActed i).ni.queue → .cue b ref ∈ t.ni.queue

theorem State.ActsOnWord.actedOn {i : Nat} {s v t : State} (h : s.ActsOnWord i v t) : s.WordActedOn i v.scu t := by
  obtain ⟨hcfg, hlatch, hspeed, hroom, hscu, hnow, hsck, hcues⟩ := h
  have hacted : (v.wordActed i).now = v.now := (v.wordActed_frame i).2.1
  have hshow : t.showTime = v.showTime := by rw [State.showTime, State.showTime, hsck, hnow]
  have passed {a : Option Nat} {o : WatchedOutcome} (hp : v.WordPassed i a o v.scu (v.wordActed i)) :
      s.WordPassed i a o v.scu t := by
    simpa only [State.WordPassed, hscu, hcfg, hnow, hacted] using hp
  simp only [State.WordActedOn, ← hcfg, ← hlatch, ← hspeed, hshow, hscu, hnow]
  refine ⟨fun hl => v.wordActed_of_latched hl i, fun hl hh => ?_, fun hl hh hf hr => State.wordActed_of_full hl hh hf hr,
    fun hl hh hr hq => ?_⟩
  · obtain ⟨ht, hn, hc, hp⟩ := State.wordActed_of_not_held hl hh
    exact ⟨ht, hn, hc, passed hp⟩
  · obtain ⟨ht, hc, hn, hcue, hp⟩ := State.wordActed_of_room hl hh hr (hroom hq)
    rw [Scu.supersede_tracker] at ht
    rw [Scu.supersede_counters] at hc
    exact ⟨ht, hc, hn, hcues _ _ hcue, passed hp⟩

/-- The acting on the word is the last that the event does. -/
theorem State.actsOnWord_last {i : Nat} {s v : State} (hcfg : v.cfg = s.cfg) (hlatch : v.stc.latch = s.stc.latch)
    (hspeed : v.dsc.speed = s.dsc.speed) (hroom : s.ni.queue.length < 5 → v.ni.queue.length < 6) :
    s.ActsOnWord i v (v.wordActed i) := by
  obtain ⟨-, hnow, -, -, -, -, -, -, -, hsck, -⟩ := v.wordActed_frame i
  exact ⟨hcfg, hlatch, hspeed, hroom, rfl, hnow, hsck, fun _ _ => id⟩

end Sys2Proof.Machine

namespace Sys2Proof.Machine

/-! ### The events at which a word is acted on -/

/-- The pending timer of an AFTER-TIME word expires (R134). -/
def State.pendingElapsed (dt d : Nat) (s : State) : State :=
  (s.elapseTo dt (d * 1000)).setChain { s.scu.chain with timer := none }

theorem exec_pendingTimerExpiry {s : State} {d i t' : Nat} (hr : s.scu.chain.running = true)
    (hw : s.scu.chain.reason = .trigger) (hp : s.scu.chain.pending = some i) (hd : s.scu.chain.timer = some d)
    (ht : (s.cfg.word i).trigger = .afterTime t') (h : s.cfg.LastOrTimed i) (dt : Nat) :
    exec (.pendingTimerExpiry dt) s = .next ((s.pendingElapsed dt d).wordActed i) := by
  have hcfg : (s.pendingElapsed dt d).cfg = s.cfg := rfl
  have htimer : (s.pendingElapsed dt d).scu.chain.timer = none := rfl
  have hacts : (s.pendingElapsed dt d).testChain = (s.pendingElapsed dt d).wordActed i :=
    State.testChain_acts hr hw hp (by simp [State.chainBroken, hcfg, ht])
      (by simp [State.triggerMet, hcfg, ht, htimer]) h
  change Host.Outcome.next (s.onExpiry dt s.scu.chain.timer State.pendingDue) = _
  rw [hd, ← hacts]
  rfl

/-- The chain at a counted pulse (R134). -/
def State.chainCounted (dt : Nat) (s : State) : State :=
  (s.counted dt).setChain { s.scu.chain with
    distance := min 4294967295 (s.scu.chain.distance + s.cfg.opt.odometer) }

/-- A pulse that brings the chain distance to its word's distance, short of the entry's end (R5, R134). -/
theorem exec_odometerPulse_acts {s : State} {i a : Nat} (ha : s.active = true) (hk : s.rsq.known = true)
    (he : s.rsq.atEnd = false) (hg : s.dsc.guide ≠ .offWire)
    (hd : s.rsq.distance + s.cfg.opt.odometer < s.entry.length * 1000) (hr : s.scu.chain.running = true)
    (hw : s.scu.chain.reason = .trigger) (hp : s.scu.chain.pending = some i)
    (ht : (s.cfg.word i).trigger = .atDistance a)
    (hm : a * 1000 ≤ min 4294967295 (s.scu.chain.distance + s.cfg.opt.odometer)) (h : s.cfg.LastOrTimed i) (dt : Nat) :
    exec (.odometerPulse dt) s = .next (((s.chainCounted dt).wordActed i).setRsq
      { s.rsq with distance := s.rsq.distance + s.cfg.opt.odometer }) := by
  have hcfg : (s.chainCounted dt).cfg = s.cfg := rfl
  have hdist : a ≤ (s.chainCounted dt).scu.chain.distance / 1000 := (Nat.le_div_iff_mul_le (by decide)).mpr hm
  have hacts : (s.chainCounted dt).testChain = (s.chainCounted dt).wordActed i :=
    State.testChain_acts hr hw hp (by simp [State.chainBroken, hcfg, ht])
      (by simp [State.triggerMet, hcfg, ht, hdist]) h
  have hchain : (s.counted dt).chainPulse = (s.chainCounted dt).wordActed i := (if_pos hr).trans hacts
  have hslots : s.SameSlots ((s.chainCounted dt).wordActed i) :=
    .trans (t := s.chainCounted dt) ⟨rfl, rfl⟩ (State.wordActed_sameSlots ..)
  obtain ⟨-, -, hcfg', -, -, -, -, -, hrsq, -⟩ := (s.chainCounted dt).wordActed_frame i
  rw [exec_odometerPulse_onWire ha hg, State.chainAndRoute_of_known (s := s.counted dt) hk, hchain]
  generalize (s.chainCounted dt).wordActed i = v at *
  have hr' : v.rsq = s.rsq := hrsq
  have hc' : v.cfg = s.cfg := hcfg'
  have hentry : v.entry = s.entry := by rw [State.entry, State.entry, hr', hc']
  rw [State.routePulse_of_short (hr' ▸ hk) (hr' ▸ he) (by rwa [hr', hc', hentry]), hr', hc']
  exact congrArg Host.Outcome.next (State.SameSlots.afterSlots (s := s) (t := v.setRsq _) hslots)

/-- The freeing of a timed-out record makes room for the word that waits with TRACKER-FULL (R135, R141). -/
theorem State.lateOver_acts {s : State} {ref i : Nat} (hn : s.scu.chain.watched ≠ some ref)
    (hr : s.scu.chain.running = true) (hw : s.scu.chain.reason = .trackerFull) (hp : s.scu.chain.pending = some i)
    (h : s.cfg.LastOrTimed i) : s.lateOver ref
      = (s.setScu { s.scu with tracker := s.scu.tracker.filter fun q => q.ref ≠ ref }).wordActed i := by
  have hfree : s.scu.freeRecord ref .other
      = { s.scu with tracker := s.scu.tracker.filter fun q => q.ref ≠ ref } := by
    simp [Scu.freeRecord, Chain.watch, hn]
  rw [State.lateOver, hfree]
  exact (if_pos hw).trans (State.retryChain_acts hr hw hp h)

/-! ### The end of the watched record (R136) -/

theorem Scu.Broken.of_outcome {u u' v : Scu} (h : u.Broken v) {o : WatchedOutcome}
    (hch : u.chain = { u'.chain with outcome := o }) (hc : u.counters = u'.counters) : u'.Broken v :=
  ⟨by rw [h.1, hch], by rw [h.2, hc]⟩

theorem Chain.watch_of_watched {c : Chain} {ref : Nat} (h : c.watched = some ref) (o : WatchedOutcome) :
    c.watch ref o = { c with outcome := o } := if_pos h

/-- The chain at the timeout of the record that it watches (R136). -/
theorem State.timedOutScu_chain {s : State} {ref : Nat} (h : s.scu.chain.watched = some ref) :
    (s.timedOutScu ref).chain = { s.scu.chain with outcome := .other } := by
  have hc : (s.scu.timeOut ref s.ms s.cfg.opt.lateWindow).chain = { s.scu.chain with outcome := .other } :=
    Chain.watch_of_watched h _
  simp only [State.timedOutScu]
  split
  · rw [Scu.freeRecord, hc]
    exact Chain.watch_of_watched (c := { s.scu.chain with outcome := .other }) h _
  · exact hc

/-- The timeout of the watched record breaks the chain at its last word (R136, R141). -/
theorem State.cueTimedOut_breaks {s : State} {ref i : Nat} (hr : s.scu.chain.running = true)
    (hw : s.scu.chain.reason = .trigger) (hp : s.scu.chain.pending = some i)
    (ht : (s.cfg.word i).trigger = .onDone) (hn : s.scu.chain.watched = some ref) :
    s.cueTimedOut ref = (s.setScu (s.timedOutScu ref)).abandonChain .broken := by
  have hc : (s.setScu (s.timedOutScu ref)).scu.chain = { s.scu.chain with outcome := .other } :=
    State.timedOutScu_chain hn
  have hb : (s.setScu (s.timedOutScu ref)).testChain = (s.setScu (s.timedOutScu ref)).abandonChain .broken :=
    State.testChain_breaks (by rw [hc]; exact hr) (by rw [hc]; exact hw) (by rw [hc]; exact hp) ht (by rw [hc])
  rw [State.cueTimedOut_eq, State.recordFreed_of_trigger (by rw [hc]; exact hw), hb, ite_self]

/-- A status frees its record and tells the chain that watches it (R136, R140). -/
theorem Scu.sentDone_of_watched {u : Scu} {r : Track} (b : CuestBody) (h : u.chain.watched = some r.ref) :
    u.sentDone b r = { u with
      tracker := u.tracker.filter fun q => q.ref ≠ r.ref
      counters := u.counters.result b.result
      chain := { u.chain with outcome := outcomeOf b.result } } := by
  simp only [Scu.sentDone, Scu.freeRecord, Chain.watch_of_watched h]

theorem State.cueStatus_of_sent {s : State} {src : Nat} {b : CuestBody} {r : Track}
    (hs : s.cfg.station b.scene = src) (h0 : src ≠ 0) (hr : s.scu.recordOf b.scene b.cue = some r)
    (hst : r.state = .sent) : s.cueStatus src b = (s.answered b r).recordFreed := by
  have hstation : s.rightStation src b = true := by simp [State.rightStation, hs, h0]
  simp only [State.cueStatus, hstation, if_true, hr, hst]
  rfl

/-- The chain waits with word `i` for the DONE of record `r` (R134, R136). -/
structure Scu.AwaitsDone (c : Configuration) (i : Nat) (r : Track) (u : Scu) : Prop where
  running : u.chain.running = true
  reason : u.chain.reason = .trigger
  pending : u.chain.pending = some i
  trigger : (c.word i).trigger = .onDone
  watched : u.chain.watched = some r.ref

/-- What the status of the watched record leaves: after DONE the word is acted on, after any other result the chain is
broken at its last word (R136). -/
structure State.GoesOn (i : Nat) (b : CuestBody) (r : Track) (s t : State) : Prop where
  done : b.result = .done → s.WordActedOn i (s.scu.sentDone b r) t
  broken : b.result ≠ .done → s.cfg.nextWord i = none →
    t.scu.tracker = (s.scu.sentDone b r).tracker ∧ (s.scu.sentDone b r).Broken t.scu
  slots : s.SameSlots t
  rest : t.sau = s.sau ∧ t.rm = s.rm ∧ t.sck = s.sck ∧ t.stc = s.stc ∧ t.cfg = s.cfg ∧ t.cfs = s.cfs

/-- The status meets the SCU in a state `m` that the reception has changed in time, table and channel alone. -/
theorem State.answered_goesOn {s m : State} {i : Nat} {b : CuestBody} {r : Track}
    (hscu : m.scu = s.scu) (hrest : m.sau = s.sau ∧ m.rm = s.rm ∧ m.sck = s.sck ∧ m.stc = s.stc ∧ m.cfg = s.cfg
      ∧ m.cfs = s.cfs) (hdsc : m.dsc = s.dsc) (hq : m.ni.queue = s.ni.queue)
    (hw : s.scu.AwaitsDone s.cfg i r) (h : s.cfg.LastOrTimed i) :
    s.GoesOn i b r (m.answered b r).recordFreed := by
  obtain ⟨hsau, hrm, hsck, hstc, hcfg, hcfs⟩ := hrest
  obtain ⟨-, kcfg, kcfs, -, ksau, kdsc, krm, -, ksck, kstc, -, kscu⟩ := m.answered_frame b r
  have kni : (m.answered b r).ni = m.ni := by simp [State.answered]
  rw [hscu] at kscu
  generalize m.answered b r = v at *
  have hchain : v.scu.chain = { s.scu.chain with outcome := outcomeOf b.result } := by
    rw [kscu, Scu.sentDone_of_watched b hw.watched]
  have hc : v.cfg = s.cfg := kcfg.trans hcfg
  have hr : v.scu.chain.running = true := by rw [hchain]; exact hw.running
  have hreason : v.scu.chain.reason = .trigger := by rw [hchain]; exact hw.reason
  have hp : v.scu.chain.pending = some i := by rw [hchain]; exact hw.pending
  have ht : (v.cfg.word i).trigger = .onDone := by rw [hc]; exact hw.trigger
  have hfreed : v.recordFreed = v.testChain := State.recordFreed_of_trigger hreason
  refine ⟨fun hb => ?done, fun hb hn => ?broken, ?slots, ?rest⟩
  case done =>
    have ho : v.scu.chain.outcome = .done := by rw [hchain, hb]; rfl
    have hacts : v.recordFreed = v.wordActed i := hfreed.trans (State.testChain_acts hr hreason hp
      (by simp [State.chainBroken, ho]) (by simp [State.triggerMet, ht, ho]) (hc ▸ h))
    rw [hacts, ← kscu]
    refine (State.actsOnWord_last hc (by rw [kstc, hstc]) (by rw [kdsc, hdsc]) fun hlen => ?_).actedOn
    rw [kni, hq]
    omega
  case broken =>
    have ho : v.scu.chain.outcome = .other := by
      rw [hchain]
      cases he : b.result with
      | done => exact absurd he hb
      | _ => rfl
    rw [hfreed, State.testChain_breaks hr hreason hp ht ho, ← kscu]
    exact State.abandonChain_broken hr hp (hc ▸ hn)
  case slots =>
    have hs : s.SameSlots v := by
      simp only [State.SameSlots, kscu]
      exact ⟨rfl, rfl⟩
    rw [hfreed]
    exact hs.trans v.testChain_sameSlots
  case rest => simp [ksau, krm, ksck, kstc, hc, kcfs, hsau, hrm, hsck, hstc, hcfs]

/-- The status of the watched record, before or after the hearing of its sender (R33, R136). -/
theorem State.Receives.goesOn {s : State} {h : Header} {b : CuestBody} {r : Track} {i : Nat}
    (hr : s.Receives ⟨h.src, h.sig, .cuest b⟩) (hstation : s.cfg.station b.scene = h.src)
    (hrec : s.scu.recordOf b.scene b.cue = some r) (hsent : r.state = .sent) (hw : s.scu.AwaitsDone s.cfg i r)
    (hn : s.cfg.LastOrTimed i) (dt : Nat) : s.GoesOn i b r ((s.elapse dt).receive ⟨h.src, h.sig, .cuest b⟩) := by
  have status (table : List Peer) : s.GoesOn i b r (((s.heardLast dt).setPtb table).cueStatus h.src b) := by
    rw [State.cueStatus_of_sent (s := (s.heardLast dt).setPtb table) hstation hr.fixed_ne_zero hrec hsent]
    exact State.answered_goesOn rfl ⟨rfl, rfl, rfl, rfl, rfl, rfl⟩ rfl (Ni.measure_queue ..) hw hn
  refine State.receive_beside (P := s.GoesOn i b r) (State.cueStatus h.src b) hr rfl ?first ?last
  case first =>
    have hgoes := status (refreshed h.src ((s.now + dt) / 1000) s.ptb)
    exact hgoes.slots.afterSlots.symm ▸ hgoes
  case last =>
    have hgoes : s.GoesOn i b r ((s.heardLast dt).cueStatus h.src b) := status s.ptb
    obtain ⟨hpow, -, -, -, hcfs, hptb, -, hdsc, -⟩ := (s.heardLast dt).cueStatus_frame h.src b
    generalize (s.heardLast dt).cueStatus h.src b = v at *
    have ha : v.active = true := by
      rw [State.active, hpow, hcfs, hdsc]
      exact hr.1
    have hhear : v.hear h.src = _ := hr.hear_last ha hptb
    rw [hhear]
    have hlast : s.GoesOn i b r { v with ptb := refreshed h.src v.ms s.ptb } :=
      ⟨hgoes.done, hgoes.broken, hgoes.slots, hgoes.rest⟩
    exact hlast.slots.afterSlots.symm ▸ hlast

end Sys2Proof.Machine

namespace Sys2Proof.Machine

/-! ### A fall of the latch around the chain (R137, R186) -/

/-- A queue after requests of POS alone: the CUEs stand, and a place that was left for one more is still left. -/
structure ServesCues (q r : List Waiting) : Prop where
  kept : ∀ b ref, .cue b ref ∈ q → .cue b ref ∈ r
  roomy : Roomy q → Roomy r

theorem ServesCues.refl (q : List Waiting) : ServesCues q q := ⟨fun _ _ => id, id⟩

theorem ServesCues.joinPos {q r : List Waiting} (h : ServesCues q r) : ServesCues q (joinPos true r) :=
  ⟨fun b ref hf => mem_joinPos true (h.kept b ref hf) (by simp [Waiting.rank]) rfl, fun hq => (h.roomy hq).joinPos⟩

/-- The DSC and the RM leave the SCU, the clock and the CUEs alone at a fall of the latch. -/
structure State.SparesCues (s t : State) : Prop where
  scu : t.scu = s.scu
  cfg : t.cfg = s.cfg
  now : t.now = s.now
  sck : t.sck = s.sck
  stc : t.stc = s.stc
  speed : t.dsc.speed = s.dsc.speed
  atEnd : t.rsq.atEnd = s.rsq.atEnd
  queue : ServesCues s.ni.queue t.ni.queue

theorem State.SparesCues.refl (s : State) : s.SparesCues s := ⟨rfl, rfl, rfl, rfl, rfl, rfl, rfl, .refl _⟩

theorem State.SparesCues.trans {s t u : State} (h : s.SparesCues t) (k : t.SparesCues u) : s.SparesCues u :=
  ⟨k.scu.trans h.scu, k.cfg.trans h.cfg, k.now.trans h.now, k.sck.trans h.sck, k.stc.trans h.stc,
    k.speed.trans h.speed, k.atEnd.trans h.atEnd,
    fun b ref hf => k.queue.kept b ref (h.queue.kept b ref hf), fun hq => k.queue.roomy (h.queue.roomy hq)⟩

theorem State.driveFall_queue (level : Nat) (s : State) : ServesCues s.ni.queue (s.driveFall level).ni.queue := by
  have motion (m : Motion) (t : State) (h : ServesCues s.ni.queue t.ni.queue) :
      ServesCues s.ni.queue (t.setMotion m).ni.queue := by
    rw [State.setMotion_queue]
    exact h.joinPos
  have held : ServesCues s.ni.queue s.enterHeld.ni.queue := by
    simp only [State.enterHeld]
    split
    · exact motion _ _ (motion _ _ (.refl _))
    · simpa using motion .held s (.refl _)
  simp only [State.driveFall]
  split
  case h_1 =>
    split
    · exact motion _ _ (.refl _)
    · exact .refl _
  case h_2 =>
    split
    · exact held
    · exact .refl _
  all_goals exact .refl _

/-- The DSC acts, and the RSQ has no entry to leave (R20, R90). -/
theorem State.driveAfterFall_sparesCues {s : State} (he : s.rsq.atEnd = false) (level : Nat) :
    s.SparesCues (s.driveAfterFall level) := by
  have hrides := s.driveFall_rides level
  have ht : s.driveAfterFall level = s.driveFall level :=
    State.actOnRelease_of_not_atEnd (hrides.atEnd.trans he)
  rw [ht]
  exact ⟨by simp, by simp, by simp, by simp, by simp, (congrArg Dsc.speed hrides.gauges :), hrides.atEnd,
    s.driveFall_queue level⟩

theorem State.setVehicle_queue (x : Restraint) (s : State) : ServesCues s.ni.queue (s.setVehicle x).ni.queue := by
  simp only [State.setVehicle]
  split
  · exact .refl _
  · have h (t : State) (ht : t.ni = s.ni) : ServesCues s.ni.queue (t.requestPos true).ni.queue := by
      rw [State.requestPos_queue, ht]
      exact (ServesCues.refl _).joinPos
    split
    · simpa using h (s.setRm { s.rm with vehicle := x }) rfl
    · simpa using h (s.setRm { s.rm with vehicle := x }) rfl

theorem State.alarmTest_sparesCues (level : Nat) (s : State) : s.SparesCues (s.alarmTest level) := by
  by_cases h : s.rm.Recovers level
  · obtain ⟨-, -, -, hdsc, -⟩ := State.alarmTest_recovers h
    have he : s.alarmTest level = (s.setVehicle .secure).announcementEnd := if_pos h
    refine ⟨by simp, by simp, by simp, by simp, by simp, by rw [hdsc], by simp, ?_⟩
    rw [he, (State.announcementEnd_frame _).2.2.2.2.2.1]
    exact s.setVehicle_queue _
  · rw [State.alarmTest_of_not_recovers h]
    exact .refl s

/-- A fall of the latch to 0 acts on the word that waits with STOPPED, before, between or after the blocks that leave
the chain alone (R137, R186). -/
theorem State.notifyFall_acts {s : State} {i : Nat} (he : s.rsq.atEnd = false) (hr : s.scu.chain.running = true)
    (hw : s.scu.chain.reason = .stopped) (hp : s.scu.chain.pending = some i) (h : s.cfg.LastOrTimed i) :
    ∃ v, s.SparesCues v ∧ (v.wordActed i).SparesCues (s.notifyFall 0) := by
  have start : s.SparesCues s.settled := ⟨rfl, rfl, rfl, rfl, rfl, rfl, rfl, .refl _⟩
  have drive {t : State} (ht : s.SparesCues t) : s.SparesCues (t.driveAfterFall 0) :=
    ht.trans (State.driveAfterFall_sparesCues (ht.atEnd.trans he) 0)
  have alarm {t : State} (ht : s.SparesCues t) : s.SparesCues (t.alarmTest 0) := ht.trans (t.alarmTest_sparesCues 0)
  have chain {t : State} (ht : s.SparesCues t) : ∃ v, s.SparesCues v ∧ (v.wordActed i).SparesCues (t.chainAfterFall 0) := by
    have hacts : t.chainAfterFall 0 = t.wordActed i :=
      State.retryChain_acts (ht.scu ▸ hr) (ht.scu ▸ hw) (ht.scu ▸ hp) (ht.cfg ▸ h)
    exact ⟨t, ht, hacts ▸ .refl _⟩
  have driveAfter {t : State} (ht : ∃ v, s.SparesCues v ∧ (v.wordActed i).SparesCues t) :
      ∃ v, s.SparesCues v ∧ (v.wordActed i).SparesCues (t.driveAfterFall 0) := by
    obtain ⟨v, hv, hvt⟩ := ht
    obtain ⟨-, -, -, -, -, -, -, -, hrsq, -⟩ := v.wordActed_frame i
    have hend : t.rsq.atEnd = false := by rw [hvt.atEnd, hrsq, hv.atEnd, he]
    exact ⟨v, hv, hvt.trans (State.driveAfterFall_sparesCues hend 0)⟩
  have alarmAfter {t : State} (ht : ∃ v, s.SparesCues v ∧ (v.wordActed i).SparesCues t) :
      ∃ v, s.SparesCues v ∧ (v.wordActed i).SparesCues (t.alarmTest 0) := by
    obtain ⟨v, hv, hvt⟩ := ht
    exact ⟨v, hv, hvt.trans (t.alarmTest_sparesCues 0)⟩
  exact State.inAnyOrder_of (P := fun t => ∃ v, s.SparesCues v ∧ (v.wordActed i).SparesCues t) _ _ _ s
    (alarmAfter (chain (drive start))) (chain (alarm (drive start))) (alarmAfter (driveAfter (chain start)))
    (driveAfter (alarmAfter (chain start))) (chain (drive (alarm start))) (driveAfter (chain (alarm start)))

/-- With every active cause latched a RESUME leaves no cause, and the latch at 0 (R185). -/
theorem State.unlatched_latch {s : State} (h : ∀ c ∈ s.stc.causes, c.latched = true) : s.unlatched.stc.latch = 0 := by
  have hnone : s.stc.causes.filter (fun c => !c.latched) = [] := List.filter_eq_nil_iff.mpr (by simpa using h)
  rw [State.unlatched_stc]
  simp [Stc.resumed, Stc.asserted, hnone]

theorem State.unlatched_queue (s : State) : ServesCues s.ni.queue s.unlatched.ni.queue := by
  simp only [State.unlatched, State.setLatch_frame, State.withdrawLatched]
  split
  · rw [State.requestPos_queue]
    exact (ServesCues.refl _).joinPos
  · exact .refl _

/-- An accepted RESUME that brings the latch to 0 acts on the word that waits with STOPPED (R137, R185). The reception
has left state `m` of `s`, with the same configuration, speed and queue. -/
theorem State.resume_acts {s m : State} {i : Nat} (he : m.rsq.atEnd = false) (hl : 0 < m.stc.latch)
    (hc : ∀ c ∈ m.stc.causes, c.latched = true) (hr : m.scu.chain.running = true)
    (hw : m.scu.chain.reason = .stopped) (hp : m.scu.chain.pending = some i) (h : m.cfg.LastOrTimed i)
    (hcfg : m.cfg = s.cfg) (hspeed : m.dsc.speed = s.dsc.speed) (hq : m.ni.queue = s.ni.queue) :
    State.WordActedOn i m.scu { s with stc := { s.stc with latch := 0 } } m.resume := by
  have hlatch := State.unlatched_latch hc
  have hqueue := m.unlatched_queue
  have frame : m.unlatched.scu = m.scu ∧ m.unlatched.cfg = m.cfg ∧ m.unlatched.dsc = m.dsc
      ∧ m.unlatched.rsq = m.rsq := by simp [State.unlatched]
  have hfall : m.resume = m.unlatched.notifyFall 0 := by rw [State.resume_eq, hlatch, if_pos hl]
  rw [hfall]
  generalize m.unlatched = u at *
  obtain ⟨kscu, kcfg, kdsc, krsq⟩ := frame
  obtain ⟨v, hv, hvt⟩ := State.notifyFall_acts (s := u) (i := i) (krsq ▸ he) (kscu ▸ hr) (kscu ▸ hw) (kscu ▸ hp)
    (kcfg ▸ h)
  obtain ⟨-, hnow, -, -, -, -, -, -, -, hsck, -⟩ := v.wordActed_frame i
  rw [← kscu, ← hv.scu]
  exact State.ActsOnWord.actedOn ⟨hv.cfg.trans (kcfg.trans hcfg), by rw [hv.stc, hlatch],
    by rw [hv.speed, kdsc, hspeed], fun hlen => (hv.queue.roomy (hqueue.roomy (.inl (hq ▸ hlen)))).length, hvt.scu,
    hvt.now.trans hnow, hvt.sck.trans hsck, hvt.queue.kept⟩

/-- The RESUME acts before or after the hearing of its sender, which leaves the word alone (R33). -/
theorem State.Receives.resume_acts {s : State} {h : Header} {i : Nat} (hr : s.Receives ⟨h.src, h.sig, .resume⟩)
    (he : s.rsq.atEnd = false) (hl : 0 < s.stc.latch) (hc : ∀ c ∈ s.stc.causes, c.latched = true)
    (hrun : s.scu.chain.running = true) (hw : s.scu.chain.reason = .stopped) (hp : s.scu.chain.pending = some i)
    (hn : s.cfg.LastOrTimed i) (dt : Nat) :
    State.WordActedOn i s.scu { s with stc := { s.stc with latch := 0 } }
      ((s.elapse dt).receive ⟨h.src, h.sig, .resume⟩) := by
  have resumes (table : List Peer) : State.WordActedOn i s.scu { s with stc := { s.stc with latch := 0 } }
        ((s.heardLast dt).setPtb table).resume
      ∧ s.SameSlots ((s.heardLast dt).setPtb table).resume
      ∧ ((s.heardLast dt).setPtb table).resume.ptb = table ∧ ((s.heardLast dt).setPtb table).resume.active = true := by
    have hacts := State.resume_acts (s := s) (m := (s.heardLast dt).setPtb table) he hl hc hrun hw hp hn rfl rfl
      (Ni.measure_queue ..)
    obtain ⟨hres, hptb, hact⟩ := State.resume_resumed (s := (s.heardLast dt).setPtb table) hr.1 he
    exact ⟨hacts, hres.slots, hptb, hact⟩
  refine State.receive_beside
    (P := State.WordActedOn i s.scu { s with stc := { s.stc with latch := 0 } }) State.resume hr rfl ?first ?last
  case first =>
    obtain ⟨hacts, hslots, -⟩ := resumes (refreshed h.src ((s.now + dt) / 1000) s.ptb)
    exact hslots.afterSlots.symm ▸ hacts
  case last =>
    obtain ⟨hacts, hslots, hptb, hact⟩ := resumes s.ptb
    have hhear : (s.heardLast dt).resume.hear h.src = _ := hr.hear_last hact hptb
    rw [hhear]
    have hsame : s.SameSlots { (s.heardLast dt).resume with
        ptb := refreshed h.src (s.heardLast dt).resume.ms s.ptb } := hslots
    exact hsame.afterSlots.symm ▸ hacts

end Sys2Proof.Machine

open Sys2Proof.Machine in
/-- Settles O43: each event brings the chain to a state in which its word is acted on, or to the outcome that breaks it,
and changes nothing else that the word depends on. -/
theorem pendingTimerMeetsTheTrigger : Obligations.PendingTimerMeetsTheTrigger := by
  unfold Obligations.PendingTimerMeetsTheTrigger
  refine ⟨fun dt d i t' s hr hw hp hd ht hn => ?last, fun dt d i t' s hr hw hp hd ht hn => ?timer,
    fun dt i a s ha hk he hg hd hr hw hp ht => ?pulse, fun dt i h b r s hrec hst hro hsent hr hw hp ht hwa hn => ?status,
    fun dt ref d i r s hro hsent hd hr hw hp ht hwa hn => ?timeout,
    fun dt i h s hrec he hl hc hr hw hp hn => ?resume, fun dt ref d i r s hro hlate hd hwa hr hw hp hn => ?freed⟩
  case last =>
    refine ⟨_, exec_pendingTimerExpiry hr hw hp hd ht (.inl hn) dt, ?_⟩
    generalize hv : s.pendingElapsed dt d = v
    obtain ⟨-, hnow, hcfg, hcfs, hptb, hsau, hdsc, hrm, hrsq, hsck, hspe, hstc⟩ := v.wordActed_frame i
    obtain ⟨h1, h2⟩ := v.wordActed_sameSlots i
    have hshow : (v.wordActed i).showTime = v.showTime := by rw [State.showTime, State.showTime, hsck, hnow]
    have hms : (v.wordActed i).now / 1000 = v.ms := by rw [hnow]; rfl
    rw [hms, hshow, h1, h2, hnow, hcfg, hcfs, hptb, hsau, hdsc, hrm, hrsq, hsck, hspe, hstc]
    subst hv
    refine ⟨rfl, fun hl => State.wordActed_of_latched (s := s.pendingElapsed dt d) hl i, fun hl hh => ?skip, fun hl hh hlen hnone hq => ?issue,
      rfl, rfl, rfl, rfl, rfl, rfl, rfl, rfl, rfl, rfl, rfl, rfl⟩
    case skip =>
      obtain ⟨htracker, -, hcounters, hpassed⟩ :=
        State.wordActed_of_not_held (s := s.pendingElapsed dt d) hl hh
      have hchain := hpassed.1 hn
      exact ⟨hcounters, by rw [hchain], by rw [hchain], htracker⟩
    case issue =>
      obtain ⟨htracker, hcounters, hnext, hcue, hpassed⟩ :=
        State.wordActed_of_room (s := s.pendingElapsed dt d) hl hh (.inl hlen) hq
      have hchain := hpassed.1 hn
      have hfresh : (s.pendingElapsed dt d).scu.supersede ((s.pendingElapsed dt d).cfg.word i)
          = (s.pendingElapsed dt d).scu := Scu.supersede_of_none hnone
      rw [hfresh] at htracker hcounters
      exact ⟨htracker, hcue, hnext, by rw [hchain], by rw [hchain], hcounters⟩
  case timer =>
    have hacts := (State.actsOnWord_last (i := i) (s := s) (v := s.pendingElapsed dt d) rfl rfl rfl
      fun hq => Nat.lt_succ_of_lt hq).actedOn
    obtain ⟨-, hnow, hcfg, hcfs, hptb, hsau, hdsc, hrm, hrsq, hsck, hspe, hstc⟩ :=
      (s.pendingElapsed dt d).wordActed_frame i
    obtain ⟨h1, h2⟩ := (s.pendingElapsed dt d).wordActed_sameSlots i
    exact ⟨_, exec_pendingTimerExpiry hr hw hp hd ht hn dt, hnow, hacts, hrsq, hdsc, hspe, hptb, h1, h2, hsau, hrm,
      hsck, hstc, hcfg, hcfs⟩
  case pulse =>
    intro travelled hm hn
    obtain ⟨-, hnow, hcfg, hcfs, hptb, hsau, hdsc, hrm, -, hsck, hspe, hstc⟩ := (s.chainCounted dt).wordActed_frame i
    obtain ⟨h1, h2⟩ := (s.chainCounted dt).wordActed_sameSlots i
    have hacts : s.ActsOnWord i (s.chainCounted dt) (((s.chainCounted dt).wordActed i).setRsq
        { s.rsq with distance := s.rsq.distance + s.cfg.opt.odometer }) :=
      ⟨rfl, rfl, rfl, fun hq => Nat.lt_succ_of_lt hq, rfl, hnow, hsck, fun _ _ => id⟩
    exact ⟨_, exec_odometerPulse_acts ha hk he hg hd hr hw hp ht hm hn dt, hnow, hacts.actedOn, rfl, hdsc, hspe, hptb,
      h1, h2, hsau, hrm, hsck, hstc, hcfg, hcfs⟩
  case status =>
    obtain ⟨hdone, hbroken, ⟨h1, h2⟩, hsau, hrm, hsck, hstc, hcfg, hcfs⟩ :=
      hrec.goesOn hst hro hsent ⟨hr, hw, hp, ht, hwa⟩ hn dt
    rw [Scu.sentDone_of_watched b hwa] at hdone hbroken
    have breaks (hb : b.result ≠ .done) (hlast : s.cfg.nextWord i = none) {c : Counters}
        (hcount : s.scu.counters.result b.result = c) :
        ((s.elapse dt).receive ⟨h.src, h.sig, .cuest b⟩).scu.tracker = s.scu.tracker.filter (fun q => q.ref ≠ r.ref)
          ∧ Scu.Broken { s.scu with counters := c } ((s.elapse dt).receive ⟨h.src, h.sig, .cuest b⟩).scu :=
      ⟨(hbroken hb hlast).1, (hbroken hb hlast).2.of_outcome rfl hcount⟩
    refine ⟨_, rfl, fun hb => ?_, fun hb hl => breaks (by simp [hb]) hl (by rw [hb]; rfl),
      fun hb hl => breaks (by simp [hb]) hl (by rw [hb]; rfl), fun hb hl => breaks (by simp [hb]) hl (by rw [hb]; rfl),
      h1, h2, hsau, hrm, hsck, hstc, hcfg, hcfs⟩
    have hacts := hdone hb
    rw [hb] at hacts
    exact hacts
  case timeout =>
    have hbreaks := State.cueTimedOut_breaks (s := s.elapseTo dt (d * 1000)) hr hw hp ht hwa
    have hchain := State.timedOutScu_chain (s := s.elapseTo dt (d * 1000)) hwa
    obtain ⟨hcounters, h1, h2⟩ := (s.elapseTo dt (d * 1000)).timedOutScu_rest ref
    generalize hu : (s.elapseTo dt (d * 1000)).timedOutScu ref = u at *
    obtain ⟨-, hbroken⟩ := State.abandonChain_broken (s := (s.elapseTo dt (d * 1000)).setScu u) (i := i)
      (by rw [State.setScu_scu, hchain]; exact hr) (by rw [State.setScu_scu, hchain]; exact hp) hn
    obtain ⟨k1, k2⟩ := ((s.elapseTo dt (d * 1000)).setScu u).abandonChain_sameSlots .broken
    rw [exec_cueTimeout hro hsent hd, hbreaks]
    refine ⟨_, rfl, hbroken.of_outcome hchain hcounters, k1.trans h1, k2.trans h2, ?_⟩
    simp [State.elapseTo]
  case resume =>
    obtain ⟨⟨hstc, -, -, -, -, -, -, ⟨h1, h2⟩, -⟩, -⟩ := hrec.resumed he dt
    have hlatch : (s.stc.resumed s.cfg.opt.station).latch = 0 := by
      rw [← State.unlatched_stc]
      exact State.unlatched_latch hc
    exact ⟨_, rfl, by rw [hstc, hlatch], hrec.resume_acts he hl hc hr hw hp hn dt, h1, h2⟩
  case freed =>
    have hacts := State.lateOver_acts (s := s.elapseTo dt (d * 1000)) hwa hr hw hp hn
    generalize hv : (s.elapseTo dt (d * 1000)).setScu { (s.elapseTo dt (d * 1000)).scu with
      tracker := (s.elapseTo dt (d * 1000)).scu.tracker.filter fun q => q.ref ≠ ref } = v at hacts
    obtain ⟨-, hnow, hcfg, hcfs, hptb, hsau, hdsc, hrm, hrsq, hsck, hspe, hstc⟩ := v.wordActed_frame i
    obtain ⟨h1, h2⟩ := v.wordActed_sameSlots i
    have hword : s.WordActedOn i v.scu (v.wordActed i) := by
      subst hv
      exact (State.actsOnWord_last (s := s) (v := (s.elapseTo dt (d * 1000)).setScu _) rfl rfl rfl
        fun hq => Nat.lt_succ_of_lt hq).actedOn
    rw [exec_lateWindowExpiry hro hlate hd, hacts]
    subst hv
    exact ⟨_, rfl, hnow, hword, hrsq, hdsc, hspe, hptb, h1, h2, hsau, hrm, hsck, hstc, hcfg, hcfs⟩

namespace Sys2Proof.Machine

/-! ### The peer table while no slot waits (R57, R60, R61) -/

/-- No slot waits, so that the SCU has nothing to do when it is told of a station (R128). -/
def State.NoneWaits (s : State) : Prop := ∀ k, (s.scu.slot k).state ≠ .waiting

theorem State.tellScu_of_noneWaits {s : State} (h : s.NoneWaits) (station : Nat) : s.tellScu station = s :=
  State.tellGone_of_not_waiting h ..

/-- The step leaves the SCU and the queued CLAIMs, and pins no record that was not pinned before. -/
structure State.Unpins (s t : State) : Prop where
  scu : t.scu = s.scu
  claims : ∀ x, .claim x ∈ s.ni.queue → .claim x ∈ t.ni.queue
  pins : ∀ f, ∀ p ∈ t.ptb, p.carries f = true → ∃ q ∈ s.ptb, q.carries f = true

theorem State.Unpins.refl (s : State) : s.Unpins s := ⟨rfl, fun _ => id, fun _ p hp hc => ⟨p, hp, hc⟩⟩

theorem State.Unpins.trans {s t u : State} (h : s.Unpins t) (k : t.Unpins u) : s.Unpins u := by
  refine ⟨k.scu.trans h.scu, fun x hx => k.claims x (h.claims x hx), fun f p hp hc => ?_⟩
  obtain ⟨q, hq, hqc⟩ := k.pins f p hp hc
  exact h.pins f q hq hqc

theorem State.Unpins.noneWaits {s t : State} (h : s.Unpins t) (hs : s.NoneWaits) : t.NoneWaits := by
  simpa only [State.NoneWaits, h.scu] using hs

theorem State.Unpins.clear {s t : State} {f : Pin} (h : s.Unpins t) (hs : ∀ p ∈ s.ptb, p.carries f = false) :
    ∀ p ∈ t.ptb, p.carries f = false := by
  intro p hp
  by_contra hc
  obtain ⟨q, hq, hqc⟩ := h.pins f p hp (by simpa using hc)
  exact absurd (hs q hq) (by simp [hqc])

/-- A table whose pins all stood before. -/
theorem State.setPtb_unpins {s : State} {table : List Peer}
    (h : ∀ f, ∀ p ∈ table, p.carries f = true → ∃ q ∈ s.ptb, q.carries f = true) : s.Unpins (s.setPtb table) :=
  ⟨rfl, fun _ => id, h⟩

theorem State.withdraw_unpins (c : Cause) (s : State) : s.Unpins (s.withdraw c) := by
  refine ⟨by simp, fun x hx => ?_, fun f p hp hc => ⟨p, by simpa using hp, hc⟩⟩
  simp only [State.withdraw]
  split
  · exact hx
  · split
    · rw [State.requestPos_queue]
      exact mem_joinPos true hx (by simp [Waiting.rank]) rfl
    · exact hx

/-- Where no FOREIGN record is new the cause is withdrawn at most (R61). -/
theorem State.foreignAfter_unpins {before : Bool} {s : State} (h : s.foreignSeen = true → before = true) :
    s.Unpins (s.foreignAfter before) := by
  rcases State.foreignAfter_withdraws before s h with e | e <;> rw [e]
  · exact .refl s
  · exact s.withdraw_unpins _

theorem State.removePeer_unpins {s : State} (hw : s.NoneWaits) (station : Nat) : s.Unpins (s.removePeer station) := by
  have gone : s.Unpins (s.setPtb (s.ptb.filter fun r => r.station ≠ station)) :=
    State.setPtb_unpins fun f p hp hc => ⟨p, List.mem_of_mem_filter hp, hc⟩
  have h := gone.trans (State.foreignAfter_unpins (State.foreignSeen_filter _ s))
  simp only [State.removePeer, State.removeWith]
  split
  · exact .refl s
  · split
    · exact (State.tellScu_of_noneWaits (h.noneWaits hw) station).symm ▸ h
    · exact h

/-- A pin that is moved leaves at most the removal of the record that it stood on (R57, R58). -/
theorem State.pin_unpins {s : State} (hw : s.NoneWaits) (f : Pin) (station : Option Nat) :
    (s.setPtb (namePin f station s.ptb)).Unpins (s.pin f station) := by
  simp only [State.pin, State.pinWith]
  split
  · exact .refl _
  · split
    · exact .refl _
    · split
      · exact State.removePeer_unpins (s := s.setPtb (namePin f station s.ptb)) hw _
      · exact .refl _

theorem State.makeRoom_unpins {s : State} (hw : s.NoneWaits) : s.Unpins s.makeRoom := by
  simp only [State.makeRoom]
  split
  · exact .refl s
  · split
    · exact State.removePeer_unpins hw _
    · exact .refl s

theorem Peer.first_carries (station ms : Nat) (foreign : Bool) (f : Pin) :
    (Peer.first station ms foreign).carries f = false := by
  cases f with
  | ahead => rfl
  | slot k => cases k <;> rfl

/-- A new record carries no pin (R48). -/
theorem State.addPeer_own_unpins {s : State} (hw : s.NoneWaits) (station : Nat) : s.Unpins (s.addPeer station false) := by
  have room := State.makeRoom_unpins hw
  simp only [State.addPeer]
  split
  · have joined : s.makeRoom.Unpins
        (s.makeRoom.setPtb (s.makeRoom.ptb ++ [Peer.first station s.makeRoom.ms false])) := by
      refine State.setPtb_unpins fun f p hp hc => ?_
      rcases List.mem_append.mp hp with hp | hp
      · exact ⟨p, hp, hc⟩
      · rw [List.mem_singleton.mp hp, Peer.first_carries] at hc
        exact absurd hc Bool.false_ne_true
    refine room.trans (joined.trans (State.foreignAfter_unpins ?_))
    simp [State.foreignSeen, Peer.foreignVehicle, Peer.first]
  · exact room

theorem refreshed_carries {src ms : Nat} {t : List Peer} {p : Peer} {f : Pin} (hp : p ∈ refreshed src ms t)
    (hc : p.carries f = true) : ∃ q ∈ t, q.carries f = true := by
  obtain ⟨q, hq, rfl⟩ := List.mem_map.mp hp
  refine ⟨q, hq, hc ▸ ?_⟩
  split
  · cases f with
    | ahead => rfl
    | slot k => cases k <;> rfl
  · rfl

theorem foreignSeen_refreshed {s : State} {src ms : Nat} :
    (s.setPtb (refreshed src ms s.ptb)).foreignSeen = true → s.foreignSeen = true := by
  simp only [State.foreignSeen, State.setPtb_ptb, List.any_eq_true, refreshed, List.mem_map]
  rintro ⟨p, ⟨q, hq, rfl⟩, hp⟩
  refine ⟨q, hq, ?_⟩
  split at hp
  · simp [Peer.foreignVehicle] at hp
  · exact hp

/-- A hearing of the own signature pins nothing, whether the sender has a record or not (R48, R50). -/
theorem State.hear_unpins {s : State} (hw : s.NoneWaits) (src : Nat) : s.Unpins (s.hear src) := by
  simp only [State.hear, State.hearOwn]
  split
  · split
    · have heard : s.Unpins (s.setPtb (refreshed src s.ms s.ptb)) :=
        State.setPtb_unpins fun f p hp hc => refreshed_carries hp hc
      exact heard.trans (State.foreignAfter_unpins foreignSeen_refreshed)
    · exact State.addPeer_own_unpins hw src
  · exact .refl s

/-! ### A FREE from the blocking station (R126, R128) -/

/-- The claim check reads stations and data alone (R125). -/
theorem State.claimCheck_alike {s u : State} {f : Peer → Peer} (hf : ∀ p : Peer, p.Alike (f p))
    (hp : u.ptb = s.ptb.map f) (hc : u.cfg = s.cfg) (leaveOut : Option Nat) (x : Nat) :
    u.claimCheck leaveOut x = s.claimCheck leaveOut x := by
  have hst : Peer.station ∘ f = Peer.station := funext fun p => (hf p).1
  rw [State.claimCheck, State.claimCheck, hp, hc, List.filter_map, List.map_map, hst]
  congr 2
  refine List.filter_congr fun p _ => ?_
  obtain ⟨hstation, hdata, -⟩ := hf p
  simp only [Function.comp_apply, Peer.isVehicle, hstation, hdata]

/-- With no record in the way a lifted block re-claims the slot, and leaves at most the removal of the record that was
pinned (R57, R128). -/
theorem State.liftBlock_reclaims {s : State} {k : SlotId} {x src : Nat} (hx : (s.scu.slot k).scene = some x)
    (hb : (s.scu.slot k).blocking = some src) (hc : s.claimCheck (some src) x = none)
    (hw : (s.enterClaiming k x).NoneWaits) : (s.reclaimed k x).Unpins (s.liftBlock k) := by
  have hlift : s.liftBlock k = (s.enterClaiming k x).pin (.slot k) none := by
    simp only [State.liftBlock, State.liftWith, hx, hb, hc]
    rfl
  have hptb : (s.enterClaiming k x).ptb = s.ptb := by simp
  rw [hlift, State.reclaimed, ← hptb]
  exact State.pin_unpins hw ..

/-- A slot that does not wait takes no notice of a FREE (R128). -/
theorem State.freeHeard_of_not_waiting {s : State} {k : SlotId} (h : (s.scu.slot k).state ≠ .waiting) (src x : Nat) :
    s.freeHeard src x k = s := by
  simp [State.freeHeard, Slot.waitsOn, h]

theorem State.enterClaiming_noneWaits {s : State} {k : SlotId} {x : Nat} (hq : s.ni.queue.length < 6)
    (ho : (s.scu.slot (otherSlot k)).state ≠ .waiting) : (s.enterClaiming k x).NoneWaits := by
  obtain ⟨hst, -, -, -, hother, -, -⟩ := State.enterClaiming_slots (k := k) (x := x) hq
  have hk : ((s.enterClaiming k x).scu.slot k).state ≠ .waiting := by simp [hst]
  have hok : ((s.enterClaiming k x).scu.slot (otherSlot k)).state ≠ .waiting := hother ▸ ho
  intro j
  cases k <;> cases j
  · exact hk
  · exact hok
  · exact hok
  · exact hk

/-- The FREE of the blocking station re-claims the one slot that waits (R128). -/
theorem State.freeAtSlots_reclaims {s : State} {k : SlotId} {x src : Nat} (hw : (s.scu.slot k).state = .waiting)
    (hx : (s.scu.slot k).scene = some x) (hb : (s.scu.slot k).blocking = some src)
    (hc : s.claimCheck (some src) x = none) (hq : s.ni.queue.length < 6)
    (ho : (s.scu.slot (otherSlot k)).state ≠ .waiting) : (s.reclaimed k x).Unpins (s.freeAtSlots src x) := by
  have hnone := State.enterClaiming_noneWaits (x := x) hq ho
  have hlift := State.liftBlock_reclaims hx hb hc hnone
  have hfree : s.freeHeard src x k = s.liftBlock k := if_pos ⟨by simp [Slot.waitsOn, hw, hb], hx⟩
  cases k with
  | one =>
    rw [State.freeAtSlots, hfree, State.freeHeard_of_not_waiting (hlift.noneWaits (by exact hnone) .two)]
    exact hlift
  | two =>
    rw [State.freeAtSlots, State.freeHeard_of_not_waiting (k := .one) ho, hfree]
    exact hlift

/-- The slot has gone from WAITING to CLAIMING, with its window started, its CLAIM requested and its pin gone; the ride
is as it was (R57, R126, R128). -/
structure State.TakenBack (dt x : Nat) (k : SlotId) (s t : State) : Prop where
  state : (t.scu.slot k).state = .claiming
  scene : (t.scu.slot k).scene = some x
  window : (t.scu.slot k).window = some ((s.now + dt) / 1000 + s.cfg.opt.claimWindow)
  blocking : (t.scu.slot k).blocking = none
  claim : .claim x ∈ t.ni.queue
  unpinned : ∀ p ∈ t.ptb, p.carries (.slot k) = false
  rest : t.dsc = s.dsc ∧ t.sau = s.sau ∧ t.rsq = s.rsq ∧ t.rm = s.rm ∧ t.spe = s.spe ∧ t.cfg = s.cfg ∧ t.cfs = s.cfs
    ∧ t.now = s.now + dt

/-- What follows the re-claiming in state `u` of the reception takes nothing of it back, and nothing falls due with
it. -/
theorem State.takenBack_of_unpins {dt x : Nat} {k : SlotId} {s u t : State} (hu : s.Meets dt u)
    (hq : u.ni.queue.length < 6) (hdue : s.NothingDue) (h : (u.reclaimed k x).Unpins t)
    (hrest : t.dsc = s.dsc ∧ t.sau = s.sau ∧ t.rsq = s.rsq ∧ t.rm = s.rm ∧ t.spe = s.spe ∧ t.cfg = s.cfg
      ∧ t.cfs = s.cfs ∧ t.now = s.now + dt) : s.TakenBack dt x k (t.afterSlots s.scu) := by
  obtain ⟨hst, hsc, hwin, hblk, hother, hotherScene, hclaim⟩ := State.enterClaiming_slots (k := k) (x := x) hq
  have hscu : t.scu = (u.enterClaiming k x).scu := h.scu
  have ⟨_, _, hrsq, _, _, hcfg, _⟩ := hrest
  have hdone : t.NothingDue := by
    refine hdue.of_not_held k hrsq hcfg ?_ ?_ ?_
    · simp [hscu, hst]
    · rw [hscu, hother, hu.scu]
    · rw [hscu, hotherScene, hu.scu]
  rw [State.afterSlots_of_nothingDue hdone]
  refine ⟨hscu ▸ hst, hscu ▸ hsc, ?_, hscu ▸ hblk, h.claims x hclaim, h.clear fun p hp => carries_namePin_none hp, hrest⟩
  rw [hscu, hwin, State.ms, hu.now, hu.cfg]

/-- The FREE acts before or after the hearing of its sender (R33, R128). -/
theorem State.Receives.takesBack {s : State} {h : Header} {x : Nat} {k : SlotId}
    (hr : s.Receives ⟨h.src, h.sig, .free x⟩) (hdue : s.NothingDue) (hw : (s.scu.slot k).state = .waiting)
    (hx : (s.scu.slot k).scene = some x) (hb : (s.scu.slot k).blocking = some h.src)
    (hc : s.claimCheck (some h.src) x = none) (hq : s.ni.queue.length < 6)
    (ho : (s.scu.slot (otherSlot k)).state ≠ .waiting) (dt : Nat) :
    s.TakenBack dt x k ((s.elapse dt).receive ⟨h.src, h.sig, .free x⟩) := by
  have room {u : State} (hu : s.Meets dt u) : u.ni.queue.length < 6 := hu.queue ▸ hq
  have frees {u : State} (hu : s.Meets dt u) : (u.reclaimed k x).Unpins (u.freeAtSlots h.src x) := by
    obtain ⟨f, hf, hpeers⟩ := hu.peers
    exact State.freeAtSlots_reclaims (hu.scu ▸ hw) (hu.scu ▸ hx) (hu.scu ▸ hb)
      ((State.claimCheck_alike hf hpeers hu.cfg ..).trans hc) (room hu) (hu.scu ▸ ho)
  refine State.receive_beside (P := s.TakenBack dt x k) (State.freeAtSlots h.src x) hr rfl ?first ?last
  case first =>
    have hu := s.meets_heardFirst dt h.src
    exact State.takenBack_of_unpins hu (room hu) hdue (frees hu) (by simp [State.heardFirst, State.heard])
  case last =>
    have hu := s.meets_heardLast dt
    have hnone : ((s.heardLast dt).freeAtSlots h.src x).NoneWaits :=
      (frees hu).noneWaits (State.enterClaiming_noneWaits (room hu) (hu.scu ▸ ho))
    exact State.takenBack_of_unpins hu (room hu) hdue ((frees hu).trans (State.hear_unpins hnone h.src))
      (by simp [State.heardLast, State.netted])

end Sys2Proof.Machine

open Sys2Proof.Machine in
/-- Settles O19: once the slot is re-claimed no slot waits, and what the removal of an overdue record or a hearing then
does to the table leaves the claim as it is. -/
theorem freeFromTheBlockerReclaims : Obligations.FreeFromTheBlockerReclaims := by
  unfold Obligations.FreeFromTheBlockerReclaims
  intro dt h x k s hr hdue _ hw hx hb hc hq ho
  obtain ⟨hst, hsc, hwin, hblk, hclaim, hpins, hrest⟩ := hr.takesBack hdue hw hx hb hc (by omega) ho dt
  exact ⟨_, rfl, hst, hsc, hwin, hblk, hclaim, hpins, hrest⟩
